-- ==== Sys2Proof/Word.lean ====
section
/-! DEFINITION. The plain number types of the station: bytes, 16-bit words, and the index types of
channels, zones, stations and alarm ids. -/

namespace Sys2Proof

/-- A byte of a link (11 R198). -/
abbrev Byte := BitVec 8

/-- A 16-bit word of a payload or of the station port (11 R198). -/
abbrev Word := BitVec 16

/-- A channel number, 0 to 7 (03 R38). -/
abbrev Chan := Fin 8

/-- A zone number, 0 to 3 (04 R64). -/
abbrev Zone := Fin 4

/-- A station by its index: station number n of the spec, 1 to 16, is index n - 1. -/
abbrev Station := Fin 16

/-- The station number, 1 to 16, of a station index. -/
abbrev stationNumber (n : Station) : Nat := n.val + 1

/-- An id of the alarm catalog, 0 to 113 (07 R130). -/
abbrev AlarmId := Fin 114

end Sys2Proof
end

