-- ==== Sys2Proof/Config.lean ====
section
/-! DEFINITION. The configuration record of 10 R192 as the station holds it after clamping (R194), and
the fixed quantities of the part. The spec leaves no value open that an implementation fixes, so
there is no free value here. -/

namespace Sys2Proof

/-- Bit times of 4 us in `n` milliseconds (01 section 1.2): 250 bit times make one millisecond. -/
abbrev ms (n : Nat) : Nat := 250 * n

/-- Bit times in `n` seconds. -/
abbrev seconds (n : Nat) : Nat := 250000 * n

/-- Role of a fan channel (06 R114). -/
inductive FanRole
  | cooler
  | fixed
deriving DecidableEq, Repr

/-- The FUEL part of a channel's configuration (10 R192, 03 R38). -/
structure FuelCfg where
  zone : Zone
  rank : Nat
  trim : Bool
  igniter : Bool
  ncv : Nat
  airFactor : Nat
  fmin : Nat
  fmax : Nat
  ramp : Nat
  proving : Nat
  lockout : Nat
deriving DecidableEq, Repr

/-- The FAN part of a channel's configuration (10 R192, 06 R114); `zone` is the served zone. -/
structure FanCfg where
  zone : Zone
  role : FanRole
  loadZone : Zone
  fbase : Nat
  fmin : Nat
  fmax : Nat
  recup : Nat
  pRef : Nat
  pLow : Nat
  gBed : Nat
  gT : Nat
  pull : Nat
  slew : Nat
deriving DecidableEq, Repr

/-- A channel's configuration by its kind (03 R38). -/
inductive ChanCfg
  | unused
  | fuel (f : FuelCfg)
  | fan (f : FanCfg)
deriving DecidableEq, Repr

/-- The per-zone part of the configuration record (10 R192). -/
structure ZoneCfg where
  lambda : Nat
  purgeAir : Nat
  purgeTime : Nat
  readyWindow : Nat
  flameResponse : Nat
  maxHeat : Nat
  nominalHeat : Nat
  slew : Nat
  tripHold : Nat
deriving DecidableEq, Repr

/-- The configuration record of 10 R192. `expected` has bit n - 1 for station n, `scanners` bit z for zone z. -/
structure Config where
  station : Station
  expected : Word
  b0 : Nat
  b1 : Nat
  b2 : Nat
  scanners : BitVec 4
  tLim : Nat
  clinkerPresent : Bool
  zones : Vector ZoneCfg 4
  chans : Vector ChanCfg 8
deriving DecidableEq, Repr

end Sys2Proof
end

