-- ==== Sys2Proof/Syntax.lean ====
section
/-! DEFINITION. The commands the station takes: one constructor for each row of spec/opcode_table.json,
in the order of the table. The table gives no operands; they are read from the rules (10 R203 for
requests, 11 R199 and R202 for records, the numbered thing a timer belongs to for expiries). -/

namespace Sys2Proof

/-- A sample point of 03 R39: a combination of a source and a quantity. -/
inductive PointId
  | feed (c : Chan)
  | valve (c : Chan)
  | fault (c : Chan)
  | flow (c : Chan)
  | bed (c : Chan)
  | flame (z : Zone)
  | clinker
deriving DecidableEq, Repr

/-- The commands. Words of a request are its argument words as the host sent them. -/
inductive Instr
  /-- POWER_ON_RESET (R196): the supply rises. -/
  | powerOnReset
  /-- RESET_N_ASSERTION (R196). -/
  | resetNAssertion
  /-- STATION_RESET (R196): SP takes the request in work. -/
  | stationReset
  /-- DEFERRAL_EXPIRY (R3): the quiet time has reached the head frame's deferral. -/
  | deferralExpiry
  /-- YIELD (R4): the line turns busy. -/
  | lineYield
  /-- COLLISION (R5): a read-back bit differs. -/
  | collision
  /-- TRANSMIT_COMPLETION (R5): the last CRC bit read back as sent. -/
  | transmitCompletion
  /-- RECEIVE_FRAME (R14): the line goes quiet after `bytes` whole bytes and `oddBits` further bits. -/
  | receiveFrame (bytes : List Byte) (oddBits : Fin 8)
  /-- LINE_DEGRADED_EXPIRY (R8). -/
  | lineDegradedExpiry
  /-- DUPLICATE_STATION_EXPIRY (R15). -/
  | duplicateStationExpiry
  /-- LINE_ISOLATION_TIMEOUT (R18). -/
  | lineIsolationTimeout
  /-- PERIODIC_SNAP_OFFER (R21). -/
  | periodicSnapOffer
  /-- CHANGE_SNAP_OFFER (R21). -/
  | changeSnapOffer
  /-- SNAP_TAKEN (R29): PT takes the head of the receive queue. -/
  | snapTaken
  /-- STALE_TIMEOUT (R31) of the record of station `n`. -/
  | staleTimeout (n : Station)
  /-- EXPIRED_TIMEOUT (R31) of the record of station `n`. -/
  | expiredTimeout (n : Station)
  /-- ABSENT_PEER_TIMEOUT (R33) of station `n`. -/
  | absentPeerTimeout (n : Station)
  /-- LISTEN_END (R35). -/
  | listenEnd
  /-- FIELD_RECORD_FAIL (R202): the record whose bytes after the sync byte are `received` fails;
  `gap` when the last of them came after a gap above 1 ms. -/
  | fieldRecordFail (received : List Byte) (gap : Bool)
  /-- SAMPLE_RECORD (R39): a sample record that passed the framing check. -/
  | sampleRecord (source : Byte) (quantity : Byte) (value : Word) (quality : Byte) (elapsed : Word)
  /-- SAMPLE_HOLD_EXPIRY (R40) of a sample point. -/
  | sampleHoldExpiry (p : PointId)
  /-- FIELD_PORT_SILENT (R43). -/
  | fieldPortSilent
  /-- COMMAND_SEND (R44): the field port transmitter takes the next waiting record. -/
  | commandSend
  /-- ACTUATOR_REPLY (R45): a reply record that passed the framing check. -/
  | actuatorReply (channel : Byte) (tag : Byte) (code : Byte)
  /-- REPLY_WINDOW_EXPIRY (R45). -/
  | replyWindowExpiry (c : Chan)
  /-- ACTUATOR_SLOW_EXPIRY (R46). -/
  | actuatorSlowExpiry (c : Chan)
  /-- RAMP_STEP (R49). -/
  | rampStep (c : Chan)
  /-- UNLOCKED_CLOCK_EXPIRY (R51). -/
  | unlockedClockExpiry (c : Chan)
  /-- ACQUIRING_CLOCK_EXPIRY (R51). -/
  | acquiringClockExpiry (c : Chan)
  /-- CHANNEL_START (R54, R60). -/
  | channelStart (channel : Word)
  /-- CHANNEL_STOP (R55, R60). -/
  | channelStop (channel : Word)
  /-- RESET_TRIP (R59, R61). -/
  | resetTrip (channel : Word)
  /-- RELEASE_LOCKOUT (R59, R60). -/
  | releaseLockout (channel : Word)
  /-- FAN_START_CLOCK_EXPIRY (R60). -/
  | fanStartClockExpiry (c : Chan)
  /-- FAN_LOW_FLOW_EXPIRY (R61). -/
  | fanLowFlowExpiry (c : Chan)
  /-- ZONE_PURGE (R67). -/
  | zonePurge (zone : Word)
  /-- PURGE_TIMER_EXPIRY (R68). -/
  | purgeTimerExpiry (z : Zone)
  /-- READY_WINDOW_EXPIRY (R70). -/
  | readyWindowExpiry (z : Zone)
  /-- PROVING_WINDOW_EXPIRY (R71, R72). -/
  | provingWindowExpiry (c : Chan)
  /-- FLAME_FAILURE_EXPIRY (R75). -/
  | flameFailureExpiry (z : Zone)
  /-- FLICKER_EXPIRY (R74). -/
  | flickerExpiry (z : Zone)
  /-- AIR_FAILURE_EXPIRY (R77). -/
  | airFailureExpiry (z : Zone)
  /-- ESD_ASSERTION (R78). -/
  | esdAssertion
  /-- ESD_RELEASE (R78). -/
  | esdRelease
  /-- ZONE_TRIP (R79). -/
  | zoneTrip (zone : Word)
  /-- ZONE_RESET (R79). -/
  | zoneReset (zone : Word)
  /-- TRIP_TAKEN (R82): ZS takes the head of the receive queue. -/
  | tripTaken
  /-- TRIP_HOLD_EXPIRY (R86). -/
  | tripHoldExpiry (z : Zone)
  /-- SET_DEMAND (R91). -/
  | setDemand (zone : Word) (target : Word)
  /-- DEMAND_TAKEN (R93): FA takes the head of the receive queue. -/
  | demandTaken
  /-- DEMAND_SLEW_STEP (R95). -/
  | demandSlewStep (z : Zone)
  /-- PASS_PERIOD (R96). -/
  | passPeriod (z : Zone)
  /-- PASS_COMPLETION (R98). -/
  | passCompletion (z : Zone)
  /-- DEMAND_UNREACHABLE_EXPIRY (R111). -/
  | demandUnreachableExpiry (z : Zone)
  /-- BLOW_THROUGH_EXPIRY (R123). -/
  | blowThroughExpiry (c : Chan)
  /-- CLINKER_TEMP_HIGH_EXPIRY (R126). -/
  | clinkerTempHighExpiry
  /-- ACK_ALARM (R138, R159). -/
  | ackAlarm (origin : Word) (id : Word) (seq : Word)
  /-- ACK_TAKEN (R139): AL takes the head of the receive queue. -/
  | ackTaken
  /-- SHELVE (R140). -/
  | shelve (id : Word) (minutes : Word)
  /-- UNSHELVE (R141). -/
  | unshelve (id : Word)
  /-- SHELVE_EXPIRY (R141). -/
  | shelveExpiry (id : AlarmId)
  /-- ALERT_TAKEN (R152): FV takes the head of the receive queue. -/
  | alertTaken
  /-- TIME_BASE_TICK (R163): one second of the driving source. -/
  | timeBaseTick
  /-- SHIFT_BOUNDARY (R173). -/
  | shiftBoundary
  /-- CRYSTAL_CHECK_PASS (R164). -/
  | crystalCheckPass
  /-- CRYSTAL_CHECK_FAIL (R164). -/
  | crystalCheckFail
  /-- RUNNING_SECOND (R171). -/
  | runningSecond (c : Chan)
  /-- SET_TIME (R165): day count, the word with bit 16 of the second in bit 0, the low 16 bits. -/
  | setTime (day : Word) (secHigh : Word) (secLow : Word)
  /-- SHIFT_TAKEN (R181): SR takes the head of the receive queue. -/
  | shiftTaken
  /-- TRANSACTION_START (R184): the host asserts select. -/
  | transactionStart
  /-- ANSWER_DELIVERED (R184): select stayed asserted through the last answer word. -/
  | answerDelivered
  /-- TRANSACTION_END (R185): the host releases select after shifting in `words` in the request phase;
  `cut` when a further word was begun and not completed. -/
  | transactionEnd (words : List Word) (cut : Bool)
  /-- LOAD_CONFIG (R195): the 156 argument words of R203. -/
  | loadConfig (words : List Word)
  /-- READ_CONFIG (R189). -/
  | readConfig
  /-- READ_STATUS (R188). -/
  | readStatus
  /-- READ_CHANNEL (R189). -/
  | readChannel (channel : Word)
  /-- READ_ZONE (R189). -/
  | readZone (zone : Word)
  /-- READ_PEER (R189). -/
  | readPeer (station : Word)
  /-- READ_RUN (R190). -/
  | readRun (collection : Word) (slot : Word) (start : Word) (count : Word)
  /-- READ_LINE_STATS (R189). -/
  | readLineStats
  /-- RESET_N_RELEASE (R196). -/
  | resetNRelease
deriving DecidableEq, Repr

end Sys2Proof
end

