-- ==== Sys2Proof/Decode.lean ====
section
/-! DEFINITION. The words that spell a command. No row of the opcode table gives bits (the table's `fields` are
empty), so no word spells one (log 6). -/

namespace Sys2Proof

/-- The command that a word of `nbits` bits spells by the table's bits: none (log 6). -/
def decodeTableWord (nbits w : Nat) : Option Instr :=
  match nbits, w with
  | _, _ => none

end Sys2Proof
end

