-- ==== Sys2Proof/Machine/State.lean ====
section
/-! DEFINITION. The state of the station: what each of the ten blocks owns (00 section 0.3), the pins,
the elapsed time, and the queue of waiting commands. Plain data throughout. Times are elapsed time in
bit times of 4 us; a timer is held as the moment it runs out, absent while it is stopped. -/

namespace Sys2Proof.Machine

/-! ### Shared small types -/

/-- Station mode (02 R34). -/
inductive Mode
  | unconfigured
  | starting
  | normal
  | isolated
deriving DecidableEq, Repr

/-- A value of the time base with its time-valid flag (09 R163, 11 R198). `sec` is 17 bits on the wire. -/
structure Stamp where
  day : Word
  sec : Nat
  valid : Bool
deriving DecidableEq, Repr

/-- Frame class (01 R1). -/
inductive FrameClass
  | trip
  | alert
  | ack
  | demand
  | snap
  | shift
deriving DecidableEq, Repr

/-- Zone state (04 R64). -/
inductive ZoneState
  | dark
  | purging
  | ready
  | lit
  | tripped
deriving DecidableEq, Repr

/-- Channel state: the fuel states and the fan states of 03 R38; OFF and RUNNING are shared. -/
inductive ChState
  | off
  | offUnusable
  | proving
  | running
  | limited
  | stopping
  | tripped
  | lockedOut
  | starting
  | fanFault
deriving DecidableEq, Repr

/-- Trip cause of a fuel channel (03 R57). -/
inductive TripCause
  | zoneTrip
  | actuatorFailure
  | feederFault
  | lightOffFail
deriving DecidableEq, Repr

/-- Cause of a zone trip (04 R84). -/
inductive ZoneCause
  | flameFailure
  | airFailure
  | tripInput
  | hostTrip
  | peerTrip
deriving DecidableEq, Repr

/-! ### LI, the line interface (01) -/

/-- A frame of the transmit queue (01 R9). `resume` is the resume index of a SNAP (02 R25), `closeId`
the close that a SHIFT frame announces (09 R178); both are 0 for other classes. -/
structure TxFrame where
  cls : FrameClass
  seq : Byte
  payload : List Word
  age : Nat
  collisions : Nat
  inSend : Bool
  resume : Nat
  closeId : Nat
deriving DecidableEq, Repr

/-- A peer frame of the receive queue (01 R16). -/
structure RxFrame where
  cls : FrameClass
  origin : Station
  seq : Byte
  payload : List Word
deriving DecidableEq, Repr

/-- State of LI. LINE_DEGRADED and DUPLICATE_STATION are condition values of AL. -/
structure LineIf where
  tx : List TxFrame
  rx : List RxFrame
  seqs : Vector Byte 6
  sent : BitVec 32
  collisions : BitVec 32
  discards : BitVec 32
  crcDrops : BitVec 32
  overruns : BitVec 32
  duplicates : BitVec 32
  discardTimes : List Nat
  lastDegrading : Option Nat
  lastDuplicate : Option Nat
  completionTime : Nat
  acceptedMark : Bool
  rxTime : Nat
  quietSince : Option Nat
  rxAbandoned : Bool
deriving DecidableEq, Repr

/-! ### PT, the peer table (02) -/

/-- Freshness of a peer record (02 R31). -/
inductive Freshness
  | absent
  | fresh
  | stale
  | expired
deriving DecidableEq, Repr

/-- A demand as records, frames and zone blocks carry it (05 R90). -/
structure Demand where
  target : Nat
  epoch : Word
  setter : Station
deriving DecidableEq, Repr

/-- A zone block of a SNAP (02 R26). -/
structure ZoneBlock where
  zone : Zone
  state : ZoneState
  epoch : Option Word
  demand : Option Demand
  scanner : Option Bool
  fuelOpen : Bool
deriving DecidableEq, Repr

/-- The FUEL form of a channel summary (02 R27). -/
structure FuelSummary where
  chan : Chan
  zone : Zone
  state : ChState
  rank : Nat
  trim : Bool
  igniter : Bool
  hmin : Nat
  hmaxEff : Nat
  alloc : Nat
  actual : Nat
  airFactor : Nat
  valveOpen : Bool
deriving DecidableEq, Repr

/-- The FAN form of a channel summary (02 R27). -/
structure FanSummary where
  chan : Chan
  zone : Zone
  state : ChState
  flow : Nat
  recup : Nat
deriving DecidableEq, Repr

/-- A channel summary (02 R27). -/
inductive Summary
  | fuel (f : FuelSummary)
  | fan (f : FanSummary)
deriving DecidableEq, Repr

/-- A peer record (02 R28). `lastAt` measures the freshness timers, `lastStamp` is the same moment as a
time stamp for READ_PEER. -/
structure PeerRecord where
  fresh : Freshness
  expected : Bool
  lastSeq : Option Byte
  lastAt : Option Nat
  lastStamp : Option Stamp
  mode : Option Mode
  shift : Option Word
  timeValid : Bool
  listed : Nat
  zones : List ZoneBlock
  chans : List Summary
deriving DecidableEq, Repr

/-- The content of the last SNAP offered that R22 compares. -/
structure Published where
  chans : Vector ChState 8
  zones : Vector ZoneState 4
  allocs : Vector Nat 8
  listed : Nat
deriving DecidableEq, Repr

/-- State of PT. -/
structure PeerTable where
  mode : Mode
  startTime : Nat
  peers : Vector PeerRecord 16
  rollIndex : Nat
  changeMark : Bool
  lastOffer : Nat
  published : Published
deriving DecidableEq, Repr

/-! ### CE, the channel engine (03) -/

/-- Condition of a sample point (03 R40). -/
inductive PointCond
  | noValue
  | current
  | held
  | substituted
deriving DecidableEq, Repr

/-- A sample point (03 R40): `last` is the last good value, `hold` the end of a hold. -/
structure Point where
  cond : PointCond
  last : Option Nat
  hold : Option Nat
  uncertain : Nat
deriving DecidableEq, Repr

/-- An actuator command (03 section 3.3). -/
inductive Cmd
  | setFeed (kgPerHour : Nat)
  | setFlow (flow : Nat)
  | igniter (on : Bool)
deriving DecidableEq, Repr

/-- A command in flight (03 R44). `window` is the end of the reply window, absent until the first byte
of the record has left the port. -/
structure InFlight where
  cmd : Cmd
  tag : Byte
  attempt : Nat
  busy : Nat
  window : Option Nat
deriving DecidableEq, Repr

/-- A command record on its way to the concentrator (11 R202), with the moment its command was sent. -/
structure CmdRecord where
  chan : Chan
  tag : Byte
  cmd : Cmd
  sentAt : Nat
deriving DecidableEq, Repr

/-- Feeder tracking (03 R50): `tracking` false is sub-state ACQUIRING, `lastDev` the deviation of the last
evaluated sample, from which the in-band flag follows. -/
structure Tracking where
  tracking : Bool
  locked : Bool
  within : Nat
  outside : Nat
  lastDev : Option Nat
deriving DecidableEq, Repr

/-- A proof in progress (04 R71, R72): an igniter proof or a feed proof, whether the IGNITER on it ordered has
been sent, whether its SHUT release has been ordered, and the end of its proving window. -/
structure Proof where
  igniter : Bool
  sent : Bool
  released : Bool
  window : Nat
deriving DecidableEq, Repr

/-- A repeat history (03 R38, R58): the cause and the time of the last counting trip. `clock` is the time on CE's
running clock, which the lockout window is measured on, `stamp` the same moment as a time stamp for READ_CHANNEL
(11 R203). -/
structure TripHistory where
  cause : TripCause
  clock : Nat
  stamp : Stamp
deriving DecidableEq, Repr

/-- A channel record (03 R38) with its clocks. `setpoint` is the feed setpoint of a fuel channel and the
flow setpoint of a fan. -/
structure Channel where
  state : ChState
  cause : Option TripCause
  hmin : Nat
  hmax : Nat
  hmaxEff : Nat
  alloc : Nat
  actual : Nat
  target : Nat
  setpoint : Nat
  rampNext : Option Nat
  track : Option Tracking
  unlockedClock : Option Nat
  acquiringClock : Option Nat
  inFlight : Option InFlight
  queued : Option Cmd
  feedDue : Bool
  igniterOff : Bool
  tagCtr : Byte
  igniter : Bool
  slowSince : Option Nat
  history : Option TripHistory
  shutReleased : Bool
  proof : Option Proof
  startClock : Option Nat
  lowFlowClock : Option Nat
  adopted : Bool
  feedPt : Point
  valvePt : Point
  faultPt : Point
  flowPt : Point
  bedPt : Point
deriving DecidableEq, Repr

/-- The field port receiver (11 R202): hunting; in a record with the bytes after its sync byte; or at a whole record
that stands at the front of the bytes `got` after its sync byte and is taken next, behind which a gap above 1 ms and then
the byte `late` came. -/
inductive FieldRx
  | hunting
  | inRecord (got : List Byte)
  | beforeGap (got : List Byte) (late : Byte)
deriving DecidableEq, Repr

/-- State of CE. -/
structure ChannelEngine where
  chans : Vector Channel 8
  flames : Vector Point 4
  clinker : Point
  silenceSince : Nat
  waiting : List CmdRecord
  busyUntil : Nat
  onPort : Option CmdRecord
  fieldRx : FieldRx
deriving DecidableEq, Repr

/-! ### FA, the firing allocator (05); its records are copied by ZS's trip snapshot -/

/-- A zone demand record (05 R90): `known` absent is the unknown flag true. -/
structure DemandRecord where
  known : Option Demand
  dEff : Nat
  slewClock : Option Nat
  unannounced : Bool
deriving DecidableEq, Repr

/-- A fuel member of an allocation pass (05 R99): `counted` is the counted heat of a fixed member. -/
structure Member where
  station : Station
  chan : Chan
  hmin : Nat
  hmaxEff : Nat
  actual : Nat
  rank : Nat
  trim : Bool
  airFactor : Nat
  counted : Nat
deriving DecidableEq, Repr

/-- The snapshot a pass computes from (05 R97), sorted into the sets of R99. -/
structure PassInput where
  dEff : Nat
  lambda : Nat
  supply : Nat
  allocatable : List Member
  fixed : List Member
deriving DecidableEq, Repr

/-- A pass in progress (05 R97); `doomed` once the zone has left LIT during it (R112). -/
structure Pass where
  input : PassInput
  doomed : Bool
deriving DecidableEq, Repr

/-- An air balance record (05 R109). -/
structure AirBalance where
  supply : Nat
  minAir : Nat
  allocAir : Nat
  airLeft : Nat
  shortfall : Nat
  dEff : Nat
  airShort : Bool
  airLimited : Bool
  minBound : Bool
  demandUnmet : Bool
  passCount : BitVec 32
deriving DecidableEq, Repr

/-- FA's state of one zone: the air balance record, the DEMAND_UNMET clock (R111), the period clock and
dirty mark (R96, R97), and the pass in progress. -/
structure Firing where
  air : AirBalance
  unmetClock : Option Nat
  period : Option Nat
  dirty : Bool
  pass : Option Pass
deriving DecidableEq, Repr

/-- State of FA. -/
structure Allocator where
  demands : Vector DemandRecord 4
  zones : Vector Firing 4
deriving DecidableEq, Repr

/-! ### ZS, the zone supervisor (04) -/

/-- A cause entry of a first-out record (04 R84). -/
structure CauseEntry where
  cause : ZoneCause
  origin : Station
  channel : Option Chan
  peerCause : Option ZoneCause
  time : Stamp
  epoch : Word
  value : Option Nat
deriving DecidableEq, Repr

/-- A first-out record that is not clear (04 R84). -/
structure FirstOut where
  entry : CauseEntry
  later : List CauseEntry
  dropped : Nat
deriving DecidableEq, Repr

/-- One channel of a trip snapshot (04 R85). -/
structure SnapChannel where
  chan : Chan
  state : ChState
  alloc : Nat
  actual : Nat
  setpoint : Nat
  feed : Option Nat
deriving DecidableEq, Repr

/-- A trip snapshot (04 R85). -/
structure TripSnapshot where
  time : Stamp
  epoch : Word
  cause : ZoneCause
  dEff : Nat
  air : AirBalance
  chans : List SnapChannel
deriving DecidableEq, Repr

/-- The trip-hold timer (04 R64). -/
inductive TripHold
  | stopped
  | running (until_ : Nat)
  | expired
deriving DecidableEq, Repr

/-- A flicker time (04 R64, R74): `moment` in elapsed time, and the same moment as a time stamp for READ_ZONE
(11 R203). -/
structure Flicker where
  moment : Nat
  stamp : Stamp
deriving DecidableEq, Repr

/-- A zone record (04 R64), with the flame view as last judged (R65). PURGE_ABORTED, FLAME_UNSTABLE and
ZONE_TRIP are condition values of AL. -/
structure ZoneRec where
  state : ZoneState
  view : Bool
  purgeTimer : Option Nat
  readyTimer : Option Nat
  flameTimer : Option Nat
  flameLost : Bool
  flickers : List Flicker
  airClock : Option Nat
  tripHold : TripHold
  epoch : Option Word
  firstOut : Option FirstOut
  snapshot : Option TripSnapshot
deriving DecidableEq, Repr

/-- State of ZS. -/
structure ZoneSupervisor where
  zones : Vector ZoneRec 4
deriving DecidableEq, Repr

/-! ### CR, the cooler regulator (06) -/

/-- The last computation of a COOLER fan (06 R115). -/
structure Computation where
  load : Nat
  f1 : Int
  f2 : Int
  f3 : Int
  f4 : Int
  f5 : Nat
  elapsed : Nat
  stepLimit : Nat
deriving DecidableEq, Repr

/-- A regulator record (06 R115). BED_PRESSURE_LOW is a condition value of AL. -/
structure Regulator where
  last : Option Computation
  slewLimited : Bool
  blowClock : Option Nat
  frozen : Bool
deriving DecidableEq, Repr

/-- State of CR: `held` is the held shortfall of each zone (06 R120). -/
structure Cooler where
  regs : Vector Regulator 8
  held : Vector Nat 4
  highClock : Option Nat
deriving DecidableEq, Repr

/-! ### AL, the alarm list (07) -/

/-- State of an alarm entry (07 R132). -/
inductive AlarmState
  | activeUnack
  | activeAcked
  | clearedUnack
  | shelved
deriving DecidableEq, Repr

/-- The condition record of an id (07 R131). `condValue` is the value at raise taken with the condition. -/
structure AlarmRec where
  cond : Bool
  condValue : Option Nat
  waiting : Bool
  shiftRaises : Nat
  announce : Bool
  lastSeq : Option Word
  lastTime : Option Stamp
  lastValue : Option Nat
deriving DecidableEq, Repr

/-- An entry of the own alarm list (07 R132). Priority, shift raise count and UNANNOUNCED are those of
the id; `shelveEnd` is the moment the shelve runs out. -/
structure AlarmEntry where
  id : AlarmId
  state : AlarmState
  seq : Word
  raiseTime : Stamp
  clearTime : Option Stamp
  value : Option Nat
  shelveEnd : Option Nat
deriving DecidableEq, Repr

/-- State of AL. -/
structure AlarmList where
  recs : Vector AlarmRec 114
  list : List AlarmEntry
  counter : Word
  p1 : Nat
  p2 : Nat
  p3 : Nat
deriving DecidableEq, Repr

/-! ### FV, the floor alarm view (08) -/

/-- A mirror entry (08 R150). The priority is the catalog priority of the id. -/
structure Mirror where
  origin : Station
  id : AlarmId
  state : AlarmState
  seq : Word
  raiseTime : Stamp
  seen : Bool
  lost : Bool
deriving DecidableEq, Repr

/-- The roll-call state of a peer (08 R154): `opened` false is pass NONE. -/
structure RollCall where
  opened : Bool
  whole : Bool
  prevIndex : Nat
  prevLast : Bool
deriving DecidableEq, Repr

/-- State of FV. -/
structure FloorView where
  view : List Mirror
  full : Bool
  roll : Vector RollCall 16
deriving DecidableEq, Repr

/-! ### SR, the shift totalizer and report store (09) -/

/-- The crystal check (09 R164). -/
inductive Crystal
  | waiting
  | passing
  | failed
deriving DecidableEq, Repr

/-- An account of a channel (09 R168). For a fan `mass` is the volume. `runRem` is the running remainder
in bit times as of `runFrom`, the moment since which the channel runs. -/
structure Account where
  mass : Nat
  lifeMass : Nat
  massRem : Nat
  energy : Nat
  lifeEnergy : Nat
  energyRem : Nat
  run : Nat
  lifeRun : Nat
  runRem : Nat
  runFrom : Option Nat
  count : Nat
  estimated : Bool
deriving DecidableEq, Repr

/-- Closure kind of a shift (09 R176). -/
inductive CloseKind
  | clock
  | timeSet
  | peer
deriving DecidableEq, Repr

/-- One channel entry of a shift record (09 R176). For a fan `mass` is the volume and `energy` 0. -/
structure ShiftEntry where
  chan : Chan
  fuel : Bool
  mass : Nat
  energy : Nat
  run : Nat
  count : Nat
  estimated : Bool
deriving DecidableEq, Repr

/-- A shift record in the ring, with its announce mark (09 R176 to R178). -/
structure ShiftRecord where
  closeId : Nat
  number : Word
  kind : CloseKind
  incomplete : Bool
  estimated : Bool
  gap : Bool
  start : Stamp
  ended : Stamp
  chans : List ShiftEntry
  zoneTrips : Nat
  p1 : Nat
  p2 : Nat
  p3 : Nat
  tempMax : Option Nat
  tempMean : Option Nat
  unannounced : Bool
deriving DecidableEq, Repr

/-- A station entry of the floor summary: the content of one SHIFT frame (09 R179). -/
structure StationSummary where
  station : Station
  kind : CloseKind
  incomplete : Bool
  energy : Nat
  volume : Nat
  zoneTrips : Nat
  p1 : Nat
deriving DecidableEq, Repr

/-- A slot of the floor summary (09 R179); entries in ascending station order. -/
structure SummarySlot where
  number : Word
  entries : List StationSummary
deriving DecidableEq, Repr

/-- State of SR. -/
structure ShiftStore where
  day : Word
  sec : Nat
  valid : Bool
  everValid : Bool
  crystal : Crystal
  crystalSince : Nat
  clockLost : Bool
  setSinceFail : Bool
  shift : Option Word
  shiftStart : Stamp
  accts : Vector Account 8
  zoneTrips : Nat
  tempMax : Option Nat
  tempSum : Nat
  tempCount : Nat
  estimated : Bool
  gap : Bool
  incomplete : Bool
  ring : List ShiftRecord
  summary : List SummarySlot
  boundaryDue : Bool
  closeCount : Nat
deriving DecidableEq, Repr

/-! ### SP, the station port (10) -/

/-- Reasons of a refusal, in the order of 11 R203. -/
inductive Reason
  | notConfigured
  | alreadyConfigured
  | badArgument
  | state
  | permissive
  | firstOutPending
  | stale
  | originLost
  | queueFull
  | busy
  | ended
deriving DecidableEq, Repr

/-- The status of an answer (10 R186). -/
inductive Status
  | ok
  | clamped
  | refused (r : Reason)
deriving DecidableEq, Repr

/-- An answer (10 R186): request code, status with reason, value word, data words. -/
structure Answer where
  code : Byte
  status : Status
  value : Word
  data : List Word
deriving DecidableEq, Repr

/-- The response buffer (10 R184). -/
inductive Buffer
  | empty
  | inWork (code : Byte) (args : List Word)
  | ready (a : Answer)
deriving DecidableEq, Repr

/-- The transaction on the station port (10 R183 to R185, R197): none; shifting out an answer; its
request phase discarded; its request phase taken; abandoned by a reset. -/
inductive Txn
  | idle
  | answering
  | discarding
  | requesting
  | abandoned
deriving DecidableEq, Repr

/-- The notice set (10 R191), in the order of its table. -/
structure Notices where
  alarmChanged : Bool
  p1Raised : Bool
  channelState : Bool
  zoneState : Bool
  shiftClosed : Bool
  peerChange : Bool
  configNeeded : Bool
deriving DecidableEq, Repr

/-- State of SP; `out` holds the words of the response phase of the transaction in progress, whose request phase
shifts out words of value 0 (10 R183). -/
structure StationPort where
  buffer : Buffer
  txn : Txn
  out : List Word
  notices : Notices
  portErrors : Nat
deriving DecidableEq, Repr

/-! ### The whole station -/

/-- The station. `pending` is the queue of waiting commands, first in first out. -/
structure State where
  pending : List Instr
  now : Nat
  powerOn : Nat
  esd : Bool
  resetHeld : Bool
  config : Option Config
  li : LineIf
  pt : PeerTable
  ce : ChannelEngine
  zs : ZoneSupervisor
  fa : Allocator
  cr : Cooler
  al : AlarmList
  fv : FloorView
  sr : ShiftStore
  sp : StationPort
deriving DecidableEq, Repr

/-- Reasons to stop with a fault. The spec gives the station no behaviour that stops it. -/
inductive Fault
  /-- Raised by no command: every command of the table has an effect in every state. Safe. -/
  | noFault
deriving DecidableEq, Repr

/-- Reasons to refuse a command. -/
inductive Refusal
  /-- Raised by an arm of `exec` whose command has no meaning yet; there is no such arm. Safe. -/
  | notModelled (mnemonic : String)
deriving DecidableEq, Repr

/-! ### Values after a power-on reset -/

/-- A time stamp of the time base as power-on leaves it (09 R163). -/
def Stamp.zero : Stamp := ⟨0, 0, false⟩

/-- LI after a power-on reset (01 R20). DESIGN CHOICE: the line is quiet since moment 0 (log 4). -/
def LineIf.initial : LineIf where
  tx := []
  rx := []
  seqs := Vector.replicate 6 0
  sent := 0
  collisions := 0
  discards := 0
  crcDrops := 0
  overruns := 0
  duplicates := 0
  discardTimes := []
  lastDegrading := none
  lastDuplicate := none
  completionTime := 0
  acceptedMark := false
  rxTime := 0
  quietSince := some 0
  rxAbandoned := false

/-- An ABSENT peer record (02 R28). -/
def PeerRecord.absentRecord (expected : Bool) : PeerRecord where
  fresh := .absent
  expected := expected
  lastSeq := none
  lastAt := none
  lastStamp := none
  mode := none
  shift := none
  timeValid := false
  listed := 0
  zones := []
  chans := []

/-- The compared SNAP content before any SNAP. -/
def Published.initial : Published where
  chans := Vector.replicate 8 .off
  zones := Vector.replicate 4 .dark
  allocs := Vector.replicate 8 0
  listed := 0

/-- PT after a power-on reset (02 R37). -/
def PeerTable.initial : PeerTable where
  mode := .unconfigured
  startTime := 0
  peers := Vector.replicate 16 (PeerRecord.absentRecord false)
  rollIndex := 0
  changeMark := false
  lastOffer := 0
  published := Published.initial

/-- A sample point after a reset (03 R63). -/
def Point.initial : Point := ⟨.noValue, none, none, 0⟩

/-- A channel record after a power-on reset (03 R63): OFF, SHUT asserted. -/
def Channel.initial : Channel where
  state := .off
  cause := none
  hmin := 0
  hmax := 0
  hmaxEff := 0
  alloc := 0
  actual := 0
  target := 0
  setpoint := 0
  rampNext := none
  track := none
  unlockedClock := none
  acquiringClock := none
  inFlight := none
  queued := none
  feedDue := false
  igniterOff := false
  tagCtr := 0
  igniter := false
  slowSince := none
  history := none
  shutReleased := false
  proof := none
  startClock := none
  lowFlowClock := none
  adopted := false
  feedPt := Point.initial
  valvePt := Point.initial
  faultPt := Point.initial
  flowPt := Point.initial
  bedPt := Point.initial

/-- CE after a power-on reset (03 R63). -/
def ChannelEngine.initial : ChannelEngine where
  chans := Vector.replicate 8 Channel.initial
  flames := Vector.replicate 4 Point.initial
  clinker := Point.initial
  silenceSince := 0
  waiting := []
  busyUntil := 0
  onPort := none
  fieldRx := .hunting

/-- A zone record after a power-on reset (04 R89). -/
def ZoneRec.initial : ZoneRec where
  state := .dark
  view := false
  purgeTimer := none
  readyTimer := none
  flameTimer := none
  flameLost := false
  flickers := []
  airClock := none
  tripHold := .stopped
  epoch := none
  firstOut := none
  snapshot := none

/-- ZS after a power-on reset (04 R89). -/
def ZoneSupervisor.initial : ZoneSupervisor := ⟨Vector.replicate 4 ZoneRec.initial⟩

/-- An unknown demand record (05 R113). -/
def DemandRecord.initial : DemandRecord := ⟨none, 0, none, false⟩

/-- An air balance record after a reset (05 R113). -/
def AirBalance.initial : AirBalance where
  supply := 0
  minAir := 0
  allocAir := 0
  airLeft := 0
  shortfall := 0
  dEff := 0
  airShort := false
  airLimited := false
  minBound := false
  demandUnmet := false
  passCount := 0

/-- FA's state of a zone after a reset (05 R113). -/
def Firing.initial : Firing := ⟨AirBalance.initial, none, none, false, none⟩

/-- FA after either reset (05 R113). -/
def Allocator.initial : Allocator :=
  ⟨Vector.replicate 4 DemandRecord.initial, Vector.replicate 4 Firing.initial⟩

/-- A regulator record after a reset (06 R129). -/
def Regulator.initial : Regulator := ⟨none, false, none, false⟩

/-- CR after either reset (06 R129). -/
def Cooler.initial : Cooler := ⟨Vector.replicate 8 Regulator.initial, Vector.replicate 4 0, none⟩

/-- A condition record after a power-on reset (07 R149). -/
def AlarmRec.initial : AlarmRec := ⟨false, none, false, 0, false, none, none, none⟩

/-- AL after a power-on reset (07 R149). -/
def AlarmList.initial : AlarmList where
  recs := Vector.replicate 114 AlarmRec.initial
  list := []
  counter := 0
  p1 := 0
  p2 := 0
  p3 := 0

/-- A roll-call state with pass NONE (08 R154). DESIGN CHOICE: the flags and the previous index, which the rule gives
for an open pass only, start false, 0 and false, and stand as they were when the pass returns to NONE (log 34). -/
def RollCall.initial : RollCall := ⟨false, false, 0, false⟩

/-- FV after either reset (08 R162). -/
def FloorView.initial : FloorView := ⟨[], false, Vector.replicate 16 RollCall.initial⟩

/-- An account after a power-on reset (09 R182). -/
def Account.initial : Account := ⟨0, 0, 0, 0, 0, 0, 0, 0, 0, none, 0, false⟩

/-- SR after a power-on reset (09 R182): the INCOMPLETE mark is set (R172). -/
def ShiftStore.initial : ShiftStore where
  day := 0
  sec := 0
  valid := false
  everValid := false
  crystal := .waiting
  crystalSince := 0
  clockLost := false
  setSinceFail := false
  shift := none
  shiftStart := Stamp.zero
  accts := Vector.replicate 8 Account.initial
  zoneTrips := 0
  tempMax := none
  tempSum := 0
  tempCount := 0
  estimated := false
  gap := false
  incomplete := true
  ring := []
  summary := []
  boundaryDue := false
  closeCount := 0

/-- The empty notice set. -/
def Notices.none : Notices := ⟨false, false, false, false, false, false, false⟩

/-- SP after a power-on reset (10 R197): CONFIG_NEEDED is set. -/
def StationPort.initial : StationPort where
  buffer := .empty
  txn := .idle
  out := []
  notices := { Notices.none with configNeeded := true }
  portErrors := 0

/-- The station right after a power-on reset. DEDUCED: ESD_N reads asserted, since the pin has a
pull-down and no circuit is attached (11 section 11.6, log 3). -/
def State.reset : State where
  pending := []
  now := 0
  powerOn := 0
  esd := true
  resetHeld := false
  config := .none
  li := LineIf.initial
  pt := PeerTable.initial
  ce := ChannelEngine.initial
  zs := ZoneSupervisor.initial
  fa := Allocator.initial
  cr := Cooler.initial
  al := AlarmList.initial
  fv := FloorView.initial
  sr := ShiftStore.initial
  sp := StationPort.initial

end Sys2Proof.Machine
end

