-- ==== Sys2Proof/Machine/Bits.lean ====
section
/-! DEFINITION. Bytes and words, serial comparison, rounding, and the CRC-16 (00 section 0.5, 11 R198). -/

namespace Sys2Proof.Machine

/-- The high byte of a word (11 R198). -/
def hiByte (w : Word) : Byte := w.extractLsb' 8 8

/-- The low byte of a word (11 R198). -/
def loByte (w : Word) : Byte := w.extractLsb' 0 8

/-- A word from its two bytes, high byte first (11 R198). -/
def wordOf (hi lo : Byte) : Word := hi ++ lo

/-- A number as one word. -/
def w16 (n : Nat) : Word := BitVec.ofNat 16 n

/-- A number as one byte. -/
def b8 (n : Nat) : Byte := BitVec.ofNat 8 n

/-- A word from two byte values. -/
def bytesWord (hi lo : Nat) : Word := wordOf (b8 hi) (b8 lo)

/-- The bits of a byte in the order the floor line sends them, most significant first (11 R198). -/
def byteBits (b : Byte) : List Bool := [7, 6, 5, 4, 3, 2, 1, 0].map fun i => b.getLsbD i

/-- The two levels of a bit time: a 0 is low then high, a 1 high then low (11 R198). -/
def bitLevels (b : Bool) : List Bool := [b, !b]

/-- The levels of bytes on the floor line. -/
def lineLevelsOf (bytes : List Byte) : List Bool := bytes.flatMap fun b => (byteBits b).flatMap bitLevels

/-- A 32-bit value as two words, high word first (11 R198). -/
def words32 (n : Nat) : List Word := [w16 (n / 65536), w16 n]

/-- A 48-bit value as three words, highest first (11 R198). -/
def words48 (n : Nat) : List Word := [w16 (n / 4294967296), w16 (n / 65536), w16 n]

/-- A truth value as 0 or 1. -/
def bit (b : Bool) : Nat := if b then 1 else 0

/-- `a` is serially newer than `b`: (a - b) modulo 2^n lies between 1 and 2^(n-1) - 1 (00 section 0.5). -/
def serialNewer {n : Nat} (a b : BitVec n) : Bool :=
  decide (1 ≤ (a - b).toNat ∧ (a - b).toNat + 1 ≤ 2 ^ (n - 1))

/-- round-half-up of a / b, that is floor(a/b + 1/2) (00 section 0.5). -/
def roundDiv (a b : Nat) : Nat := (2 * a + b) / (2 * b)

/-- ceil(a / b) (00 section 0.5). -/
def ceilDiv (a b : Nat) : Nat := (a + b - 1) / b

/-- clamp(x, a, b) of 00 section 0.5. -/
def clampNat (x a b : Nat) : Nat := if x < a then a else if b < x then b else x

/-- clamp on integers (00 section 0.5). -/
def clampInt (x a b : Int) : Int := if x < a then a else if b < x then b else x

/-- The lesser of `x` and the bound `m`: "stays at m once it reaches it". -/
def satAdd (x d m : Nat) : Nat := min (x + d) m

/-- A count that stays at 65535 (0.5 "saturating"). -/
def satInc16 (x : Nat) : Nat := satAdd x 1 65535

/-! ### Time stamps (11 R198) -/

/-- A time stamp as three words. -/
def Stamp.words (t : Stamp) : List Word :=
  [t.day, w16 (bit t.valid * 32768 + t.sec / 65536 % 2), w16 t.sec]

/-- A time stamp from its three words. -/
def stampOf (w0 w1 w2 : Word) : Stamp :=
  ⟨w0, (w1.toNat % 2) * 65536 + w2.toNat, w1.getLsbD 15⟩

/-! ### CRC-16 (11 R198) -/

/-- One bit into the CRC register: XOR into bit 15, shift left, XOR 0x1021 if the bit shifted out was 1. -/
def crcBit (r : Word) (b : Bool) : Word :=
  if (r.getLsbD 15 != b) then (r <<< 1) ^^^ 0x1021#16 else r <<< 1

/-- One byte, most significant bit first. -/
def crcByte (r : Word) (b : Byte) : Word :=
  [7, 6, 5, 4, 3, 2, 1, 0].foldl (fun acc k => crcBit acc (b.getLsbD k)) r

/-- The CRC-16 of a list of bytes in the order sent. -/
def crc16 (bytes : List Byte) : Word := bytes.foldl crcByte 0xFFFF#16

end Sys2Proof.Machine
end

