-- ==== Sys2Proof/Machine/Layout.lean ====
section
/-! DEFINITION. The byte and word layouts of 11: floor frames (R199), payloads (R200, R201), field port
records (R202). Each payload has a message type, the words the station sends for it, and the parser a
receiver applies, which answers none where the rules drop the frame. -/

namespace Sys2Proof.Machine

/-! ### Codes -/

/-- Class code, which is the priority number (01 R1, 11 R199). -/
def FrameClass.code : FrameClass → Nat
  | .trip => 0
  | .alert => 1
  | .ack => 2
  | .demand => 3
  | .snap => 4
  | .shift => 5

/-- The class of a code; none for an unknown class (11 R199). -/
def classOf (n : Nat) : Option FrameClass :=
  match n with
  | 0 => some .trip
  | 1 => some .alert
  | 2 => some .ack
  | 3 => some .demand
  | 4 => some .snap
  | 5 => some .shift
  | _ => none

/-- The index of a class among the six sequence counters (01 R2). -/
def FrameClass.index : FrameClass → Fin 6
  | .trip => 0
  | .alert => 1
  | .ack => 2
  | .demand => 3
  | .snap => 4
  | .shift => 5

/-- The station of a number 1 to 16. -/
def stationOf (n : Nat) : Option Station :=
  if h : 1 ≤ n ∧ n ≤ 16 then some ⟨n - 1, by omega⟩ else none

/-- The zone of a number 0 to 3. -/
def zoneOf (n : Nat) : Option Zone := if h : n < 4 then some ⟨n, h⟩ else none

/-- The channel of a number 0 to 7. -/
def chanOf (n : Nat) : Option Chan := if h : n < 8 then some ⟨n, h⟩ else none

/-- The alarm id of a number 0 to 113. -/
def alarmIdOf (n : Nat) : Option AlarmId := if h : n < 114 then some ⟨n, h⟩ else none

/-- Mode codes of a SNAP (11 R200); UNCONFIGURED sends none. -/
def Mode.code : Mode → Nat
  | .unconfigured => 0
  | .starting => 1
  | .normal => 2
  | .isolated => 3

/-- The mode of a SNAP's code (02 R29). -/
def modeOf (n : Nat) : Option Mode :=
  match n with
  | 1 => some .starting
  | 2 => some .normal
  | 3 => some .isolated
  | _ => none

/-- Zone state codes (11 R200). -/
def ZoneState.code : ZoneState → Nat
  | .dark => 1
  | .purging => 2
  | .ready => 3
  | .lit => 4
  | .tripped => 5

/-- The zone state of a code. -/
def zoneStateOf (n : Nat) : Option ZoneState :=
  match n with
  | 1 => some .dark
  | 2 => some .purging
  | 3 => some .ready
  | 4 => some .lit
  | 5 => some .tripped
  | _ => none

/-- Fuel state codes (11 R200). -/
def ChState.fuelCode : ChState → Nat
  | .off => 1
  | .offUnusable => 2
  | .proving => 3
  | .running => 4
  | .limited => 5
  | .stopping => 6
  | .tripped => 7
  | .lockedOut => 8
  | .starting => 0
  | .fanFault => 0

/-- The fuel state of a code. -/
def fuelStateOf (n : Nat) : Option ChState :=
  match n with
  | 1 => some .off
  | 2 => some .offUnusable
  | 3 => some .proving
  | 4 => some .running
  | 5 => some .limited
  | 6 => some .stopping
  | 7 => some .tripped
  | 8 => some .lockedOut
  | _ => none

/-- Fan state codes (11 R200). -/
def ChState.fanCode : ChState → Nat
  | .off => 1
  | .starting => 2
  | .running => 3
  | .fanFault => 4
  | _ => 0

/-- The fan state of a code. -/
def fanStateOf (n : Nat) : Option ChState :=
  match n with
  | 1 => some .off
  | 2 => some .starting
  | 3 => some .running
  | 4 => some .fanFault
  | _ => none

/-- Alarm state codes (11 R200, R201); REMOVED is 5. -/
def AlarmState.code : AlarmState → Nat
  | .activeUnack => 1
  | .activeAcked => 2
  | .clearedUnack => 3
  | .shelved => 4

/-- The alarm state of a code 1 to 4. -/
def alarmStateOf (n : Nat) : Option AlarmState :=
  match n with
  | 1 => some .activeUnack
  | 2 => some .activeAcked
  | 3 => some .clearedUnack
  | 4 => some .shelved
  | _ => none

/-- Cause codes of a TRIP frame (11 R201). -/
def ZoneCause.code : ZoneCause → Nat
  | .flameFailure => 1
  | .airFailure => 2
  | .tripInput => 3
  | .hostTrip => 4
  | .peerTrip => 5

/-- The cause of a TRIP frame's code (04 R82). -/
def zoneCauseOf (n : Nat) : Option ZoneCause :=
  match n with
  | 1 => some .flameFailure
  | 2 => some .airFailure
  | 3 => some .tripInput
  | 4 => some .hostTrip
  | _ => none

/-- Trip cause codes (11 R201). -/
def TripCause.code : TripCause → Nat
  | .zoneTrip => 1
  | .actuatorFailure => 2
  | .feederFault => 3
  | .lightOffFail => 4

/-- Closure kind codes (11 R201). -/
def CloseKind.code : CloseKind → Nat
  | .clock => 1
  | .timeSet => 2
  | .peer => 3

/-- The closure kind of a code. -/
def closeKindOf (n : Nat) : Option CloseKind :=
  match n with
  | 1 => some .clock
  | 2 => some .timeSet
  | 3 => some .peer
  | _ => none

/-! ### Floor frames (11 R199) -/

/-- Words as bytes, high byte first (11 R198). -/
def wordBytes (ws : List Word) : List Byte := ws.flatMap (fun w => [hiByte w, loByte w])

/-- Bytes as words; a last single byte is left out. -/
def byteWords : List Byte → List Word
  | a :: b :: rest => wordOf a b :: byteWords rest
  | _ => []

/-- Header and payload of a frame, which the CRC covers. -/
def frameBody (cls : FrameClass) (origin : Station) (seq : Byte) (payload : List Word) : List Byte :=
  [b8 cls.code, b8 (stationNumber origin), seq, b8 (payload.length - 1)] ++ wordBytes payload

/-- The bytes of a frame as sent (11 R199). -/
def frameBytes (cls : FrameClass) (origin : Station) (seq : Byte) (payload : List Word) : List Byte :=
  frameBody cls origin seq payload ++ wordBytes [crc16 (frameBody cls origin seq payload)]

/-- Bit times a frame of `n` payload words occupies on the line (11 R199). -/
def frameBitTimes (n : Nat) : Nat := 8 * (2 * n + 6)

/-- The test of 01 R14 on a received run of bits: CRC, length, class, origin. -/
def parseFrame (bytes : List Byte) (oddBits : Nat) : Option RxFrame :=
  match bytes with
  | cls :: origin :: seq :: len :: rest =>
    if oddBits = 0 ∧ bytes.length % 2 = 0 ∧ 8 ≤ bytes.length ∧ len.toNat ≤ 127
        ∧ (bytes.length - 6) / 2 = len.toNat + 1
        ∧ byteWords (bytes.drop (bytes.length - 2)) = [crc16 (bytes.take (bytes.length - 2))] then
      match classOf cls.toNat, stationOf origin.toNat with
      | some c, some n => some ⟨c, n, seq, byteWords (rest.take (rest.length - 2))⟩
      | _, _ => none
    else none
  | _ => none

/-- The target station number LI reads from an ACK (11 R199). -/
def ackTarget (payload : List Word) : Nat := (hiByte (payload.headD 0)).toNat

/-! ### TRIP (11 R201) -/

/-- The content of a TRIP frame. -/
structure TripMsg where
  zone : Zone
  epoch : Word
  cause : ZoneCause
  channel : Option Chan
deriving DecidableEq, Repr

/-- The payload words of a TRIP. -/
def TripMsg.words (m : TripMsg) : List Word :=
  [bytesWord m.zone.val m.cause.code, m.epoch,
    match m.channel with
    | some c => bytesWord 1 c.val
    | none => 0]

/-- The checks of 04 R82 on a TRIP payload. -/
def parseTrip (payload : List Word) : Option TripMsg :=
  match payload with
  | [w0, w1, w2] =>
    match zoneOf (hiByte w0).toNat, zoneCauseOf (loByte w0).toNat with
    | some z, some cause =>
      if hiByte w2 = 0 then some ⟨z, w1, cause, none⟩
      else if hiByte w2 = 1 then
        match chanOf (loByte w2).toNat with
        | some c => some ⟨z, w1, cause, some c⟩
        | none => none
      else none
    | _, _ => none
  | _ => none

/-! ### ALERT (11 R201) -/

/-- The content of an ALERT frame; `state` absent is REMOVED. -/
structure AlertMsg where
  id : AlarmId
  priority : Nat
  state : Option AlarmState
  seq : Word
  time : Stamp
  value : Option Nat
deriving DecidableEq, Repr

/-- The payload words of an ALERT. -/
def AlertMsg.words (m : AlertMsg) : List Word :=
  [bytesWord m.id.val m.priority,
    bytesWord (match m.state with
      | some s => s.code
      | none => 5) (bit m.value.isSome),
    m.seq] ++ m.time.words ++ [w16 (m.value.getD 0)]

/-- The layout and code checks of 08 R152 on an ALERT payload; the catalog priority is checked by FV. -/
def parseAlert (payload : List Word) : Option AlertMsg :=
  match payload with
  | [w0, w1, w2, w3, w4, w5, w6] =>
    match alarmIdOf (hiByte w0).toNat with
    | some id =>
      if (hiByte w1).toNat = 0 ∨ 5 < (hiByte w1).toNat then none
      else some ⟨id, (loByte w0).toNat, alarmStateOf (hiByte w1).toNat, w2, stampOf w3 w4 w5,
        if (loByte w1).getLsbD 0 then some w6.toNat else none⟩
    | none => none
  | _ => none

/-! ### ACK and DEMAND (11 R201) -/

/-- The payload words of an ACK. -/
def ackWords (target : Station) (id : AlarmId) (seq : Word) : List Word :=
  [bytesWord (stationNumber target) id.val, seq]

/-- The payload words of a DEMAND. -/
def demandWords (z : Zone) (d : Demand) : List Word :=
  [bytesWord z.val (stationNumber d.setter), w16 d.target, d.epoch]

/-- The checks of 05 R93 on a DEMAND payload. -/
def parseDemand (payload : List Word) : Option (Zone × Demand) :=
  match payload with
  | [w0, w1, w2] =>
    match zoneOf (hiByte w0).toNat, stationOf (loByte w0).toNat with
    | some z, some n => some (z, ⟨w1.toNat, w2, n⟩)
    | _, _ => none
  | _ => none

/-! ### SHIFT (11 R201) -/

/-- The content of a SHIFT frame. -/
structure ShiftMsg where
  number : Word
  summary : StationSummary
deriving DecidableEq, Repr

/-- The payload words of a SHIFT. -/
def ShiftMsg.words (m : ShiftMsg) : List Word :=
  [bytesWord (stationNumber m.summary.station) 0,
    bytesWord m.summary.kind.code (bit m.summary.incomplete), m.number]
    ++ words32 m.summary.energy ++ words32 m.summary.volume ++ [w16 m.summary.zoneTrips, w16 m.summary.p1]

/-- The checks of 09 R181 on a SHIFT payload from `origin`. -/
def parseShift (origin : Station) (payload : List Word) : Option ShiftMsg :=
  match payload with
  | [w0, w1, w2, w3, w4, w5, w6, w7, w8] =>
    if (hiByte w0).toNat = stationNumber origin then
      match closeKindOf (hiByte w1).toNat with
      | some k => some ⟨w2, ⟨origin, k, (loByte w1).getLsbD 0, w3.toNat * 65536 + w4.toNat,
          w5.toNat * 65536 + w6.toNat, w7.toNat, w8.toNat⟩⟩
      | none => none
    else none
  | _ => none

/-! ### SNAP (11 R200) -/

/-- The roll-call entry of a SNAP as received: codes are judged by 08 R155. -/
structure RollEntry where
  id : Nat
  priority : Nat
  state : Nat
  seq : Word
  time : Stamp
deriving DecidableEq, Repr

/-- The content of a SNAP (02 R24, R26, R27). -/
structure SnapMsg where
  mode : Mode
  shift : Option Word
  timeValid : Bool
  listed : Nat
  index : Nat
  entry : Option RollEntry
  zones : List ZoneBlock
  chans : List Summary
deriving DecidableEq, Repr

/-- The words of a roll-call entry. -/
def RollEntry.words (e : RollEntry) : List Word :=
  [bytesWord e.id e.priority, bytesWord e.state 0, e.seq] ++ e.time.words

/-- The words of a zone block. -/
def ZoneBlock.words (b : ZoneBlock) : List Word :=
  [bytesWord b.zone.val b.state.code,
    w16 (bit b.demand.isSome + 2 * bit b.scanner.isSome + 4 * bit (b.scanner.getD false)
      + 8 * bit b.fuelOpen + 16 * bit b.epoch.isSome),
    b.epoch.getD 0,
    w16 ((b.demand.map Demand.target).getD 0),
    (b.demand.map Demand.epoch).getD 0,
    bytesWord ((b.demand.map (fun d => stationNumber d.setter)).getD 0) 0]

/-- The words of a channel summary. -/
def Summary.words : Summary → List Word
  | .fuel f => [bytesWord f.chan.val 1,
      bytesWord f.state.fuelCode (bit f.trim + 2 * bit f.igniter + 4 * bit f.valveOpen),
      bytesWord f.zone.val f.rank, w16 f.hmin, w16 f.hmaxEff, w16 f.alloc, w16 f.actual, w16 f.airFactor]
  | .fan f => [bytesWord f.chan.val 2, bytesWord f.state.fanCode 0, bytesWord f.zone.val 0,
      w16 f.flow, w16 f.recup]

/-- The payload words of a SNAP. -/
def SnapMsg.words (m : SnapMsg) : List Word :=
  [bytesWord m.mode.code (bit m.shift.isSome + 2 * bit m.timeValid + 4 * bit m.entry.isSome),
    m.shift.getD 0, bytesWord m.listed m.index, bytesWord m.zones.length m.chans.length]
    ++ (match m.entry with
      | some e => e.words
      | none => [])
    ++ m.zones.flatMap ZoneBlock.words ++ m.chans.flatMap Summary.words

/-- One zone block from six words; none where a field is out of range (02 R29). -/
def parseZoneBlock (w0 w1 w2 w3 w4 w5 : Word) : Option ZoneBlock :=
  match zoneOf (hiByte w0).toNat, zoneStateOf (loByte w0).toNat with
  | some z, some st =>
    let epoch := if w1.getLsbD 4 then some w2 else none
    let scanner := if w1.getLsbD 1 then some (w1.getLsbD 2) else none
    if w1.getLsbD 0 then
      match stationOf (hiByte w5).toNat with
      | some n => some ⟨z, st, epoch, some ⟨w3.toNat, w4, n⟩, scanner, w1.getLsbD 3⟩
      | none => none
    else some ⟨z, st, epoch, none, scanner, w1.getLsbD 3⟩
  | _, _ => none

/-- `n` zone blocks, and the words after them. -/
def parseZoneBlocks : Nat → List Word → Option (List ZoneBlock × List Word)
  | 0, ws => some ([], ws)
  | n + 1, w0 :: w1 :: w2 :: w3 :: w4 :: w5 :: rest =>
    match parseZoneBlock w0 w1 w2 w3 w4 w5, parseZoneBlocks n rest with
    | some b, some (bs, ws) => some (b :: bs, ws)
    | _, _ => none
  | _ + 1, _ => none

/-- One channel summary and the words after it; none where a field is out of range (02 R29, 11 R200). -/
def parseSummary (ws : List Word) : Option (Summary × List Word) :=
  match ws with
  | w0 :: w1 :: w2 :: w3 :: w4 :: rest =>
    match chanOf (hiByte w0).toNat, zoneOf (hiByte w2).toNat with
    | some c, some z =>
      if loByte w0 = 1 then
        match fuelStateOf (hiByte w1).toNat, rest with
        | some st, w5 :: w6 :: w7 :: rest' =>
          if (loByte w2).toNat ≤ 7 ∧ 600 ≤ w7.toNat ∧ w7.toNat ≤ 1400 then
            some (.fuel ⟨c, z, st, (loByte w2).toNat, w1.getLsbD 0, w1.getLsbD 1, w3.toNat, w4.toNat,
              w5.toNat, w6.toNat, w7.toNat, w1.getLsbD 2⟩, rest')
          else none
        | _, _ => none
      else if loByte w0 = 2 then
        match fanStateOf (hiByte w1).toNat with
        | some st => if w4.toNat ≤ 1000 then some (.fan ⟨c, z, st, w3.toNat, w4.toNat⟩, rest) else none
        | none => none
      else none
    | _, _ => none
  | _ => none

/-- `n` channel summaries, and the words after them. -/
def parseSummaries : Nat → List Word → Option (List Summary × List Word)
  | 0, ws => some ([], ws)
  | n + 1, ws =>
    match parseSummary ws with
    | some (s, rest) =>
      match parseSummaries n rest with
      | some (ss, ws') => some (s :: ss, ws')
      | none => none
    | none => none

/-- The channel of a summary. -/
def Summary.chan : Summary → Chan
  | .fuel f => f.chan
  | .fan f => f.chan

/-- The zone of a summary: fired or served. -/
def Summary.zone : Summary → Zone
  | .fuel f => f.zone
  | .fan f => f.zone

/-- The roll-call entry part: six words when the flag says so. -/
def parseRollEntry (present : Bool) (ws : List Word) : Option (Option RollEntry × List Word) :=
  if present then
    match ws with
    | w0 :: w1 :: w2 :: w3 :: w4 :: w5 :: rest =>
      some (some ⟨(hiByte w0).toNat, (loByte w0).toNat, (hiByte w1).toNat, w2, stampOf w3 w4 w5⟩, rest)
    | _ => none
  else some (none, ws)

/-- The parts after the station part: they must fill the payload exactly and name no zone or channel twice. -/
def parseParts (present : Bool) (nz nc : Nat) (ws : List Word) :
    Option (Option RollEntry × List ZoneBlock × List Summary) :=
  match parseRollEntry present ws with
  | some (e, r1) =>
    match parseZoneBlocks nz r1 with
    | some (bs, r2) =>
      match parseSummaries nc r2 with
      | some (ss, []) =>
        if (bs.map ZoneBlock.zone).Nodup ∧ (ss.map Summary.chan).Nodup then some (e, bs, ss) else none
      | _ => none
    | none => none
  | none => none

/-- The checks of 02 R29 on a SNAP payload. -/
def parseSnap (payload : List Word) : Option SnapMsg :=
  match payload with
  | w0 :: w1 :: w2 :: w3 :: rest =>
    if (hiByte w2).toNat ≤ 48 ∧ (loByte w2).toNat ≤ 47 ∧ (hiByte w3).toNat ≤ 4 ∧ (loByte w3).toNat ≤ 8 then
      match modeOf (hiByte w0).toNat,
          parseParts (w0.getLsbD 2) (hiByte w3).toNat (loByte w3).toNat rest with
      | some m, some (e, bs, ss) =>
        some ⟨m, if w0.getLsbD 0 then some w1 else none, w0.getLsbD 1, (hiByte w2).toNat,
          (loByte w2).toNat, e, bs, ss⟩
      | _, _ => none
    else none
  | _ => none

/-! ### Field port records (11 R202) -/

/-- Code and value of an actuator command. -/
def Cmd.code : Cmd → Nat
  | .setFeed _ => 1
  | .setFlow _ => 2
  | .igniter _ => 3

/-- The value word of an actuator command. -/
def Cmd.value : Cmd → Nat
  | .setFeed v => v
  | .setFlow v => v
  | .igniter on => bit on

/-- Kind byte and body of a command record. -/
def CmdRecord.body (r : CmdRecord) : List Byte :=
  [b8 2, b8 r.chan.val, r.tag, b8 r.cmd.code] ++ wordBytes [w16 r.cmd.value]

/-- The nine bytes of a command record on the port. -/
def CmdRecord.bytes (r : CmdRecord) : List Byte :=
  b8 0xC3 :: (r.body ++ wordBytes [crc16 r.body])

/-- Bit times the transmitter is busy with one command record: 9 bytes of 10 bits at 115,200 bit/s,
781.25 us, rounded up to whole bit times (11 section 11.6). -/
def cmdRecordTime : Nat := 196

/-- Body length of a record kind the station receives (11 R202). -/
def fieldBodyLength (kind : Byte) : Option Nat :=
  if kind = 1 then some 7 else if kind = 3 then some 3 else none

/-- The framing check of 11 R202 on the bytes after a sync byte: kind 1 or 3, all bytes there, CRC right. -/
def framingPasses (got : List Byte) : Bool :=
  match got with
  | kind :: rest =>
    match fieldBodyLength kind with
    | some n => decide (rest.length = n + 2 ∧ byteWords (rest.drop n) = [crc16 (got.take (n + 1))])
    | none => false
  | [] => false

/-- The command that a record makes, from its bytes after the sync byte: a sample or a reply that passes the framing
check is handed to CE with the fields of its body (11 R202); any other bytes make none. -/
def recordCommand (got : List Byte) : Option Instr :=
  if framingPasses got then
    match got with
    | [kind, source, quantity, v1, v0, quality, e1, e0, _, _] =>
      if kind = 1 then some (.sampleRecord source quantity (wordOf v1 v0) quality (wordOf e1 e0)) else none
    | [kind, channel, tag, code, _, _] => if kind = 3 then some (.actuatorReply channel tag code) else none
    | _ => none
  else none

/-- A record fails at these bytes after its sync byte: a kind byte other than 1 and 3, or a whole record
whose CRC does not check (11 R202). -/
def framingFails (got : List Byte) : Bool :=
  match got with
  | kind :: rest =>
    match fieldBodyLength kind with
    | some n => decide (rest.length = n + 2) && !framingPasses got
    | none => true
  | [] => false

/-- A whole record that passes stands at the front of the bytes after a sync byte. -/
def holdsRecord (got : List Byte) : Bool :=
  match fieldBodyLength (got.headD 0) with
  | some n => framingPasses (got.take (n + 3))
  | none => false

/-- The bytes after a sync byte are the beginning of a record of a kind the station receives, without its last byte
(11 R202). -/
def unfinishedRecord (got : List Byte) : Bool :=
  match got with
  | kind :: rest =>
    match fieldBodyLength kind with
    | some n => decide (rest.length < n + 2)
    | none => false
  | [] => true

/-- A record that fails stands at the front of the bytes after a sync byte. -/
def holdsFailure (got : List Byte) : Bool :=
  framingFails (got.take (match fieldBodyLength (got.headD 0) with
    | some n => n + 3
    | none => 1))

/-- The command of the whole record at the front of the bytes after a sync byte (11 R202). -/
def standingCommand (got : List Byte) : Option Instr :=
  match fieldBodyLength (got.headD 0) with
  | some n => recordCommand (got.take (n + 3))
  | none => none

/-- The command of a whole record left standing in the receiver, which is taken next (11 R202, log 28). -/
def FieldRx.command (rx : FieldRx) : Option Instr :=
  match rx with
  | .inRecord got => standingCommand got
  | .beforeGap got _ => standingCommand got
  | .hunting => none

/-- The receiver after a failure: it hunts again from the byte after the failed record's sync byte, so a
sync byte inside the false record is found (11 R202). -/
def rescan : List Byte → FieldRx
  | [] => .hunting
  | b :: rest =>
    if b = b8 0xC3 then (if holdsFailure rest then rescan rest else .inRecord rest) else rescan rest

/-- The receiver over bytes that came before a gap above 1 ms and the byte `late` behind it: no record reaches over the
gap, so it stops only at a whole record that passes before the gap, and else starts at `late` (11 R202). -/
def rescanGap (before : List Byte) (late : Byte) : FieldRx :=
  match before with
  | [] => rescan [late]
  | b :: rest => if b = b8 0xC3 ∧ holdsRecord rest then .beforeGap rest late else rescanGap rest late

/-- The receiver after a record that passed: it goes on with the bytes it holds behind that record's kind byte, body
and CRC (11 R202). -/
def FieldRx.behind (rx : FieldRx) (size : Nat) : FieldRx :=
  match rx with
  | .inRecord got => rescan (got.drop size)
  | .beforeGap got late => rescanGap (got.drop size) late
  | .hunting => .hunting

end Sys2Proof.Machine
end

