-- ==== Sys2Proof/Machine/ConfigRecord.lean ====
section
/-! DEFINITION. The configuration record on the station port: its 156 words (11 R203), the structural test
(10 R193), the clamping with its count (10 R194), the record as held, and the words READ_CONFIG returns. -/

namespace Sys2Proof.Machine

/-- Word `i` of the record. -/
def wordAt (ws : List Word) (i : Nat) : Nat := (ws.getD i 0).toNat

/-- First word of the part of zone `z`. -/
def zoneBase (z : Zone) : Nat := 8 + 9 * z.val

/-- First word of the part of channel `c`. -/
def chanBase (c : Chan) : Nat := 44 + 14 * c.val

def zonesUp : List Zone := [0, 1, 2, 3]
def chansUp : List Chan := [0, 1, 2, 3, 4, 5, 6, 7]

/-- Kind word of a channel: 0 UNUSED, 1 FUEL, 2 FAN. -/
def kindWord (ws : List Word) (c : Chan) : Nat := wordAt ws (chanBase c)

/-! ### Structural errors (10 R193) -/

/-- A structural error in the part of a channel. -/
def chanError (ws : List Word) (c : Chan) : Bool :=
  let b := chanBase c
  if kindWord ws c = 0 then false
  else if kindWord ws c = 1 then decide (3 < wordAt ws (b + 1)) || decide (wordAt ws (b + 8) < wordAt ws (b + 7))
  else if kindWord ws c = 2 then
    decide (3 < wordAt ws (b + 1)) || !(wordAt ws (b + 2) == 1 || wordAt ws (b + 2) == 2)
      || decide (3 < wordAt ws (b + 3)) || decide (wordAt ws (b + 6) < wordAt ws (b + 5))
  else true

/-- The channel is FUEL with the trim flag. -/
def trimWord (ws : List Word) (c : Chan) : Bool :=
  kindWord ws c == 1 && !(wordAt ws (chanBase c + 3) == 0)

/-- Two FUEL channels carry the trim flag and name one zone. -/
def trimClash (ws : List Word) : Bool :=
  chansUp.any fun c => chansUp.any fun d =>
    decide (c < d) && trimWord ws c && trimWord ws d
      && wordAt ws (chanBase c + 1) == wordAt ws (chanBase d + 1)

/-- The record has a structural error (10 R193). -/
def structuralError (ws : List Word) : Bool :=
  wordAt ws 0 == 0 || decide (16 < wordAt ws 0)
    || decide (1439 < wordAt ws 2) || decide (1439 < wordAt ws 3) || decide (1439 < wordAt ws 4)
    || !(decide (wordAt ws 2 < wordAt ws 3) && decide (wordAt ws 3 < wordAt ws 4))
    || chansUp.any (chanError ws) || trimClash ws

/-! ### Clamping (10 R192, R194) -/

/-- Ranges of the nine fields of a zone, in the order of 11 R203. -/
def zoneRanges : List (Nat × Nat) :=
  [(1000, 1600), (0, 65535), (60, 600), (60, 900), (1000, 4000), (0, 65535), (1, 65535), (1, 1000), (10, 300)]

/-- Places and ranges of the numeric fields of a FUEL channel, within its 14 words. -/
def fuelRanges : List (Nat × Nat × Nat) :=
  [(2, 0, 7), (5, 0, 40000), (6, 600, 1400), (7, 0, 65535), (8, 0, 65535), (9, 1, 65535), (10, 5, 60),
    (11, 60, 3600)]

/-- Places and ranges of the numeric fields of a FAN channel, within its 14 words. -/
def fanRanges : List (Nat × Nat × Nat) :=
  [(4, 0, 65535), (5, 0, 65535), (6, 0, 65535), (7, 0, 1000), (8, 0, 20000), (9, 0, 20000), (10, 0, 1000),
    (11, 0, 1000), (12, 0, 1000), (13, 1, 1000)]

/-- The numeric fields of the record that are judged: place, lowest and highest value (10 R192). -/
def numericFields (ws : List Word) : List (Nat × Nat × Nat) :=
  [(6, 0, 1500)]
    ++ zonesUp.flatMap (fun z => zoneRanges.zipIdx.map fun r => (zoneBase z + r.2, r.1.1, r.1.2))
    ++ chansUp.flatMap fun c =>
      let fields := if kindWord ws c = 1 then fuelRanges else if kindWord ws c = 2 then fanRanges else []
      fields.map fun r => (chanBase c + r.1, r.2.1, r.2.2)

/-- The field lies outside its range. -/
def outOfRange (ws : List Word) (f : Nat × Nat × Nat) : Bool :=
  decide (wordAt ws f.1 < f.2.1) || decide (f.2.2 < wordAt ws f.1)

/-- The number of fields that clamping changes (10 R194). -/
def clampedCount (ws : List Word) : Nat := (numericFields ws).countP (outOfRange ws)

/-- The record with every numeric field in its range (10 R194). -/
def clampWords (ws : List Word) : List Word :=
  (numericFields ws).foldl (fun acc f => acc.set f.1 (w16 (clampNat (wordAt ws f.1) f.2.1 f.2.2))) ws

/-! ### The record as held -/

/-- The zone of a word in range. -/
def zoneWord (n : Nat) : Zone := (zoneOf n).getD 0

/-- The part of a zone. -/
def parseZoneCfg (ws : List Word) (z : Zone) : ZoneCfg :=
  let b := zoneBase z
  ⟨wordAt ws b, wordAt ws (b + 1), wordAt ws (b + 2), wordAt ws (b + 3), wordAt ws (b + 4), wordAt ws (b + 5),
    wordAt ws (b + 6), wordAt ws (b + 7), wordAt ws (b + 8)⟩

/-- The part of a channel. -/
def parseChanCfg (ws : List Word) (c : Chan) : ChanCfg :=
  let b := chanBase c
  if kindWord ws c = 1 then
    .fuel ⟨zoneWord (wordAt ws (b + 1)), wordAt ws (b + 2), !(wordAt ws (b + 3) == 0),
      !(wordAt ws (b + 4) == 0), wordAt ws (b + 5), wordAt ws (b + 6), wordAt ws (b + 7), wordAt ws (b + 8),
      wordAt ws (b + 9), wordAt ws (b + 10), wordAt ws (b + 11)⟩
  else if kindWord ws c = 2 then
    .fan ⟨zoneWord (wordAt ws (b + 1)), if wordAt ws (b + 2) = 1 then .cooler else .fixed,
      zoneWord (wordAt ws (b + 3)), wordAt ws (b + 4), wordAt ws (b + 5), wordAt ws (b + 6), wordAt ws (b + 7),
      wordAt ws (b + 8), wordAt ws (b + 9), wordAt ws (b + 10), wordAt ws (b + 11), wordAt ws (b + 12),
      wordAt ws (b + 13)⟩
  else .unused

/-- The record of words in range. -/
def parseConfig (ws : List Word) : Config where
  station := (stationOf (wordAt ws 0)).getD 0
  expected := ws.getD 1 0
  b0 := wordAt ws 2
  b1 := wordAt ws 3
  b2 := wordAt ws 4
  scanners := (ws.getD 5 0).extractLsb' 0 4
  tLim := wordAt ws 6
  clinkerPresent := !(wordAt ws 7 == 0)
  zones := Vector.ofFn fun z => parseZoneCfg ws z
  chans := Vector.ofFn fun c => parseChanCfg ws c

/-- The record held at the acceptance of a LOAD_CONFIG (10 R194, R195). -/
def acceptedConfig (ws : List Word) : Config := parseConfig (clampWords ws)

/-! ### READ_CONFIG (10 R189, 11 R203) -/

/-- The words of a zone part. -/
def zoneCfgWords (z : ZoneCfg) : List Word :=
  [w16 z.lambda, w16 z.purgeAir, w16 z.purgeTime, w16 z.readyWindow, w16 z.flameResponse, w16 z.maxHeat,
    w16 z.nominalHeat, w16 z.slew, w16 z.tripHold]

/-- The words of a channel part; ignored words are 0. -/
def chanCfgWords : ChanCfg → List Word
  | .unused => List.replicate 14 0
  | .fuel f => [1, w16 f.zone.val, w16 f.rank, w16 (bit f.trim), w16 (bit f.igniter), w16 f.ncv, w16 f.airFactor,
      w16 f.fmin, w16 f.fmax, w16 f.ramp, w16 f.proving, w16 f.lockout, 0, 0]
  | .fan f => [2, w16 f.zone.val, (match f.role with
        | .cooler => 1
        | .fixed => 2), w16 f.loadZone.val, w16 f.fbase, w16 f.fmin, w16 f.fmax, w16 f.recup, w16 f.pRef,
      w16 f.pLow, w16 f.gBed, w16 f.gT, w16 f.pull, w16 f.slew]

/-- The 156 words of the record as held. -/
def configWords (cfg : Config) : List Word :=
  [w16 (stationNumber cfg.station), cfg.expected, w16 cfg.b0, w16 cfg.b1, w16 cfg.b2, w16 cfg.scanners.toNat,
    w16 cfg.tLim, w16 (bit cfg.clinkerPresent)]
    ++ cfg.zones.toList.flatMap zoneCfgWords ++ cfg.chans.toList.flatMap chanCfgWords

end Sys2Proof.Machine
end

