-- ==== Sys2Proof/Machine/Ops.lean ====
section
/-! DEFINITION. The named operations over the state that every block shares: reading and writing one
record of a block, the notice set, time stamps, what the configuration says of a channel or zone, and
the transmit queue with its coalescing, eviction and loss (01 R9 to R13). -/

namespace Sys2Proof.Machine

/-! ### Updates of one block -/

/-- Write one place of a vector. -/
def upd {α : Type} {n : Nat} (v : Vector α n) (i : Fin n) (x : α) : Vector α n := v.set i.val x i.isLt

def State.mapLi (s : State) (f : LineIf → LineIf) : State := { s with li := f s.li }
def State.mapPt (s : State) (f : PeerTable → PeerTable) : State := { s with pt := f s.pt }
def State.mapCe (s : State) (f : ChannelEngine → ChannelEngine) : State := { s with ce := f s.ce }
def State.mapZs (s : State) (f : ZoneSupervisor → ZoneSupervisor) : State := { s with zs := f s.zs }
def State.mapFa (s : State) (f : Allocator → Allocator) : State := { s with fa := f s.fa }
def State.mapCr (s : State) (f : Cooler → Cooler) : State := { s with cr := f s.cr }
def State.mapAl (s : State) (f : AlarmList → AlarmList) : State := { s with al := f s.al }
def State.mapFv (s : State) (f : FloorView → FloorView) : State := { s with fv := f s.fv }
def State.mapSr (s : State) (f : ShiftStore → ShiftStore) : State := { s with sr := f s.sr }
def State.mapSp (s : State) (f : StationPort → StationPort) : State := { s with sp := f s.sp }

/-! ### Records of a block -/

def State.peer (s : State) (n : Station) : PeerRecord := s.pt.peers.get n
def State.mapPeer (s : State) (n : Station) (f : PeerRecord → PeerRecord) : State :=
  s.mapPt fun p => { p with peers := upd p.peers n (f (p.peers.get n)) }

def State.chan (s : State) (c : Chan) : Channel := s.ce.chans.get c
def State.mapChan (s : State) (c : Chan) (f : Channel → Channel) : State :=
  s.mapCe fun e => { e with chans := upd e.chans c (f (e.chans.get c)) }

def State.zone (s : State) (z : Zone) : ZoneRec := s.zs.zones.get z
def State.mapZone (s : State) (z : Zone) (f : ZoneRec → ZoneRec) : State :=
  s.mapZs fun e => { e with zones := upd e.zones z (f (e.zones.get z)) }

def State.demand (s : State) (z : Zone) : DemandRecord := s.fa.demands.get z
def State.mapDemand (s : State) (z : Zone) (f : DemandRecord → DemandRecord) : State :=
  s.mapFa fun e => { e with demands := upd e.demands z (f (e.demands.get z)) }

def State.firing (s : State) (z : Zone) : Firing := s.fa.zones.get z
def State.mapFiring (s : State) (z : Zone) (f : Firing → Firing) : State :=
  s.mapFa fun e => { e with zones := upd e.zones z (f (e.zones.get z)) }

def State.reg (s : State) (c : Chan) : Regulator := s.cr.regs.get c
def State.mapReg (s : State) (c : Chan) (f : Regulator → Regulator) : State :=
  s.mapCr fun e => { e with regs := upd e.regs c (f (e.regs.get c)) }

def State.alarm (s : State) (id : AlarmId) : AlarmRec := s.al.recs.get id
def State.mapAlarm (s : State) (id : AlarmId) (f : AlarmRec → AlarmRec) : State :=
  s.mapAl fun e => { e with recs := upd e.recs id (f (e.recs.get id)) }

def State.rollCall (s : State) (n : Station) : RollCall := s.fv.roll.get n
def State.mapRoll (s : State) (n : Station) (f : RollCall → RollCall) : State :=
  s.mapFv fun e => { e with roll := upd e.roll n (f (e.roll.get n)) }

def State.acct (s : State) (c : Chan) : Account := s.sr.accts.get c
def State.mapAcct (s : State) (c : Chan) (f : Account → Account) : State :=
  s.mapSr fun e => { e with accts := upd e.accts c (f (e.accts.get c)) }

/-- The condition value of an alarm id (07 R131). -/
def State.cond (s : State) (id : AlarmId) : Bool := (s.alarm id).cond

/-- All channels, zones, stations and alarm ids, ascending. -/
def allChans : List Chan := [0, 1, 2, 3, 4, 5, 6, 7]
def allZones : List Zone := [0, 1, 2, 3]
def allStations : List Station := [0, 1, 2, 3, 4, 5, 6, 7, 8, 9, 10, 11, 12, 13, 14, 15]
def allAlarms : List AlarmId := List.finRange 114

/-! ### Configuration -/

/-- The station is configured: modes STARTING, NORMAL and ISOLATED hold a configuration (02 R34). -/
def State.configured (s : State) : Bool := s.config.isSome

/-- The configuration of a channel; UNUSED while none is held. -/
def State.chanCfg (s : State) (c : Chan) : ChanCfg :=
  match s.config with
  | some cfg => cfg.chans.get c
  | none => .unused

/-- The FUEL part of a usable fuel channel: one configured with NCV 0 behaves as UNUSED (03 R38). -/
def State.fuel? (s : State) (c : Chan) : Option FuelCfg :=
  match s.chanCfg c with
  | .fuel f => if f.ncv = 0 then none else some f
  | _ => none

/-- The FAN part of a fan channel. -/
def State.fan? (s : State) (c : Chan) : Option FanCfg :=
  match s.chanCfg c with
  | .fan f => some f
  | _ => none

/-- The part of the configuration of a zone. -/
def State.zoneCfg? (s : State) (z : Zone) : Option ZoneCfg := s.config.map fun cfg => cfg.zones.get z

/-- A number of the zone part, 0 while no configuration is held. -/
def State.zoneParam (s : State) (z : Zone) (f : ZoneCfg → Nat) : Nat := ((s.zoneCfg? z).map f).getD 0

/-- The configuration gives the station a flame scanner for the zone (03 R39). -/
def State.hasScanner (s : State) (z : Zone) : Bool :=
  match s.config with
  | some cfg => cfg.scanners.getLsbD z.val
  | none => false

/-- The CLINKER_TEMP input is configured as present (06 R125). -/
def State.clinkerPresent (s : State) : Bool :=
  match s.config with
  | some cfg => cfg.clinkerPresent
  | none => false

/-- A channel fires the zone or is a fan that serves it; a FUEL channel with NCV 0 counts (02 R26). -/
def State.chanInZone (s : State) (z : Zone) (c : Chan) : Bool :=
  match s.chanCfg c with
  | .unused => false
  | .fuel f => f.zone == z
  | .fan f => f.zone == z

/-- Participation of a zone (02 R26): an own fuel channel in it, an own fan serving it, or a scanner. -/
def State.participates (s : State) (z : Zone) : Bool :=
  allChans.any (s.chanInZone z) || s.hasScanner z

/-- An own fuel channel of the zone: usable and configured to fire it (04 R64). -/
def State.ownFuel (s : State) (z : Zone) (c : Chan) : Bool :=
  match s.fuel? c with
  | some f => f.zone == z
  | none => false

/-- An own fan channel that serves the zone. -/
def State.ownFan (s : State) (z : Zone) (c : Chan) : Bool :=
  match s.fan? c with
  | some f => f.zone == z
  | none => false

/-- The own fuel channels of a zone in ascending order. -/
def State.ownFuels (s : State) (z : Zone) : List Chan := allChans.filter (s.ownFuel z)

/-- The station is the own one. -/
def State.isOwn (s : State) (n : Station) : Bool :=
  match s.config with
  | some cfg => cfg.station == n
  | none => false

/-- The own station number for a frame's origin; meaningless while none is held. -/
def State.ownStation (s : State) : Station :=
  match s.config with
  | some cfg => cfg.station
  | none => 0

/-- The expected-peer set of the record names the station, which is not the own one (02 R28). -/
def cfgExpects (cfg : Config) (n : Station) : Bool :=
  cfg.expected.getLsbD n.val && !(cfg.station == n)

/-! ### Notices (10 R191) -/

/-- The seven kinds of notice. -/
inductive Notice
  | alarmChanged
  | p1Raised
  | channelState
  | zoneState
  | shiftClosed
  | peerChange
  | configNeeded
deriving DecidableEq, Repr

/-- A notice joins the set; one already there leaves it as it is. -/
def Notices.add (n : Notices) : Notice → Notices
  | .alarmChanged => { n with alarmChanged := true }
  | .p1Raised => { n with p1Raised := true }
  | .channelState => { n with channelState := true }
  | .zoneState => { n with zoneState := true }
  | .shiftClosed => { n with shiftClosed := true }
  | .peerChange => { n with peerChange := true }
  | .configNeeded => { n with configNeeded := true }

/-- A block sets a notice. -/
def State.notify (s : State) (k : Notice) : State :=
  s.mapSp fun p => { p with notices := p.notices.add k }

/-! ### Time -/

/-- The time base as a time stamp (09 R163). -/
def State.stamp (s : State) : Stamp := ⟨s.sr.day, s.sr.sec, s.sr.valid⟩

/-- CE's running clock in ms: from power-on, through station resets (03 R58). -/
def State.runClock (s : State) : Nat := (s.now - s.powerOn) / 250

/-- A timer is running and its time has been reached. -/
def State.due (s : State) (t : Option Nat) : Bool :=
  match t with
  | some d => decide (d ≤ s.now)
  | none => false

/-- `span` has passed since the moment `t`. -/
def State.passed (s : State) (t span : Nat) : Bool := decide (t + span ≤ s.now)

/-! ### The transmit queue (01 R9 to R13) -/

/-- Outcome of an offer to the transmit queue. -/
inductive Offer
  | accepted
  | refused
  | alreadyQueued
deriving DecidableEq, Repr

/-- The deferral of a frame in bit times: guard plus (class x 16 + station - 1 + back-off) slots (01 R3). -/
def deferral (f : TxFrame) (own : Station) : Nat :=
  20 + 4 * (f.cls.code * 16 + own.val + 8 * min f.collisions 7)

/-- The coalescing key of the class agrees (01 R1): alarm id, zone, the class itself, all of an ACK. -/
def sameKey (cls : FrameClass) (p q : List Word) : Bool :=
  match cls with
  | .trip => false
  | .alert => hiByte (p.headD 0) == hiByte (q.headD 0)
  | .ack => p == q
  | .demand => hiByte (p.headD 0) == hiByte (q.headD 0)
  | .snap => true
  | .shift => false

/-- The frame is of the class and carries the key. -/
def matchesKey (cls : FrameClass) (p : List Word) (f : TxFrame) : Bool :=
  f.cls == cls && sameKey cls p f.payload

/-- A waiting frame the offered one replaces (01 R11); an ACK replaces none. -/
def replaceable (cls : FrameClass) (p : List Word) (f : TxFrame) : Bool :=
  !f.inSend && !(cls == .ack) && matchesKey cls p f

/-- Insert behind every frame of the same or a lower priority number (01 R10). -/
def insertFrame (f : TxFrame) : List TxFrame → List TxFrame
  | [] => [f]
  | g :: rest => if g.cls.code ≤ f.cls.code then g :: insertFrame f rest else f :: g :: rest

/-- The greatest priority number above `n` among the waiting frames. -/
def worstWaiting (n : Nat) (q : List TxFrame) : Option Nat :=
  q.foldl (fun acc f =>
    if f.inSend ∨ f.cls.code ≤ n then acc
    else match acc with
      | some m => some (max m f.cls.code)
      | none => some f.cls.code) none

/-- Position of the youngest waiting frame of a priority number: the last of them. -/
def youngestOf (m : Nat) (q : List TxFrame) : Option Nat :=
  (q.zipIdx.filter (fun x => !x.1.inSend && x.1.cls.code == m)).getLast?.map (·.2)

/-- The zone a TRIP frame names, as its byte. -/
def tripZoneByte (f : TxFrame) : Byte := hiByte (f.payload.headD 0)

/-- Position of the oldest waiting TRIP of a zone with two or more TRIPs waiting (01 R12 case 3). -/
def surplusTrip (q : List TxFrame) : Option Nat :=
  q.findIdx? (fun f => !f.inSend && f.cls == .trip &&
    decide (2 ≤ q.countP (fun g => !g.inSend && g.cls == .trip && tripZoneByte g == tripZoneByte f)))

/-- The waiting frame an offer to a full queue evicts (01 R12), and whether by case 3. Case 2 is the
instance of case 1 for an offered TRIP. -/
def evictee (cls : FrameClass) (q : List TxFrame) : Option (Nat × Bool) :=
  match worstWaiting cls.code q with
  | some m => (youngestOf m q).map (fun i => (i, false))
  | none => if cls = .trip then (surplusTrip q).map (fun i => (i, true)) else none

/-- A discard: counted, its time kept among the last four, and a degrading event (01 R7, R8). -/
def LineIf.discard (li : LineIf) (now : Nat) : LineIf :=
  { li with
    discards := li.discards + 1
    discardTimes := (now :: li.discardTimes).take 4
    lastDegrading := some now }

/-- The owner of a lost frame takes its outcome (01 R13): the ALERT's id, the DEMAND's zone or the
SHIFT's record is marked unannounced; a lost SNAP, ACK or TRIP leaves nothing. -/
def State.loseFrame (s : State) (f : TxFrame) : State :=
  match f.cls with
  | .alert =>
    match alarmIdOf (hiByte (f.payload.headD 0)).toNat with
    | some id => s.mapAlarm id fun r => { r with announce := true }
    | none => s
  | .demand =>
    match zoneOf (hiByte (f.payload.headD 0)).toNat with
    | some z => s.mapDemand z fun d => { d with unannounced := true }
    | none => s
  | .shift =>
    s.mapSr fun r => { r with
      ring := r.ring.map fun x => if x.closeId = f.closeId then { x with unannounced := true } else x }
  | .trip => s
  | .ack => s
  | .snap => s

/-- A frame of the class takes the next sequence, and something has been accepted since the last
completion (01 R2, R18). -/
def LineIf.accept (li : LineIf) (cls : FrameClass) (tx : List TxFrame) : LineIf :=
  { li with
    tx := tx
    seqs := upd li.seqs cls.index (li.seqs.get cls.index + 1)
    acceptedMark := true }

/-- The offered frame as a new frame of the queue (01 R2, R6). -/
def State.newFrame (s : State) (cls : FrameClass) (payload : List Word) (resume closeId : Nat) : TxFrame :=
  ⟨cls, s.li.seqs.get cls.index, payload, s.now, 0, false, resume, closeId⟩

/-- Accept as a new frame. -/
def State.enqueueNew (s : State) (f : TxFrame) : State :=
  s.mapLi fun li => li.accept f.cls (insertFrame f li.tx)

/-- Replace the waiting frame of the same key: position, age and collision count stay (01 R6, R10, R11). -/
def State.enqueueReplace (s : State) (f : TxFrame) : State :=
  s.mapLi fun li => li.accept f.cls (li.tx.map fun g =>
    if replaceable f.cls f.payload g then
      { f with age := g.age, collisions := g.collisions }
    else g)

/-- Evict the frame at a position, with its owner told unless it goes by case 3 (01 R12). -/
def State.evictAt (s : State) (i : Nat) (surplus : Bool) : State :=
  match s.li.tx[i]? with
  | some g =>
    let s' := s.mapLi fun li => { li with tx := li.tx.eraseIdx i }
    if surplus then s'.mapLi fun li => li.discard s.now else s'.loseFrame g
  | none => s

/-- An offer to the transmit queue (01 R11, R12, R19). -/
def State.offer (s : State) (cls : FrameClass) (payload : List Word) (resume closeId : Nat) : State × Offer :=
  let f := s.newFrame cls payload resume closeId
  if s.pt.mode = .unconfigured then (s, .refused)
  else if cls = .ack ∧ s.li.tx.any (matchesKey cls payload) then (s, .alreadyQueued)
  else if s.li.tx.any (replaceable cls payload) then (s.enqueueReplace f, .accepted)
  else if cls = .snap ∧ s.li.tx.any (matchesKey cls payload) then (s, .refused)
  else if s.li.tx.length < 12 then (s.enqueueNew f, .accepted)
  else match evictee cls s.li.tx with
    | some (i, surplus) => ((s.evictAt i surplus).enqueueNew f, .accepted)
    | none => (s, .refused)

/-- Four discards lie within the last 10 s, counting the newest (01 R8). -/
def LineIf.fourDiscards (li : LineIf) (now : Nat) : Bool :=
  match li.discardTimes with
  | [_, _, _, t] => decide (now ≤ t + seconds 10)
  | _ => false

end Sys2Proof.Machine
end

