-- ==== Sys2Proof/Machine/Flags.lean ====
section
/-! DEFINITION. Every flag, test and value in use that the rules compute from the state: values in use of
sample points (03 R40, R42), the flame view and the tests of zones (04 R65, R66), the air supply
(05 R101), the isolation indication (01 R18), LIST_FULL and ATTN_N (07 R144, 10 R191), the priorities
of the alarm catalog (07 R130), and the change test of the own SNAP (02 R22). -/

namespace Sys2Proof.Machine

/-! ### Sample points (03 R40, R42) -/

/-- A value in use that is GOOD: the point is CURRENT or HELD. -/
def Point.good (p : Point) : Bool := p.cond == .current || p.cond == .held

/-- FEED_ACTUAL for every use but totals: no value while SUBSTITUTED or NO_VALUE. -/
def Point.feedValue (p : Point) : Option Nat := if p.good then p.last else none

/-- FLOW_ACTUAL for air supply, summary and supervision: 0 while SUBSTITUTED or NO_VALUE. -/
def Point.flowValue (p : Point) : Nat := if p.good then p.last.getD 0 else 0

/-- The rate integrated by SR: the value in use, or the channel's setpoint while there is none (09 R169, R170). -/
def Point.rate (p : Point) (setpoint : Nat) : Nat := if p.good then p.last.getD 0 else setpoint

/-- VALVE_CLOSED true and GOOD; a substituted point is not closed. -/
def Point.closed (p : Point) : Bool := p.good && decide (p.last.getD 0 ≠ 0)

/-- FLAME proven and GOOD; a substituted point is not proven. -/
def Point.proven (p : Point) : Bool := p.good && decide (p.last.getD 0 ≠ 0)

/-- FEEDER_FAULT in use: the last good value, false if there was none. -/
def Point.faulted (p : Point) : Bool := decide (p.last.getD 0 ≠ 0)

/-- BED_PRESSURE in use: the last good value, P_ref if there was none. -/
def Point.pressure (p : Point) (pRef : Nat) : Nat := p.last.getD pRef

/-- The clinker outlet temperature (06 R125). -/
def State.tOut (s : State) : Option Nat := if s.clinkerPresent then s.ce.clinker.last else none

/-- heat(feed) in 10 kW, saturating (03 R47). -/
def heatOf (ncv feed : Nat) : Nat := min (roundDiv (feed * ncv) 36000) 65535

/-- feed(heat) in kg/h, clamped to [Fmin, Fmax] (03 R47). -/
def feedOf (f : FuelCfg) (heat : Nat) : Nat := clampNat (roundDiv (heat * 36000) f.ncv) f.fmin f.fmax

/-! ### Zones -/

/-- A block of a zone in a peer record. -/
def PeerRecord.block? (r : PeerRecord) (z : Zone) : Option ZoneBlock := r.zones.find? (fun b => b.zone == z)

/-- The record holds a fuel channel summary for the zone. -/
def PeerRecord.hasFuel (r : PeerRecord) (z : Zone) : Bool :=
  r.chans.any fun
    | .fuel f => f.zone == z
    | .fan _ => false

/-- The record holds a fan channel that serves the zone. -/
def PeerRecord.hasFan (r : PeerRecord) (z : Zone) : Bool :=
  r.chans.any fun
    | .fuel _ => false
    | .fan f => f.zone == z

/-- The record reports own-fuel-open false in its zone block of the zone. -/
def PeerRecord.fuelShut (r : PeerRecord) (z : Zone) : Bool :=
  match r.block? z with
  | some b => !b.fuelOpen
  | none => false

/-- A FRESH record whose zone block of the zone shows the scanner proven (04 R65). -/
def PeerRecord.showsFlame (r : PeerRecord) (z : Zone) : Bool :=
  r.fresh == .fresh && r.zones.any (fun b => b.zone == z && b.scanner == some true)

/-- The flame view of a zone (04 R65). -/
def State.flameView (s : State) (z : Zone) : Bool :=
  (s.hasScanner z && (s.ce.flames.get z).proven) || allStations.any (fun n => (s.peer n).showsFlame z)

/-- Some own fuel channel of the zone has its SHUT line released (02 R26, 03 R53). -/
def State.ownFuelOpen (s : State) (z : Zone) : Bool :=
  (s.ownFuels z).any fun c => (s.chan c).shutReleased

/-- What a peer record contributes to the fuel-closed test (04 R66). -/
def PeerRecord.allowsClosed (r : PeerRecord) (z : Zone) : Bool :=
  match r.fresh with
  | .absent => true
  | .fresh => !r.hasFuel z || r.fuelShut z
  | .stale => !r.hasFuel z
  | .expired => !r.hasFuel z || r.fuelShut z

/-- The fuel-closed test of a zone (04 R66). -/
def State.fuelClosed (s : State) (z : Zone) : Bool :=
  !s.ownFuelOpen z && allStations.all fun n => (s.peer n).allowsClosed z

/-- The purge permissive of a zone (04 R66). -/
def State.permissive (s : State) (z : Zone) : Bool :=
  s.fuelClosed z && !s.esd && decide (s.zoneParam z ZoneCfg.purgeAir ≤ (s.firing z).air.supply)

/-- A channel summary of a FRESH peer in RUNNING or LIMITED for the zone (04 R70). -/
def PeerRecord.runsFuel (r : PeerRecord) (z : Zone) : Bool :=
  r.fresh == .fresh && r.chans.any fun
    | .fuel f => f.zone == z && (f.state == .running || f.state == .limited)
    | .fan _ => false

/-- A running fuel channel of the zone exists (04 R70). -/
def State.zoneRuns (s : State) (z : Zone) : Bool :=
  (s.ownFuels z).any (fun c => (s.chan c).state == .running || (s.chan c).state == .limited)
    || allStations.any (fun n => (s.peer n).runsFuel z)

/-- Some FRESH peer's last block of the zone reports a state (04 R69, R87). -/
def State.peerReports (s : State) (z : Zone) (st : ZoneState) : Bool :=
  allStations.any fun n =>
    (s.peer n).fresh == .fresh && (s.peer n).zones.any (fun b => b.zone == z && b.state == st)

/-- Every own fuel channel of the zone has VALVE_CLOSED true and GOOD (04 R86). -/
def State.valvesClosed (s : State) (z : Zone) : Bool :=
  (s.ownFuels z).all fun c => (s.chan c).valvePt.closed

/-! ### Air supply (05 R101) -/

/-- The term of one fan in the supply. -/
def fanTerm (flow recup : Nat) : Nat := flow * recup / 1000

/-- The part of the supply of an own channel. -/
def State.ownSupply (s : State) (z : Zone) (c : Chan) : Nat :=
  match s.fan? c with
  | some f =>
    if f.zone = z ∧ ((s.chan c).state = .running ∨ (s.chan c).state = .fanFault) then
      fanTerm (s.chan c).flowPt.flowValue f.recup
    else 0
  | none => 0

/-- The part of the supply of one summary. -/
def Summary.supply (z : Zone) : Summary → Nat
  | .fuel _ => 0
  | .fan f => if f.zone = z ∧ (f.state = .running ∨ f.state = .fanFault) then fanTerm f.flow f.recup else 0

/-- The part of the supply of a peer record: counted while FRESH or STALE. -/
def PeerRecord.supply (r : PeerRecord) (z : Zone) : Nat :=
  if r.fresh = .fresh ∨ r.fresh = .stale then (r.chans.map (Summary.supply z)).sum else 0

/-- The air supply of a zone, saturating at 1,048,575 (05 R101). -/
def State.supply (s : State) (z : Zone) : Nat :=
  min ((allChans.map (s.ownSupply z)).sum + (allStations.map fun n => (s.peer n).supply z).sum) 1048575

/-- The inputs of the supply sum of a zone (05 R110): flow and state of the own fans that serve it, and of
each peer record its freshness and its fan summaries for the zone. -/
def State.supplyInputs (s : State) (z : Zone) : List (Nat × ChState) × List (Freshness × List Summary) :=
  ((allChans.filter (s.ownFan z)).map fun c => ((s.chan c).flowPt.flowValue, (s.chan c).state),
    allStations.map fun n =>
      let fans := (s.peer n).chans.filter fun x =>
        match x with
        | .fuel _ => false
        | .fan f => f.zone == z
      (if fans.isEmpty then .absent else (s.peer n).fresh, fans))

/-- What of a peer record triggers a pass of a zone by changing (05 R96). -/
def PeerRecord.passInputs (r : PeerRecord) (z : Zone) : Freshness × Option ZoneBlock × List Summary :=
  (if r.hasFuel z || r.hasFan z then r.fresh else .absent, r.block? z, r.chans.filter fun x => x.zone == z)

/-! ### LI and SP -/

/-- The expected-peer set, less the own number, is not empty (01 R18, 02 R28). -/
def State.expectsPeers (s : State) : Bool :=
  match s.config with
  | some cfg => allStations.any (cfgExpects cfg)
  | none => false

/-- Condition (a) of 01 R18: not sending. -/
def State.notSending (s : State) : Bool := s.li.acceptedMark && s.passed s.li.completionTime (ms 3000)

/-- Condition (b) of 01 R18: not hearing. -/
def State.notHearing (s : State) : Bool := s.expectsPeers && s.passed s.li.rxTime (ms 3000)

/-- The line-isolation indication (01 R18). -/
def State.isolation (s : State) : Bool := s.notSending || s.notHearing

/-- The notice set is not empty, so ATTN_N is asserted (10 R191). -/
def State.attn (s : State) : Bool := !decide (s.sp.notices = Notices.none)

/-- LIST_FULL: the pending set is not empty (07 R144). -/
def State.listFull (s : State) : Bool := s.al.recs.toList.any fun r => r.waiting

/-! ### The alarm catalog (07 R130) -/

/-- Catalog priority of an id: 1, 2 or 3. -/
def alarmPriority (id : AlarmId) : Nat :=
  if id.val < 16 then 1
  else if id.val < 24 then 2
  else if id.val < 40 then 3
  else if id.val < 56 then 2
  else if id.val < 60 then 1
  else if id.val < 64 then 2
  else if id.val < 76 then 3
  else if id.val < 92 then 2
  else if id.val < 108 then 3
  else if id.val < 109 then 1
  else if id.val < 112 then 2
  else 3

def idChannelTrip (c : Chan) : AlarmId := ⟨c.val, by omega⟩
def idChannelLockout (c : Chan) : AlarmId := ⟨8 + c.val, by omega⟩
def idFeedDeviation (c : Chan) : AlarmId := ⟨16 + c.val, by omega⟩
def idActuatorSlow (c : Chan) : AlarmId := ⟨24 + c.val, by omega⟩
def idSampleBad (c : Chan) : AlarmId := ⟨32 + c.val, by omega⟩
def idFanFault (c : Chan) : AlarmId := ⟨40 + c.val, by omega⟩
def idBedLow (c : Chan) : AlarmId := ⟨48 + c.val, by omega⟩
def idZoneTrip (z : Zone) : AlarmId := ⟨56 + z.val, by omega⟩
def idAirShort (z : Zone) : AlarmId := ⟨60 + z.val, by omega⟩
def idDemandUnreachable (z : Zone) : AlarmId := ⟨64 + z.val, by omega⟩
def idPurgeAborted (z : Zone) : AlarmId := ⟨68 + z.val, by omega⟩
def idFlameUnstable (z : Zone) : AlarmId := ⟨72 + z.val, by omega⟩
def idPeerExpired (n : Station) : AlarmId := ⟨76 + n.val, by omega⟩
def idUnexpectedPeer (n : Station) : AlarmId := ⟨92 + n.val, by omega⟩
def idDuplicateStation : AlarmId := 108
def idStationIsolated : AlarmId := 109
def idFieldSilent : AlarmId := 110
def idClinkerHigh : AlarmId := 111
def idLineDegraded : AlarmId := 112
def idClockLost : AlarmId := 113

/-- Entries of priority 2 or 3 in the own list (07 R135). -/
def AlarmList.lowCount (al : AlarmList) : Nat := al.list.countP fun e => decide (2 ≤ alarmPriority e.id)

/-- The entry of an id in the own list. -/
def AlarmList.entry? (al : AlarmList) (id : AlarmId) : Option AlarmEntry := al.list.find? fun e => e.id == id

/-! ### The change test of the own SNAP (02 R22) -/

/-- The content of a SNAP built now, as far as R22 compares it. -/
def State.publishedNow (s : State) : Published where
  chans := Vector.ofFn fun c => (s.chan c).state
  zones := Vector.ofFn fun z => (s.zone z).state
  allocs := Vector.ofFn fun c => (s.chan c).alloc
  listed := s.al.list.length

/-- The magnitude of the difference of two numbers. -/
def absDiff (a b : Nat) : Nat := (a - b) + (b - a)

/-- Some change of R22 against the content of the last SNAP offered. -/
def State.snapDiffers (s : State) : Bool :=
  decide (s.publishedNow.chans ≠ s.pt.published.chans)
    || decide (s.publishedNow.zones ≠ s.pt.published.zones)
    || allChans.any (fun c => (s.fuel? c).isSome &&
        decide ((s.chan c).hmax < absDiff (s.chan c).alloc (s.pt.published.allocs.get c) * 100))
    || decide (s.al.list.length ≠ s.pt.published.listed)

end Sys2Proof.Machine
end

