-- ==== Sys2Proof/Machine/Operands.lean ====
section
/-! DEFINITION. Every operand form: the fields of a sample record (03 R39, 11 R202), the codes and argument
counts of requests (11 R203), and the arguments of requests as channels, zones, stations and ids. -/

namespace Sys2Proof.Machine

/-! ### Sample records (03 R39, 11 R202) -/

/-- The sample point of a source and a quantity, if the configuration gives it (03 R39). -/
def State.matchPoint (s : State) (source quantity : Byte) : Option PointId :=
  match chanOf source.toNat with
  | some c =>
    if (s.fuel? c).isSome then
      if quantity = 1 then some (.feed c)
      else if quantity = 4 then some (.valve c)
      else if quantity = 5 then some (.fault c)
      else none
    else if (s.fan? c).isSome then
      if quantity = 2 then some (.flow c)
      else if quantity = 3 then some (.bed c)
      else none
    else none
  | none =>
    if 16 ≤ source.toNat then
      match zoneOf (source.toNat - 16) with
      | some z => if quantity = 6 ∧ s.hasScanner z then some (.flame z) else none
      | none => if source = 32 ∧ quantity = 7 ∧ s.clinkerPresent then some .clinker else none
    else none

/-- The value of a sample: signed quantities are clamped to their range, the others are unsigned (03 R39). -/
def sampleValue (p : PointId) (v : Word) : Nat :=
  match p with
  | .feed _ => v.toNat
  | .valve _ => v.toNat
  | .fault _ => v.toNat
  | .flow _ => v.toNat
  | .bed _ => (clampInt v.toInt 0 20000).toNat
  | .flame _ => v.toNat
  | .clinker => (clampInt v.toInt 0 1500).toNat

/-- The elapsed time of a sample in ms, clamped (03 R39). -/
def sampleElapsed (e : Word) : Nat := min e.toNat 2000

/-- Quality of a sample: above 1 is BAD, a code above 2 being taken as BAD (11 R202). -/
def qualityGood (q : Byte) : Bool := decide (q.toNat ≤ 1)

/-- The quality is UNCERTAIN. -/
def qualityUncertain (q : Byte) : Bool := q == 1

/-! ### Requests (11 R203) -/

/-- The argument count of a request code; none for a code not listed. -/
def requestArgs (code : Nat) : Option Nat :=
  match code with
  | 1 => some 156
  | 2 => some 0
  | 3 => some 2
  | 4 => some 1
  | 5 => some 1
  | 6 => some 1
  | 7 => some 1
  | 8 => some 1
  | 9 => some 1
  | 10 => some 1
  | 11 => some 3
  | 12 => some 2
  | 13 => some 1
  | 14 => some 3
  | 15 => some 0
  | 16 => some 1
  | 17 => some 1
  | 18 => some 1
  | 19 => some 4
  | 20 => some 0
  | 21 => some 0
  | _ => none

/-- What the argument of a channel request names: refused, a usable fuel channel or a fan (03 R38). -/
inductive ChanArg
  | refused (r : Reason)
  | fuel (c : Chan) (f : FuelCfg)
  | fan (c : Chan) (f : FanCfg)
deriving DecidableEq, Repr

/-- Judge the argument of a channel request: an UNUSED channel or a number above 7 is BAD_ARGUMENT, an
unusable channel is STATE (03 R38). -/
def State.chanArg (s : State) (w : Word) : ChanArg :=
  match chanOf w.toNat with
  | none => .refused .badArgument
  | some c =>
    match s.chanCfg c with
    | .unused => .refused .badArgument
    | .fuel f => if f.ncv = 0 then .refused .state else .fuel c f
    | .fan f => .fan c f

/-- The zone a zone request names, if it participates (04 R64). -/
def State.zoneArg (s : State) (w : Word) : Option Zone :=
  match zoneOf w.toNat with
  | some z => if s.participates z then some z else none
  | none => none

/-- The second of day that SET_TIME names (11 R203). -/
def secondArg (high low : Word) : Nat := (high.toNat % 2) * 65536 + low.toNat

end Sys2Proof.Machine
end

