-- ==== Sys2Proof/Machine/PortOps.lean ====
section
/-! DEFINITION. Shared operations of the station port SP (10): the words of a response, the taking of a
request, the tests SP makes before a request's owner, and the answer. -/

namespace Sys2Proof.Machine

/-- Code of a reason (11 R203). -/
def Reason.code : Reason → Nat
  | .notConfigured => 1
  | .alreadyConfigured => 2
  | .badArgument => 3
  | .state => 4
  | .permissive => 5
  | .firstOutPending => 6
  | .stale => 7
  | .originLost => 8
  | .queueFull => 9
  | .busy => 10
  | .ended => 11

/-- First word of the response header of an answer (11 R203). -/
def Status.word : Status → Word
  | .ok => bytesWord 2 0
  | .clamped => bytesWord 3 0
  | .refused r => bytesWord 4 r.code

/-- The words of an answer: header, then data (11 R203). -/
def Answer.words (a : Answer) : List Word :=
  [a.status.word, wordOf a.code 0, a.value, w16 a.data.length] ++ a.data

/-- The response header of an EMPTY and of an IN_WORK buffer (11 R203). -/
def emptyHeader : Word := bytesWord 0 0
def notReadyHeader : Word := bytesWord 1 0

/-- The owner of the request gives its answer: the buffer becomes READY (10 R184, R186). -/
def State.reply (s : State) (code : Nat) (st : Status) (value : Word) (data : List Word) : State :=
  s.mapSp fun p => { p with buffer := .ready ⟨b8 code, st, value, data⟩ }

/-- The answer OK with value 0 and no data. -/
def State.ok (s : State) (code : Nat) : State := s.reply code .ok 0 []

/-- The answer REFUSED. DESIGN CHOICE: its value word is 0 for every request (log 35). -/
def State.refuse (s : State) (code : Nat) (r : Reason) : State := s.reply code (.refused r) 0 []

/-- The answer OK of a read. -/
def State.okData (s : State) (code : Nat) (data : List Word) : State := s.reply code .ok 0 data

/-- The request with this code and these argument words is in work (10 R184, R185). -/
def State.working (s : State) (code : Nat) (args : List Word) : Bool := s.sp.buffer == .inWork (b8 code) args

/-- A request that is not a read, taken by its owner: not in work leaves the state, and in UNCONFIGURED it is
refused NOT_CONFIGURED (10 R186). -/
def State.request (s : State) (code : Nat) (args : List Word) (owner : State → State) : State :=
  if s.working code args then
    if s.pt.mode = .unconfigured then s.refuse code .notConfigured else owner s
  else s

/-- A read, taken in every mode (10 R186). -/
def State.read (s : State) (code : Nat) (args : List Word) (owner : State → State) : State :=
  if s.working code args then owner s else s

/-- Judge the words of a request phase (10 R185, R186 test 1). -/
def State.takeRequest (s : State) (words : List Word) (cut : Bool) : State :=
  match words with
  | [] => if cut then s.mapSp fun p => { p with portErrors := satInc16 p.portErrors } else s
  | header :: args =>
    let n := (loByte header).toNat
    let code := (hiByte header).toNat
    if args.length < n then s.mapSp fun p => { p with portErrors := satInc16 p.portErrors }
    else if requestArgs code = some n then
      s.mapSp fun p => { p with buffer := .inWork (hiByte header) (args.take n) }
    else s.refuse code .badArgument

end Sys2Proof.Machine
end

