-- ==== Sys2Proof/Machine/AlarmOps.lean ====
section
/-! DEFINITION. Shared operations of the alarm list AL (07): raising, clearing, removing, displacing and
announcing an entry, the pending set, and the write of a condition by its owner. -/

namespace Sys2Proof.Machine

/-- A removal at a position below the next roll-call index, or below the resume index of a queued SNAP,
lowers that index by 1 (02 R25). -/
def State.rollRemoval (s : State) (p : Nat) : State :=
  (s.mapPt fun t => { t with rollIndex := if p < t.rollIndex then t.rollIndex - 1 else t.rollIndex }).mapLi
    fun li => { li with
      tx := li.tx.map fun f => if f.cls = .snap ∧ p < f.resume then { f with resume := f.resume - 1 } else f }

/-- The position of an id in the own list. -/
def AlarmList.position? (al : AlarmList) (id : AlarmId) : Option Nat := al.list.findIdx? fun e => e.id == id

/-- The entry of an id, if listed, leaves its position (07 R133). -/
def State.unlist (s : State) (id : AlarmId) : State :=
  match s.al.position? id with
  | some p => (s.rollRemoval p).mapAl fun al => { al with list := al.list.eraseIdx p }
  | none => s

/-- The ALERT of an id from its current state (07 R145). -/
def State.alertMsg (s : State) (id : AlarmId) : AlertMsg :=
  match s.al.entry? id with
  | some e => ⟨id, alarmPriority id, some e.state, e.seq, e.raiseTime, e.value⟩
  | none => ⟨id, alarmPriority id, none, (s.alarm id).lastSeq.getD 0, (s.alarm id).lastTime.getD Stamp.zero,
      (s.alarm id).lastValue⟩

/-- Offer the ALERT of an id; the announce mark follows the outcome (07 R145, R146). -/
def State.announce (s : State) (id : AlarmId) : State :=
  let r := s.offer .alert (s.alertMsg id).words 0 0
  r.1.mapAlarm id fun a => { a with announce := !(r.2 == .accepted) }

/-- A change of the own list that R145 announces sets ALARM_CHANGED (07 R147). -/
def State.publishAlarm (s : State) (id : AlarmId) : State := (s.announce id).notify .alarmChanged

/-- The next value of the raise sequence counter held by none of `used` (07 R134); `fuel` bounds the search,
which ends after at most 47 values. -/
def freeSeq (used : List Word) : Nat → Word → Word
  | 0, c => c + 1
  | fuel + 1, c => if c + 1 ∈ used then freeSeq used fuel (c + 1) else c + 1

/-- Count a raise: the shift count of its priority (07 R148). -/
def AlarmList.countRaise (al : AlarmList) (priority : Nat) : AlarmList :=
  if priority = 1 then { al with p1 := satInc16 al.p1 }
  else if priority = 2 then { al with p2 := satInc16 al.p2 }
  else { al with p3 := satInc16 al.p3 }

/-- The entry a raise makes (07 R134). -/
def State.raisedEntry (s : State) (id : AlarmId) (seq : Word) : AlarmEntry where
  id := id
  state := .activeUnack
  seq := seq
  raiseTime := s.stamp
  clearTime := none
  value := (s.alarm id).condValue.map fun v => min v 65535
  shelveEnd := none

/-- A raise of an id: its entry, new or moved, stands at the tail (07 R133, R134, R145, R147, R148). -/
def State.raiseAlarm (s : State) (id : AlarmId) : State :=
  let s1 := s.unlist id
  let seq := freeSeq (s1.al.list.map AlarmEntry.seq) 48 s1.al.counter
  let e := s.raisedEntry id seq
  let s2 := s1.mapAl fun al =>
    { al.countRaise (alarmPriority id) with list := al.list ++ [e], counter := seq }
  let s3 := s2.mapAlarm id fun a => { a with
    waiting := false
    shiftRaises := satAdd a.shiftRaises 1 255
    lastSeq := some seq
    lastTime := some e.raiseTime
    lastValue := e.value }
  let s4 := s3.publishAlarm id
  if alarmPriority id = 1 then s4.notify .p1Raised else s4

/-- A removal: the entry leaves, REMOVED is announced (07 R133, R136, R145). -/
def State.removeEntry (s : State) (id : AlarmId) : State := (s.unlist id).publishAlarm id

/-- Change the entry of an id in its position. -/
def State.mapEntry (s : State) (id : AlarmId) (f : AlarmEntry → AlarmEntry) : State :=
  s.mapAl fun al => { al with list := al.list.map fun e => if e.id = id then f e else e }

/-- Pending ids in the order they are raised: priority 2 before 3, ascending id (07 R144). -/
def State.pendingIds (s : State) : List AlarmId :=
  (allAlarms.filter fun id => (s.alarm id).waiting && alarmPriority id == 2)
    ++ allAlarms.filter fun id => (s.alarm id).waiting && alarmPriority id == 3

/-- Raise pending ids, one for each free place of the 27 (07 R144). -/
def State.refill (s : State) : State :=
  (s.pendingIds.take (27 - s.al.lowCount)).foldl State.raiseAlarm s

/-- The entry to displace for a raise of a priority (07 R143). -/
def AlarmList.displaceable (al : AlarmList) (priority : Nat) : Option AlarmEntry :=
  let find (st : AlarmState) (p : Nat) := al.list.find? fun e => e.state == st && alarmPriority e.id == p
  match find .clearedUnack 3, (if priority = 2 then find .clearedUnack 2 else none), find .activeAcked 3 with
  | some e, _, _ => some e
  | none, some e, _ => some e
  | none, none, r => r

/-- Displace the entry of an id: removed, and pending if its condition is true (07 R143). -/
def State.displace (s : State) (id : AlarmId) : State :=
  let s1 := s.removeEntry id
  if s1.cond id then s1.mapAlarm id fun a => { a with waiting := true } else s1

/-- A rise of an id that is not listed (07 R135). -/
def State.raiseNew (s : State) (id : AlarmId) : State :=
  if alarmPriority id = 1 ∨ s.al.lowCount < 27 then s.raiseAlarm id
  else match s.al.displaceable (alarmPriority id) with
    | some e => (s.displace e.id).raiseAlarm id
    | none => s.mapAlarm id fun a => { a with waiting := true }

/-- A condition rise (07 R135, R136, R142). -/
def State.condRise (s : State) (id : AlarmId) : State :=
  match s.al.entry? id with
  | none => s.raiseNew id
  | some e =>
    match e.state with
    | .clearedUnack => s.raiseAlarm id
    | .activeUnack => s
    | .activeAcked => s
    | .shelved => s

/-- A condition fall (07 R136, R142, R144). -/
def State.condFall (s : State) (id : AlarmId) : State :=
  match s.al.entry? id with
  | none => s.mapAlarm id fun a => { a with waiting := false }
  | some e =>
    match e.state with
    | .activeUnack =>
      (s.mapEntry id fun x => { x with state := .clearedUnack, clearTime := some s.stamp }).publishAlarm id
    | .activeAcked => (s.removeEntry id).refill
    | .clearedUnack => s
    | .shelved => s

/-- A change of LIST_FULL sets ALARM_CHANGED (07 R147). -/
def fullNotice (before after : State) : State :=
  if before.listFull = after.listFull then after else after.notify .alarmChanged

/-- An owner writes its condition, with the value at raise it then holds (07 R130, R131). A write that
changes nothing has no effect, and no condition is written in mode UNCONFIGURED. -/
def State.setCond (s : State) (id : AlarmId) (v : Bool) (value : Option Nat) : State :=
  if !s.configured || s.cond id == v then s
  else if v then
    fullNotice s ((s.mapAlarm id fun a => { a with cond := true, condValue := value }).condRise id)
  else fullNotice s ((s.mapAlarm id fun a => { a with cond := false }).condFall id)

/-- Acknowledge an occurrence in the own list: the outcome a request from the own host is given,
absent for OK (07 R138). -/
def State.ackOwn (s : State) (id : Nat) (seq : Word) : State × Option Reason :=
  match alarmIdOf id with
  | none => (s, some .badArgument)
  | some id =>
    match s.al.entry? id with
    | none => (s, some .stale)
    | some e =>
      if e.seq ≠ seq then (s, some .stale)
      else match e.state with
        | .activeUnack => ((s.mapEntry id fun x => { x with state := .activeAcked }).publishAlarm id, none)
        | .clearedUnack => (fullNotice s (s.removeEntry id).refill, none)
        | .activeAcked => (s, none)
        | .shelved => (s, some .state)

/-- Start the shelve of a listed id for a clamped duration in minutes (07 R140). -/
def State.shelveEntry (s : State) (id : AlarmId) (minutes : Nat) : State :=
  (s.mapEntry id fun e => { e with
    state := .shelved
    shelveEnd := some (s.now + seconds (60 * minutes)) }).publishAlarm id

/-- The end of a shelve, by expiry or UNSHELVE: raised again or removed (07 R141). -/
def State.endShelve (s : State) (id : AlarmId) : State :=
  if s.cond id then s.raiseAlarm id else fullNotice s (s.removeEntry id).refill

/-- Offer the ALERT of every id that holds the announce mark, in ascending id order (07 R146). -/
def State.retryAlerts (s : State) : State :=
  (allAlarms.filter fun id => (s.alarm id).announce).foldl State.announce s

/-- A shift close sets the shift counts and all shift raise counts to 0 (07 R148). -/
def AlarmList.closeShift (al : AlarmList) : AlarmList :=
  { al with p1 := 0, p2 := 0, p3 := 0, recs := al.recs.map fun r => { r with shiftRaises := 0 } }

end Sys2Proof.Machine
end

