-- ==== Sys2Proof/Machine/ViewOps.lean ====
section
/-! DEFINITION. Shared operations of the floor alarm view FV (08): judging a report, inserting a mirror,
the end of a roll-call pass, restart and expiry of an origin, and the roll-call part of a filed SNAP. -/

namespace Sys2Proof.Machine

/-- Stage of a mirror state (08 R151). -/
def AlarmState.stage : AlarmState → Nat
  | .activeUnack => 1
  | .activeAcked => 2
  | .clearedUnack => 2
  | .shelved => 3

/-- Judgement of a report against the mirror held (08 R151). -/
inductive Judgement
  | new
  | newer
  | current
  | behind
  | older
deriving DecidableEq, Repr

/-- The mirror of an (origin, id). -/
def FloorView.mirror? (fv : FloorView) (n : Station) (id : AlarmId) : Option Mirror :=
  fv.view.find? fun m => m.origin == n && m.id == id

/-- Judge a report of a sequence and state (08 R151). -/
def judgeReport (m : Option Mirror) (seq : Word) (st : AlarmState) : Judgement :=
  match m with
  | none => .new
  | some m =>
    if seq = m.seq then (if m.state.stage ≤ st.stage then .current else .behind)
    else if serialNewer seq m.seq then .newer else .older

/-- Replace the view; VIEW_FULL becomes false once it holds fewer than 64 entries, and a visible change
sets ALARM_CHANGED (08 R153, R161). Seen marks are not visible. -/
def State.setView (s : State) (v : List Mirror) (full : Bool) : State :=
  let full' := full && decide (64 ≤ v.length)
  let visible (l : List Mirror) : List Mirror := l.map fun m => { m with seen := false }
  let s' := s.mapFv fun fv => { fv with view := v, full := full' }
  if visible v = visible s.fv.view ∧ full' = s.fv.full then s' else s'.notify .alarmChanged

/-- Change the mirror of an (origin, id) in its position. -/
def State.mapMirror (s : State) (n : Station) (id : AlarmId) (f : Mirror → Mirror) : State :=
  s.setView (s.fv.view.map fun m => if m.origin = n ∧ m.id = id then f m else m) s.fv.full

/-- Insert a mirror entry at the tail, evicting the oldest held entry of lower priority from a full view,
or turn it away (08 R153); an eviction leaves VIEW_FULL as it stands (DEDUCED, log 29). -/
def State.insertMirror (s : State) (m : Mirror) : State :=
  if s.fv.view.length < 64 then s.setView (s.fv.view ++ [m]) s.fv.full
  else match s.fv.view.findIdx? fun x => decide (alarmPriority m.id < alarmPriority x.id) with
    | some i => s.setView (s.fv.view.eraseIdx i ++ [m]) s.fv.full
    | none => s.setView s.fv.view true

/-- A report other than REMOVED acts on the view (08 R152, R155 step 4). -/
def State.takeReport (s : State) (n : Station) (id : AlarmId) (st : AlarmState) (seq : Word) (time : Stamp) :
    State :=
  match judgeReport (s.fv.mirror? n id) seq st with
  | .new => s.insertMirror ⟨n, id, st, seq, time, true, (s.peer n).fresh == .expired⟩
  | .newer => s.mapMirror n id fun m => { m with state := st, seq := seq, raiseTime := time, seen := true }
  | .current => s.mapMirror n id fun m => { m with state := st, seen := true }
  | .behind => s.mapMirror n id fun m => { m with seen := true }
  | .older => s

/-- A report of REMOVED (08 R152). -/
def State.takeRemoved (s : State) (n : Station) (id : AlarmId) (seq : Word) : State :=
  match s.fv.mirror? n id with
  | none => s
  | some m =>
    if seq = m.seq ∨ serialNewer seq m.seq then
      s.setView (s.fv.view.filter fun x => !(x.origin == n && x.id == id)) s.fv.full
    else s

/-- The end of a roll-call pass of an origin (08 R156). -/
def State.endPass (s : State) (n : Station) : State :=
  let kept := if (s.rollCall n).whole then s.fv.view.filter fun m => !(m.origin == n) || m.seen else s.fv.view
  let clear := (s.rollCall n).whole && (s.peer n).fresh == .fresh
  s.setView (kept.map fun m =>
    if m.origin = n then { m with seen := false, lost := m.lost && !clear } else m) s.fv.full

/-- A peer restart: every mirror of the origin leaves, its pass becomes NONE (08 R158); the other roll-call fields
stand (log 34). -/
def State.viewRestart (s : State) (n : Station) : State :=
  (s.setView (s.fv.view.filter fun m => !(m.origin == n)) s.fv.full).mapRoll n fun r => { r with opened := false }

/-- A peer record becomes EXPIRED: its mirrors are flagged ORIGIN_LOST, its pass becomes NONE (08 R157); the other
roll-call fields stand (log 34). DESIGN CHOICE: the seen marks set in the pass that so ends stay set (log 43). -/
def State.viewExpired (s : State) (n : Station) : State :=
  (s.setView (s.fv.view.map fun m => if m.origin = n then { m with lost := true } else m) s.fv.full).mapRoll n
    fun r => { r with opened := false }

/-- The entry of a roll-call part, if its codes are those of the catalog (08 R155 step 2). -/
def rollReport (e : RollEntry) : Option (AlarmId × AlarmState) :=
  match alarmIdOf e.id, alarmStateOf e.state with
  | some id, some st => if alarmPriority id = e.priority then some (id, st) else none
  | _, _ => none

/-- The roll-call part is consistent: `none` is inconsistent, otherwise the entry to judge, if any
(08 R155 step 2). -/
def rollConsistent (listed index : Nat) (e : Option RollEntry) : Option (Option (AlarmId × AlarmState × RollEntry)) :=
  match e with
  | none => if listed = 0 then some none else none
  | some e =>
    if index < listed then (rollReport e).map fun r => some (r.1, r.2, e) else none

/-- The pass step (08 R155 step 3). DESIGN CHOICE: a pass that opens from NONE leaves the seen marks as they stand, so a
mark of a pass that ended at EXPIRED counts in it (log 43). -/
def State.rollPass (s : State) (n : Station) (index : Nat) : State :=
  let r := s.rollCall n
  if !r.opened then s.mapRoll n fun r => { r with opened := true, whole := decide (index = 0) }
  else if r.prevLast ∧ index = 0 then (s.endPass n).mapRoll n fun r => { r with whole := true }
  else if r.prevIndex + 1 < index then s.mapRoll n fun r => { r with whole := false }
  else s

/-- The roll-call part of a SNAP that PT hands over (08 R155 steps 2 to 5). -/
def State.takeRoll (s : State) (n : Station) (listed index : Nat) (e : Option RollEntry) : State :=
  match rollConsistent listed index e with
  | none => s
  | some entry =>
    let s1 := s.rollPass n index
    let s2 := match entry with
      | some (id, st, x) => s1.takeReport n id st x.seq x.time
      | none => s1
    s2.mapRoll n fun r => { r with
      prevIndex := index
      prevLast := decide (listed = 0) || decide (index + 1 = listed) }

end Sys2Proof.Machine
end

