-- ==== Sys2Proof/Machine/Allocation.lean ====
section
/-! DEFINITION. The firing allocation (05 sections 5.3 and 5.4): the sets of a pass, the division of a
grant, the filling of the ranks within the air, the trim channel, and what the zone cannot meet. It
computes from the snapshot of the pass alone. -/

namespace Sys2Proof.Machine

/-! ### The sets of a pass (05 R99) -/

/-- Which set of a pass a member joins. -/
inductive Placed
  | allocatable (m : Member)
  | fixed (m : Member)
  | out
deriving DecidableEq, Repr

/-- The member of a channel in a state, with the heats of R99. -/
def placeMember (m : Member) (st : ChState) : Placed :=
  match st with
  | .running => .allocatable m
  | .proving => .fixed { m with counted := m.hmin }
  | .limited => .fixed { m with counted := m.hmin }
  | .stopping => .fixed { m with counted := m.actual }
  | .off => .out
  | .offUnusable => .out
  | .tripped => .out
  | .lockedOut => .out
  | .starting => .out
  | .fanFault => .out

/-- An own channel in the sets of a zone. -/
def State.placeOwn (s : State) (z : Zone) (n : Station) (c : Chan) : Placed :=
  match s.fuel? c with
  | some f =>
    if f.zone = z then
      let ch := s.chan c
      placeMember ⟨n, c, ch.hmin, ch.hmaxEff, ch.actual, f.rank, f.trim, f.airFactor, 0⟩ ch.state
    else .out
  | none => .out

/-- A summary of a peer record in the sets of a zone, by the freshness of the record. -/
def placePeer (z : Zone) (n : Station) (age : Freshness) (f : FuelSummary) : Placed :=
  if f.zone = z then
    let m : Member := ⟨n, f.chan, f.hmin, f.hmaxEff, f.actual, f.rank, f.trim, f.airFactor, 0⟩
    match age with
    | .fresh => placeMember m f.state
    | .stale => placeMember m f.state
    | .expired => if f.valveOpen then .fixed { m with actual := f.hmin, counted := f.hmin } else .out
    | .absent => .out
  else .out

/-- The fuel summary of a channel in a peer record. -/
def PeerRecord.fuelOf (r : PeerRecord) (c : Chan) : Option FuelSummary :=
  r.chans.findSome? fun
    | .fuel f => if f.chan = c then some f else none
    | .fan _ => none

/-- Every channel of the floor placed for a zone, in ascending (station, channel) order. -/
def State.placed (s : State) (z : Zone) : List Placed :=
  allStations.flatMap fun n => allChans.map fun c =>
    if s.isOwn n then s.placeOwn z n c
    else match (s.peer n).fuelOf c with
      | some f => placePeer z n (s.peer n).fresh f
      | none => .out

/-- The snapshot of a pass (05 R97, R99, R101). -/
def State.passInput (s : State) (z : Zone) : PassInput where
  dEff := (s.demand z).dEff
  lambda := s.zoneParam z ZoneCfg.lambda
  supply := s.supply z
  allocatable := (s.placed z).filterMap fun
    | .allocatable m => some m
    | .fixed _ => none
    | .out => none
  fixed := (s.placed z).filterMap fun
    | .allocatable _ => none
    | .fixed m => some m
    | .out => none

/-! ### Air, spans and the division (05 R101, R104) -/

/-- Air of a heat at an air factor and an excess air, in micro-units (05 R101). -/
def airOf (heat f lambda : Nat) : Nat := heat * f * lambda

/-- Span of an allocatable member (05 R99). -/
def Member.span (m : Member) : Nat := m.hmaxEff - m.hmin

/-- The whole shares of a division (05 R104). -/
def floorShares (g : Nat) (spans : List Nat) : List Nat := spans.map fun x => g * x / spans.sum

/-- Give the remaining units, one each, to the members with span above 0 in order (05 R104). -/
def giveUnits : Nat → List (Nat × Nat) → List Nat
  | _, [] => []
  | n, (span, share) :: rest =>
    if 0 < n ∧ 0 < span then (share + 1) :: giveUnits (n - 1) rest else share :: giveUnits n rest

/-- The division of a grant among members of the given spans (05 R104). -/
def divide (g : Nat) (spans : List Nat) : List Nat :=
  giveUnits (g - (floorShares g spans).sum) (spans.zip (floorShares g spans))

/-- The air the shares of a grant need (05 R105). -/
def needOf (lambda : Nat) (group : List Member) (g : Nat) : Nat :=
  ((group.zip (divide g (group.map Member.span))).map fun x => airOf x.2 x.1.airFactor lambda).sum

/-- The greatest grant not above the given one whose Need fits (05 R106 step 3). -/
def fitGrant (lambda : Nat) (group : List Member) (airLeft : Nat) : Nat → Nat
  | 0 => 0
  | g + 1 => if needOf lambda group (g + 1) ≤ airLeft then g + 1 else fitGrant lambda group airLeft g

/-- A grant scaled down to the air that is left (05 R106). -/
def scaledGrant (lambda : Nat) (group : List Member) (airLeft g : Nat) : Nat :=
  fitGrant lambda group airLeft (g * airLeft / needOf lambda group g)

/-! ### The ranks (05 R105) -/

/-- An allocation of a pass. -/
structure Allocated where
  member : Member
  heat : Nat
deriving DecidableEq, Repr

/-- The state of step 3 between two ranks. -/
structure Fill where
  remaining : Nat
  airLeft : Nat
  limited : Bool
  allocs : List Allocated
deriving DecidableEq, Repr

/-- The allocations of a group at a grant. -/
def groupAllocs (group : List Member) (g : Nat) : List Allocated :=
  (group.zip (divide g (group.map Member.span))).map fun x => ⟨x.1, x.1.hmin + x.2⟩

/-- Fill one rank (05 R105). -/
def fillRank (lambda : Nat) (members : List Member) (acc : Fill) (rank : Nat) : Fill :=
  let group := members.filter fun m => m.rank == rank
  let spans := group.map Member.span
  if spans.sum = 0 then { acc with allocs := acc.allocs ++ group.map fun m => ⟨m, m.hmin⟩ }
  else
    let g := min acc.remaining spans.sum
    let fits := decide (needOf lambda group g ≤ acc.airLeft)
    let g' := if fits then g else scaledGrant lambda group acc.airLeft g
    ⟨acc.remaining - g', acc.airLeft - needOf lambda group g', acc.limited || !fits,
      acc.allocs ++ groupAllocs group g'⟩

/-- Step 3: the ranks 0 to 7 in turn (05 R105). -/
def fillRanks (lambda : Nat) (members : List Member) (remaining airLeft : Nat) : Fill :=
  [0, 1, 2, 3, 4, 5, 6, 7].foldl (fillRank lambda members) ⟨remaining, airLeft, false, []⟩

/-! ### The whole pass (05 R100 to R109) -/

/-- The trim channel (05 R100): the members stand in ascending (station, channel) order. -/
def PassInput.trim (p : PassInput) : Option Member := p.allocatable.find? Member.trim

/-- The non-trim allocatable members (05 R100). -/
def PassInput.nonTrim (p : PassInput) : List Member :=
  match p.trim with
  | some t => p.allocatable.filter fun m => !(m.station == t.station && m.chan == t.chan)
  | none => p.allocatable

/-- MinHeat (05 R102). -/
def PassInput.minHeat (p : PassInput) : Nat :=
  (p.allocatable.map Member.hmin).sum + (p.fixed.map Member.counted).sum

/-- The air of the fixed members at their counted heats. -/
def PassInput.fixedAir (p : PassInput) : Nat :=
  (p.fixed.map fun m => airOf m.counted m.airFactor p.lambda).sum

/-- MinAir (05 R102). -/
def PassInput.minAir (p : PassInput) : Nat :=
  (p.allocatable.map fun m => airOf m.hmin m.airFactor p.lambda).sum + p.fixedAir

/-- The supply in micro-units. -/
def PassInput.supplyMicro (p : PassInput) : Nat := p.supply * 1000000

/-- The zone is AIR_SHORT (05 R102). -/
def PassInput.isShort (p : PassInput) : Bool := decide (p.supplyMicro < p.minAir)

/-- The trim target (05 R107). -/
def PassInput.trimTarget (p : PassInput) (t : Member) : Nat :=
  (clampInt ((p.dEff : Int) - ((p.nonTrim ++ p.fixed).map Member.actual).sum) t.hmin t.hmaxEff).toNat

/-- The air cap of the trim (05 R107). -/
def PassInput.trimCap (p : PassInput) (t : Member) : Int :=
  ((p.supplyMicro : Int) - ((p.nonTrim ++ p.fixed).map fun m => airOf m.actual m.airFactor p.lambda).sum)
    / (t.airFactor * p.lambda : Nat)

/-- The trim's allocation and whether the cap limits it (05 R107). -/
def PassInput.trimAlloc (p : PassInput) (t : Member) : Nat × Bool :=
  if (p.trimTarget t : Int) ≤ p.trimCap t then (p.trimTarget t, false)
  else ((max (t.hmin : Int) (p.trimCap t)).toNat, true)

/-- The allocatable member of the greatest rank number, the lowest (station, channel) among equals. -/
def topRank (l : List Member) : Option Member :=
  l.foldl (fun acc m =>
    match acc with
    | none => some m
    | some b => if b.rank < m.rank then some m else some b) none

/-- The reference factor (05 R108). -/
def PassInput.refFactor (p : PassInput) : Nat :=
  match p.trim with
  | some t => t.airFactor
  | none => match topRank p.allocatable with
    | some m => m.airFactor
    | none => 0

/-- The result of a pass. -/
structure PassResult where
  allocs : List Allocated
  airLeft : Nat
  airShort : Bool
  airLimited : Bool
deriving DecidableEq, Repr

/-- Steps 1 to 4 (05 R102 to R107). -/
def PassInput.run (p : PassInput) : PassResult :=
  if p.isShort then ⟨p.allocatable.map fun m => ⟨m, m.hmin⟩, 0, true, false⟩
  else
    let fill := fillRanks p.lambda p.nonTrim (p.dEff - p.minHeat) (p.supplyMicro - p.minAir)
    match p.trim with
    | some t =>
      let a := p.trimAlloc t
      ⟨fill.allocs ++ [⟨t, a.1⟩], fill.airLeft, false, fill.limited || a.2⟩
    | none => ⟨fill.allocs, fill.airLeft, false, fill.limited⟩

/-- MIN_BOUND (05 R102, R103). -/
def PassInput.minBound (p : PassInput) : Bool := decide (p.dEff < p.minHeat)

/-- Unmet demand (05 R108). -/
def PassInput.unmet (p : PassInput) (r : PassResult) : Nat :=
  p.dEff - ((r.allocs.map Allocated.heat).sum + (p.fixed.map Member.counted).sum)

/-- Shortfall (05 R108). -/
def PassInput.shortfall (p : PassInput) (r : PassResult) : Nat :=
  ceilDiv (p.unmet r * p.refFactor * p.lambda) 1000000

/-- The air of the allocations and the fixed members (05 R109). -/
def PassInput.allocatedAir (p : PassInput) (r : PassResult) : Nat :=
  (r.allocs.map fun a => airOf a.heat a.member.airFactor p.lambda).sum + p.fixedAir

/-- The air balance record after a pass (05 R109). -/
def PassInput.balance (p : PassInput) (r : PassResult) (count : BitVec 32) : AirBalance where
  supply := p.supply
  minAir := ceilDiv p.minAir 1000000
  allocAir := ceilDiv (p.allocatedAir r) 1000000
  airLeft := r.airLeft / 1000000
  shortfall := p.shortfall r
  dEff := p.dEff
  airShort := r.airShort
  airLimited := r.airLimited
  minBound := p.minBound
  demandUnmet := decide (p.dEff < p.unmet r * 100)
  passCount := count

end Sys2Proof.Machine
end

