-- ==== Sys2Proof/Machine/ShiftOps.lean ====
section
/-! DEFINITION. Shared operations of the shift totalizer SR (09): the clock shift number, integration,
running time and counts, closing a shift, the ring, the SHIFT frame and the floor summary. -/

namespace Sys2Proof.Machine

/-- The greatest shift total (09 R168). -/
def maxTotal : Nat := 4294967295

/-- A shift total with `d` added: it stays at its greatest value (09 R168). -/
def addTotal (t d : Nat) : Nat := satAdd t d maxTotal

/-- A lifetime total with `d` added: 48 bits, wrapping (09 R168). -/
def addLife (t d : Nat) : Nat := (t + d) % 281474976710656

/-! ### The time base (09 R163, R166) -/

/-- The clock shift number of day `d` and second `s` (09 R166). -/
def clockShift (cfg : Config) (d : Word) (s : Nat) : Word :=
  if cfg.b2 * 60 ≤ s then 3 * d + 2
  else if cfg.b1 * 60 ≤ s then 3 * d + 1
  else if cfg.b0 * 60 ≤ s then 3 * d
  else 3 * d - 1

/-- The second is a shift boundary of the configuration (09 R166). -/
def isBoundary (cfg : Config) (s : Nat) : Bool := s == cfg.b0 * 60 || s == cfg.b1 * 60 || s == cfg.b2 * 60

/-- The time base one second on (09 R163); a boundary second reached this way is marked for R173.
DESIGN CHOICE: only the second moved to is judged, not the one left, which a SET_TIME may have set (log 46). -/
def ShiftStore.tick (sr : ShiftStore) (cfg : Option Config) : ShiftStore :=
  let sec := if sr.sec = 86399 then 0 else sr.sec + 1
  let day := if sr.sec = 86399 then sr.day + 1 else sr.day
  let hit := match cfg with
    | some c => isBoundary c sec
    | none => false
  { sr with sec := sec, day := day, boundaryDue := sr.boundaryDue || hit }

/-! ### Accounts (09 R168 to R172) -/

/-- Integrate a rate over `e` ms: whole units of 3,600,000 join the totals, the rest stays (09 R169, R170). -/
def Account.integrate (a : Account) (rate e : Nat) : Account :=
  let r := a.massRem + rate * e
  { a with
    mass := addTotal a.mass (r / 3600000)
    lifeMass := addLife a.lifeMass (r / 3600000)
    massRem := r % 3600000 }

/-- The energy of a rate over `e` ms at an NCV (09 R169). -/
def Account.integrateEnergy (a : Account) (rate e ncv : Nat) : Account :=
  let r := a.energyRem + rate * e * ncv
  { a with
    energy := addTotal a.energy (r / 3600000000)
    lifeEnergy := addLife a.lifeEnergy (r / 3600000000)
    energyRem := r % 3600000000 }

/-- A channel is ESTIMATED, and with it the station (09 R172). -/
def State.markEstimated (s : State) (c : Chan) : State :=
  (s.mapAcct c fun a => { a with estimated := true }).mapSr fun r => { r with estimated := true }

/-- Integrate a FEED_ACTUAL sample of a fuel channel; `setpoint` is its setpoint at the sample (09 R169). -/
def State.integrateFeed (s : State) (c : Chan) (ncv setpoint e : Nat) : State :=
  let p := (s.chan c).feedPt
  let s1 := s.mapAcct c fun a => (a.integrate (p.rate setpoint) e).integrateEnergy (p.rate setpoint) e ncv
  if p.good then s1 else s1.markEstimated c

/-- Integrate a FLOW_ACTUAL sample of a fan channel (09 R170). -/
def State.integrateFlow (s : State) (c : Chan) (setpoint e : Nat) : State :=
  let p := (s.chan c).flowPt
  let s1 := s.mapAcct c fun a => a.integrate (p.rate setpoint) e
  if p.good then s1 else s1.markEstimated c

/-- A CLINKER_TEMP sample of quality GOOD or UNCERTAIN (09 R172). -/
def ShiftStore.clinkerSample (sr : ShiftStore) (v : Nat) : ShiftStore :=
  { sr with
    tempSum := satAdd sr.tempSum v 281474976710655
    tempCount := satAdd sr.tempCount 1 maxTotal
    tempMax := some (match sr.tempMax with
      | some m => max m v
      | none => v) }

/-- The running remainder in bit times at a moment (09 R171). -/
def Account.remainder (a : Account) (now : Nat) : Nat :=
  match a.runFrom with
  | some t => a.runRem + (now - t)
  | none => a.runRem

/-- Running starts or stops at a moment; the remainder stays (09 R171). -/
def Account.setRunning (a : Account) (runs : Bool) (now : Nat) : Account :=
  match a.runFrom, runs with
  | none, true => { a with runFrom := some now }
  | some _, false => { a with runRem := a.remainder now, runFrom := none }
  | some _, true => a
  | none, false => a

/-- One second of running time (09 R171). -/
def Account.runSecond (a : Account) (now : Nat) : Account :=
  { a with
    run := addTotal a.run 1
    lifeRun := addLife a.lifeRun 1
    runRem := a.remainder now - seconds 1
    runFrom := a.runFrom.map fun _ => now }

/-- A trip or fault of a channel is counted (09 R171). -/
def Account.countTrip (a : Account) : Account := { a with count := satInc16 a.count }

/-- Zero the shift totals, counts and marks of an account; remainders and lifetime totals stay (09 R176). -/
def Account.close (a : Account) : Account :=
  { a with mass := 0, energy := 0, run := 0, count := 0, estimated := false }

/-! ### The shift record, the SHIFT frame and the floor summary (09 R176 to R180) -/

/-- The channel entries of a shift record: each channel configured FUEL or FAN (09 R176). -/
def State.shiftEntries (s : State) : List ShiftEntry :=
  allChans.filterMap fun c =>
    let a := s.acct c
    match s.chanCfg c with
    | .unused => none
    | .fuel _ => some ⟨c, true, a.mass, a.energy, a.run, a.count, a.estimated⟩
    | .fan _ => some ⟨c, false, a.mass, 0, a.run, a.count, a.estimated⟩

/-- The record of the shift in progress (09 R176). -/
def State.shiftRecord (s : State) (kind : CloseKind) (number : Word) (skipped : Bool) : ShiftRecord where
  closeId := s.sr.closeCount
  number := number
  kind := kind
  incomplete := s.sr.incomplete
  estimated := s.sr.estimated
  gap := s.sr.gap || skipped
  start := s.sr.shiftStart
  ended := s.stamp
  chans := s.shiftEntries
  zoneTrips := s.sr.zoneTrips
  p1 := s.al.p1
  p2 := s.al.p2
  p3 := s.al.p3
  tempMax := if s.sr.tempCount = 0 then none else s.sr.tempMax
  tempMean := if s.sr.tempCount = 0 then none else some (roundDiv s.sr.tempSum s.sr.tempCount)
  unannounced := true

/-- Total fuel energy of a record, saturating (09 R178, 11 R201). -/
def ShiftRecord.fuelEnergy (r : ShiftRecord) : Nat :=
  min (r.chans.map fun e => if e.fuel then e.energy else 0).sum maxTotal

/-- Total air volume of a record, saturating (09 R178, 11 R201). -/
def ShiftRecord.airVolume (r : ShiftRecord) : Nat :=
  min (r.chans.map fun e => if e.fuel then 0 else e.mass).sum maxTotal

/-- The content of the SHIFT frame of a record (09 R178). -/
def ShiftRecord.msg (r : ShiftRecord) (own : Station) : ShiftMsg :=
  ⟨r.number, ⟨own, r.kind, r.incomplete, r.fuelEnergy, r.airVolume, r.zoneTrips, r.p1⟩⟩

/-- Offer the SHIFT frame of a ring record; its announce mark follows the outcome (09 R178). -/
def State.offerShift (s : State) (r : ShiftRecord) : State :=
  let o := s.offer .shift (r.msg s.ownStation).words 0 r.closeId
  o.1.mapSr fun sr => { sr with
    ring := sr.ring.map fun x =>
      if x.closeId = r.closeId then { x with unannounced := !(o.2 == .accepted) } else x }

/-- Offer again the SHIFT frame of each marked record, oldest first (09 R178). -/
def State.retryShifts (s : State) : State :=
  (s.sr.ring.reverse.filter ShiftRecord.unannounced).foldl State.offerShift s

/-- Put a station entry in ascending station order, replacing that station's (09 R179, R180). -/
def putEntry (e : StationSummary) : List StationSummary → List StationSummary
  | [] => [e]
  | x :: rest =>
    if x.station = e.station then e :: rest
    else if e.station < x.station then e :: x :: rest
    else x :: putEntry e rest

/-- Create a slot in its place, newest first (09 R179): before the first slot that it is serially newer than. DESIGN
CHOICE where held numbers lie 32768 or more apart and serial comparison orders them in no one way: the same place,
and the last slot counts as the oldest (log 33). -/
def putSlot (slot : SummarySlot) : List SummarySlot → List SummarySlot
  | [] => [slot]
  | x :: rest => if serialNewer slot.number x.number then slot :: x :: rest else x :: putSlot slot rest

/-- File a summary in the floor summary (09 R180). -/
def fileSummary (n : Word) (e : StationSummary) (l : List SummarySlot) : List SummarySlot :=
  if l.any fun x => x.number == n then
    l.map fun x => if x.number = n then { x with entries := putEntry e x.entries } else x
  else if l.length < 4 then putSlot ⟨n, [e]⟩ l
  else match l.getLast? with
    | some oldest => if serialNewer n oldest.number then putSlot ⟨n, [e]⟩ l.dropLast else l
    | none => l

/-- File the content of a SHIFT frame (09 R180). -/
def State.fileShift (s : State) (m : ShiftMsg) : State :=
  s.mapSr fun r => { r with summary := fileSummary m.number m.summary r.summary }

/-- What a close leaves in the account of the station (09 R176, R177). -/
def State.startShift (s : State) (closed : ShiftRecord) (next : Word) : State :=
  (s.mapSr fun r => { r with
    shift := some next
    shiftStart := closed.ended
    accts := r.accts.map Account.close
    zoneTrips := 0
    tempMax := none
    tempSum := 0
    tempCount := 0
    estimated := false
    gap := s.cond idFieldSilent
    incomplete := false
    ring := (closed :: r.ring).take 8
    closeCount := r.closeCount + 1 }).mapAl AlarmList.closeShift

/-- A close: the record is built and filed, announced, filed in the own floor summary, and the next shift
starts (09 R173 to R178, R180). -/
def State.closeShift (s : State) (kind : CloseKind) (number : Word) (skipped : Bool) (next : Word) : State :=
  let closed := s.shiftRecord kind number skipped
  (((s.startShift closed next).offerShift closed).fileShift (closed.msg s.ownStation)).notify .shiftClosed

/-- A valid SHIFT frame is judged for a PEER close (09 R175). -/
def State.peerClose (s : State) (m : Word) : State :=
  if s.sr.valid then s
  else match s.sr.shift with
    | none => s.closeShift .peer m false (m + 1)
    | some n =>
      if m = n then s.closeShift .peer m false (m + 1)
      else if serialNewer m n then s.closeShift .peer m true (m + 1)
      else s

/-- A filed peer SNAP sets an unknown shift number (09 R167). -/
def ShiftStore.learn (sr : ShiftStore) (shift : Option Word) (valid : Bool) : ShiftStore :=
  match sr.shift, shift with
  | none, some n => if valid then { sr with shift := some n } else sr
  | some _, _ => sr
  | none, none => sr

/-- CLOCK_LOST follows the clock-lost state in the configured modes (09 R164). -/
def State.clockCond (s : State) : State := s.setCond idClockLost s.sr.clockLost none

/-- A local zone trip is counted (09 R171). -/
def State.countZoneTrip (s : State) : State :=
  s.mapSr fun r => { r with zoneTrips := satInc16 r.zoneTrips }

end Sys2Proof.Machine
end

