-- ==== Sys2Proof/Machine/ChannelOps.lean ====
section
/-! DEFINITION. Shared operations of the channel engine CE (03): the actuator handshake, the ramp,
feeder tracking and derating, changes of channel state, trips and lockout, fan channels, and the
sample points. -/

namespace Sys2Proof.Machine

/-! ### The actuator handshake (03 section 3.3) -/

/-- Insert a record behind those sent earlier, and by channel among those sent at one moment (03 R44). -/
def insertRecord (r : CmdRecord) : List CmdRecord → List CmdRecord
  | [] => [r]
  | x :: rest =>
    if r.sentAt < x.sentAt ∨ (r.sentAt = x.sentAt ∧ r.chan < x.chan) then r :: x :: rest
    else x :: insertRecord r rest

/-- The proof in progress knows that its IGNITER on has been sent (04 R71): at PROVING entry it replaces any
pending one, so the first attempt of an IGNITER on is the order of the latest proof. -/
def Channel.proofSent (ch : Channel) (cmd : Cmd) (attempt : Nat) : Option Proof :=
  if cmd = .igniter true ∧ attempt = 1 then ch.proof.map fun p => { p with sent := true } else ch.proof

/-- Send a command: it is in flight under the tag counter's value, and its record waits for the field port
transmitter (03 R44). -/
def State.sendCmd (s : State) (c : Chan) (cmd : Cmd) (attempt : Nat) : State :=
  let tag := (s.chan c).tagCtr
  (s.mapChan c fun ch => { ch with
    inFlight := some ⟨cmd, tag, attempt, 0, none⟩
    proof := ch.proofSent cmd attempt
    tagCtr := tag + 1 }).mapCe
    fun e => { e with waiting := insertRecord ⟨c, tag, cmd, s.now⟩ e.waiting }

/-- The field port transmitter, when free, takes the first waiting record: its first byte leaves the port,
and the reply window of its command runs from here (03 R44). -/
def State.pump (s : State) : State :=
  if s.now < s.ce.busyUntil then s
  else match s.ce.waiting with
    | [] => s
    | r :: rest =>
      (s.mapCe fun e => { e with
        waiting := rest
        onPort := some r
        busyUntil := s.now + cmdRecordTime }).mapChan r.chan fun ch =>
        { ch with inFlight := ch.inFlight.map fun fl =>
            if fl.tag = r.tag then { fl with window := some (s.now + ms 200) } else fl }

/-- A command issued while one is in flight takes the pending place (03 R44). -/
def Channel.enqueue (ch : Channel) (cmd : Cmd) : Channel :=
  match cmd, ch.queued with
  | .igniter on, some (.setFeed _) => { ch with queued := some (.igniter on), feedDue := true }
  | .setFeed _, some (.igniter _) => { ch with feedDue := true }
  | cmd, _ => { ch with queued := some cmd }

/-- Issue a command (03 R44). -/
def State.issue (s : State) (c : Chan) (cmd : Cmd) : State :=
  match (s.chan c).inFlight with
  | none => s.sendCmd c cmd 1
  | some _ => s.mapChan c fun ch => ch.enqueue cmd

/-- What follows when the in-flight command has ended: the pending command, else the igniter-off mark, else
the feed-due mark (03 R44). -/
def State.nextCmd (s : State) (c : Chan) : State :=
  let ch := s.chan c
  let s1 := s.mapChan c fun x => { x with inFlight := none }
  match ch.queued with
  | some cmd => (s1.mapChan c fun x => { x with queued := none }).sendCmd c cmd 1
  | none =>
    if ch.igniterOff then (s1.mapChan c fun x => { x with igniterOff := false }).sendCmd c (.igniter false) 1
    else if ch.feedDue then
      (s1.mapChan c fun x => { x with feedDue := false }).sendCmd c (.setFeed ch.setpoint) 1
    else s1

/-- The commanded igniter state is on, or an IGNITER on is in flight (03 R55, R57). -/
def Channel.igniterLive (ch : Channel) : Bool :=
  ch.igniter || (ch.inFlight.map InFlight.cmd == some (Cmd.igniter true))

/-- The channel is in the ignition phase of an igniter proof: its release has not been ordered (04 R71). -/
def Channel.igniting (ch : Channel) : Bool :=
  match ch.proof with
  | some p => p.igniter && !p.released
  | none => false

/-- The in-flight IGNITER on is the one the igniter proof in progress ordered, and its DONE is awaited (04 R71,
R73): not one that an ended proof has left in flight. -/
def Channel.awaitsDone (ch : Channel) : Bool :=
  match ch.proof with
  | some p => p.igniter && p.sent && !p.released
  | none => false

/-! ### Changes of channel state (03 section 3.7, 3.8) -/

/-- The channel runs for SR: a fuel channel in PROVING, RUNNING, LIMITED or STOPPING, a fan in RUNNING
(09 R171). -/
def ChState.runs : ChState → Bool
  | .proving => true
  | .running => true
  | .limited => true
  | .stopping => true
  | .off => false
  | .offUnusable => false
  | .tripped => false
  | .lockedOut => false
  | .starting => false
  | .fanFault => false

/-- A change of state: the CHANNEL_STATE notice, SR's running time, and the conditions that follow the
state (03 section 3.7, R60, R61). -/
def State.setChState (s : State) (c : Chan) (st : ChState) : State :=
  if (s.chan c).state = st then s
  else
    let s1 := ((s.mapChan c fun ch => { ch with state := st }).notify .channelState).mapAcct c
      fun a => a.setRunning st.runs s.now
    let ch := s1.chan c
    let s2 := s1.setCond (idChannelTrip c) (st == .tripped) (ch.cause.map TripCause.code)
    let s3 := s2.setCond (idChannelLockout c) (st == .lockedOut) (ch.cause.map TripCause.code)
    s3.setCond (idFanFault c) (st == .fanFault) (some ch.setpoint)

/-- Tracking ends: its fields are absent, FEED_DEVIATION false, Hmax_eff = Hmax (03 R50 to R52). -/
def State.endTracking (s : State) (c : Chan) : State :=
  (s.mapChan c fun ch => { ch with
    track := none
    unlockedClock := none
    acquiringClock := none
    hmaxEff := ch.hmax }).setCond (idFeedDeviation c) false none

/-- A fuel channel enters OFF: no allocation, target, setpoint, ramp, proof or cause, SHUT asserted
(03 R48, R49, R53). -/
def State.enterOff (s : State) (c : Chan) : State :=
  ((s.mapChan c fun ch => { ch with
    cause := none
    alloc := 0
    target := 0
    setpoint := 0
    rampNext := none
    proof := none
    shutReleased := false }).endTracking c).setChState c .off

/-- A large target change restarts feeder acquisition (03 R49, R50). -/
def State.restartAcquiring (s : State) (c : Chan) : State :=
  match (s.chan c).track with
  | none => s
  | some t =>
    let s1 := s.mapChan c fun ch => { ch with
      track := some { t with tracking := false, locked := false, within := 0, outside := 0 }
      unlockedClock := none
      acquiringClock := some (s.now + seconds 60) }
    if t.locked then s1.notify .channelState else s1

/-- Move the setpoint toward the target by at most the ramp (03 R49). -/
def rampMove (setpoint target ramp : Nat) : Nat :=
  if setpoint ≤ target then min (setpoint + ramp) target else max (setpoint - ramp) target

/-- The end of STOPPING: SHUT asserted, setpoint 0, SET_FEED 0 issued, OFF (03 R55). -/
def State.finishStopping (s : State) (c : Chan) : State := (s.enterOff c).issue c (.setFeed 0)

/-- A step of the ramp at the moment `t` of its clock: the setpoint moves, SET_FEED is issued, and the step
that reaches Fmin in STOPPING ends it (03 R49, R55). -/
def State.stepRamp (s : State) (c : Chan) (f : FuelCfg) (t : Nat) : State :=
  let ch := s.chan c
  let sp := rampMove ch.setpoint ch.target f.ramp
  let s1 := (s.mapChan c fun x => { x with
    setpoint := sp
    rampNext := if sp = ch.target then none else some (t + seconds 1) }).issue c (.setFeed sp)
  if ch.state = .stopping ∧ sp = f.fmin then s1.finishStopping c else s1

/-- Set the feed target; a large change restarts acquisition, and a target that differs from the setpoint
starts the ramp clock with a step at once (03 R49). -/
def State.retarget (s : State) (c : Chan) (f : FuelCfg) (target : Nat) : State :=
  let ch := s.chan c
  let s1 := s.mapChan c fun x => { x with target := target }
  let s2 := if 5 * f.fmax < absDiff target ch.target * 100 then s1.restartAcquiring c else s1
  if ch.rampNext = none ∧ target ≠ ch.setpoint then s2.stepRamp c f s.now else s2

/-- Hold an allocation in RUNNING: a change sets the feed target (03 R48). -/
def State.holdAlloc (s : State) (c : Chan) (f : FuelCfg) (a : Nat) : State :=
  if (s.chan c).alloc = a then s
  else (s.mapChan c fun x => { x with alloc := a }).retarget c f (feedOf f a)

/-- An allocation that FA delivers (03 R48). -/
def State.deliver (s : State) (c : Chan) (a : Nat) : State :=
  match s.fuel? c with
  | none => s
  | some f =>
    if (s.chan c).state = .running then
      s.holdAlloc c f (clampNat a (s.chan c).hmin (s.chan c).hmaxEff)
    else s

/-- Set Hmax_eff; a held allocation above it is lowered to it (03 R48, R52). -/
def State.setHmaxEff (s : State) (c : Chan) (f : FuelCfg) (v : Nat) : State :=
  let s1 := s.mapChan c fun x => { x with hmaxEff := v }
  if (s.chan c).state = .running ∧ v < (s.chan c).alloc then s1.holdAlloc c f v else s1

/-- Hmax_eff of a derated channel (03 R52). -/
def Channel.derated (ch : Channel) : Nat := min ch.hmax (max ch.hmin ch.actual)

/-- FEED_DEVIATION becomes true: the channel is derated (03 R51, R52). -/
def State.startDerating (s : State) (c : Chan) (f : FuelCfg) : State :=
  (s.setCond (idFeedDeviation c) true (some (s.chan c).actual)).setHmaxEff c f (s.chan c).derated

/-- FEED_DEVIATION becomes false (03 R51, R52). -/
def State.endDerating (s : State) (c : Chan) : State :=
  (s.mapChan c fun x => { x with hmaxEff := x.hmax }).setCond (idFeedDeviation c) false none

/-- The in-band flag: the last evaluated sample lies within the tolerance of the sub-state as it now is, 80 per
mille in ACQUIRING and 20 in TRACKING (03 R50). -/
def Tracking.inBand (t : Tracking) : Bool :=
  match t.lastDev with
  | some d => decide (d ≤ if t.tracking then 20 else 80)
  | none => false

/-- The deviation of a sample in per mille, truncated (03 R50). -/
def deviation (actual setpoint fmin : Nat) : Nat :=
  absDiff actual setpoint * 1000 / max setpoint (max fmin 1)

/-- Tracking after a sample of the given deviation (03 R50). -/
def Tracking.sample (t : Tracking) (dev : Nat) : Tracking :=
  let u := { t with lastDev := some dev }
  if !t.tracking then
    if dev ≤ 20 then
      if 5 ≤ t.within + 1 then { u with tracking := true, locked := true, within := 0, outside := 0 }
      else { u with within := t.within + 1 }
    else { u with within := 0 }
  else if !t.locked then
    if dev ≤ 20 then
      if 5 ≤ t.within + 1 then { u with locked := true, within := 0 }
      else { u with within := t.within + 1 }
    else { u with within := 0 }
  else
    if dev ≤ 20 then { u with outside := 0 }
    else if 3 ≤ t.outside + 1 then { u with locked := false, outside := 0 }
    else { u with outside := t.outside + 1 }

/-- Evaluate tracking on a FEED_ACTUAL sample of quality GOOD or UNCERTAIN (03 R50, R51). -/
def State.trackSample (s : State) (c : Chan) (f : FuelCfg) (actual : Nat) : State :=
  match (s.chan c).track with
  | none => s
  | some t =>
    let t' := t.sample (deviation actual (s.chan c).setpoint f.fmin)
    let s1 := s.mapChan c fun x => { x with track := some t' }
    if t'.locked && !t.locked then
      ((s1.mapChan c fun x => { x with unlockedClock := none, acquiringClock := none }).endDerating c).notify
        .channelState
    else if t.locked && !t'.locked then
      (s1.mapChan c fun x => { x with unlockedClock := some (s.now + seconds 20) }).notify .channelState
    else s1

/-- Tracking starts in ACQUIRING (03 R50, R51). -/
def State.startTracking (s : State) (c : Chan) : State :=
  s.mapChan c fun ch => { ch with
    track := some ⟨false, false, 0, 0, none⟩
    unlockedClock := none
    acquiringClock := some (s.now + seconds 60) }

/-- A passed proof: RUNNING, or LIMITED in mode ISOLATED, with held allocation Hmin (03 R48, R49, R54). -/
def State.enterRunning (s : State) (c : Chan) (f : FuelCfg) : State :=
  let isolated := s.pt.mode == .isolated
  let s1 := (s.mapChan c fun ch => { ch with proof := none, alloc := ch.hmin }).setChState c
    (if isolated then .limited else .running)
  (s1.startTracking c).retarget c f (if isolated then f.fmin else feedOf f (s.chan c).hmin)

/-- RUNNING to LIMITED at entry to ISOLATED (03 R56). -/
def State.limitChannel (s : State) (c : Chan) : State :=
  match s.fuel? c with
  | none => s
  | some f =>
    if (s.chan c).state = .running then
      ((s.mapChan c fun ch => { ch with alloc := ch.hmin }).setChState c .limited).retarget c f f.fmin
    else s

/-- LIMITED back to RUNNING at exit from ISOLATED (03 R56). -/
def State.unlimitChannel (s : State) (c : Chan) : State :=
  match s.fuel? c with
  | none => s
  | some f =>
    if (s.chan c).state = .limited then
      ((s.mapChan c fun ch => { ch with alloc := ch.hmin }).setChState c .running).retarget c f
        (feedOf f (s.chan c).hmin)
    else s

/-- OFF with SET_FEED 0 issued, and IGNITER off as well when it is to go off (03 R55, 04 R73). -/
def State.offWith (s : State) (c : Chan) (igniterOff : Bool) : State :=
  let s1 := (s.enterOff c).issue c (.setFeed 0)
  if igniterOff then s1.issue c (.igniter false) else s1

/-- CHANNEL_STOP in PROVING: IGNITER off when the igniter is on or an IGNITER on is in flight (03 R55). An IGNITER
on that is only pending is not named there and goes out in OFF (DEDUCED, log 37). -/
def State.stopProving (s : State) (c : Chan) : State := s.offWith c (s.chan c).igniterLive

/-- A zone lost under an open or PROVING channel: OFF as for CHANNEL_STOP in PROVING, and IGNITER off in any case in
the ignition phase, where it takes the place of a pending IGNITER on (03 R44, R53; 04 R73). -/
def State.loseZone (s : State) (c : Chan) : State :=
  s.offWith c ((s.chan c).igniterLive || (s.chan c).igniting)

/-- CHANNEL_STOP in RUNNING or LIMITED (03 R55). -/
def State.startStopping (s : State) (c : Chan) (f : FuelCfg) : State :=
  let s1 := (s.mapChan c fun ch => { ch with alloc := ch.hmin }).setChState c .stopping
  if (s.chan c).setpoint = f.fmin then (s1.mapChan c fun ch => { ch with target := f.fmin }).finishStopping c
  else s1.retarget c f f.fmin

/-- The channel is in a state that a trip with the cause reaches (03 R57). -/
def TripCause.reaches (cause : TripCause) (st : ChState) : Bool :=
  match cause with
  | .lightOffFail => st == .proving
  | .feederFault => st == .proving || st == .running || st == .limited || st == .stopping
  | .zoneTrip => st == .off || st == .proving || st == .running || st == .limited || st == .stopping
  | .actuatorFailure => st == .off || st == .proving || st == .running || st == .limited || st == .stopping

/-- A counting cause locks the channel out: the history holds the same cause within the window (03 R58). -/
def State.locksOut (s : State) (c : Chan) (f : FuelCfg) (cause : TripCause) : Bool :=
  !(cause == .zoneTrip) &&
    match (s.chan c).history with
    | some h => h.cause == cause && decide (s.runClock - h.clock ≤ f.lockout * 1000)
    | none => false

/-- The record of a fuel channel right after a trip, but for its state and tracking (03 R57, R58). -/
def Channel.tripRecord (ch : Channel) (cause : TripCause) (clock : Nat) (stamp : Stamp) : Channel :=
  { ch with
    cause := some cause
    history := if cause = .zoneTrip then ch.history else some ⟨cause, clock, stamp⟩
    shutReleased := false
    alloc := 0
    target := 0
    setpoint := 0
    rampNext := none
    proof := none
    feedDue := false
    igniterOff := ch.igniterOff || ch.igniterLive }

/-- A trip of a fuel channel (03 R57, R58). DESIGN CHOICE: FEED_DEVIATION falls with the tracking before CHANNEL_TRIP
or CHANNEL_LOCKOUT rises; R131 does not order the writes of one moment (log 42). -/
def State.tripChannel (s : State) (c : Chan) (cause : TripCause) : State :=
  match s.fuel? c with
  | none => s
  | some f =>
    if cause.reaches (s.chan c).state then
      let st : ChState := if s.locksOut c f cause then .lockedOut else .tripped
      let s1 := (s.mapChan c fun ch => ch.tripRecord cause s.runClock s.stamp).endTracking c
      let s2 := match (s.chan c).inFlight with
        | none => (s1.mapChan c fun ch => { ch with queued := none }).sendCmd c (.setFeed 0) 1
        | some _ => s1.mapChan c fun ch => { ch with queued := some (.setFeed 0) }
      (s2.mapAcct c Account.countTrip).setChState c st
    else s

/-! ### Fan channels (03 R60, R61) -/

/-- A fan starts: STARTING with setpoint Fmin, SET_FLOW Fmin and the 30 s start clock (03 R60). DESIGN CHOICE: a
FLOW_ACTUAL value in use that is already GOOD and at least half Fmin does not move the fan to RUNNING at this moment;
it does so when it is next handed to the fan. R60 does not say (log 38). -/
def State.startFan (s : State) (c : Chan) (f : FanCfg) : State :=
  ((s.mapChan c fun ch => { ch with
    setpoint := f.fmin
    startClock := some (s.now + seconds 30) }).issue c (.setFlow f.fmin)).setChState c .starting

/-- A fan stops: OFF at once with setpoint 0 and SET_FLOW 0. -/
def State.stopFan (s : State) (c : Chan) : State :=
  ((s.mapChan c fun ch => { ch with
    setpoint := 0
    startClock := none
    lowFlowClock := none }).issue c (.setFlow 0)).setChState c .off

/-- A fan enters FAN_FAULT: the setpoint is held, SR is given a fault. -/
def State.faultFan (s : State) (c : Chan) : State :=
  ((s.mapChan c fun ch => { ch with startClock := none, lowFlowClock := none }).mapAcct c
    Account.countTrip).setChState c .fanFault

/-- A new flow setpoint is handed to CE, which holds it and issues SET_FLOW; an unchanged one issues nothing
(06 R122). -/
def State.setFlow (s : State) (c : Chan) (v : Nat) : State :=
  if (s.chan c).setpoint = v then s
  else (s.mapChan c fun ch => { ch with setpoint := v }).issue c (.setFlow v)

/-- The base of a FIXED fan (06 R116). -/
def fanBase (f : FanCfg) : Nat := clampNat f.fbase f.fmin f.fmax

/-- A FIXED fan takes its base, without slew (06 R116, R127). -/
def State.takeBase (s : State) (c : Chan) (f : FanCfg) : State :=
  match f.role with
  | .fixed => s.setFlow c (fanBase f)
  | .cooler => s

/-- A FLOW_ACTUAL value in use is handed to the fan: a GOOD one of at least half Fmin ends STARTING, and a
FIXED fan then takes its base (03 R60, 06 R116). -/
def State.flowHanded (s : State) (c : Chan) (f : FanCfg) : State :=
  let ch := s.chan c
  if ch.state = .starting ∧ ch.flowPt.good ∧ f.fmin ≤ ch.flowPt.last.getD 0 * 2 then
    ((s.mapChan c fun x => { x with setpoint := f.fmin, startClock := none }).setChState c .running).takeBase c f
  else s

/-- Adoption of a running fan during the listen (03 R62). -/
def State.adoptFan (s : State) (c : Chan) (f : FanCfg) (flow : Nat) : State :=
  let ch := s.chan c
  if s.pt.mode = .starting ∧ ch.state = .off ∧ !ch.adopted ∧ f.fmin ≤ flow * 2 then
    (s.mapChan c fun x => { x with setpoint := flow, adopted := true }).setChState c .running
  else s

/-! ### Replies and attempt failures (03 R45, R46) -/

/-- An attempt failure of the in-flight command (03 R46). -/
def State.attemptFailed (s : State) (c : Chan) : State :=
  match (s.chan c).inFlight with
  | none => s
  | some fl =>
    let s1 := (s.mapChan c fun ch => { ch with slowSince := some s.now }).setCond (idActuatorSlow c) true none
    if fl.attempt = 1 then s1.sendCmd c fl.cmd 2
    else
      match s.chanCfg c with
      | .fuel _ =>
        if TripCause.actuatorFailure.reaches (s.chan c).state then
          (s1.mapChan c fun ch => { ch with inFlight := none }).tripChannel c .actuatorFailure
        else s1.nextCmd c
      | .fan _ =>
        let s2 := s1.mapChan c fun ch => { ch with inFlight := none, queued := none }
        if (s.chan c).state = .fanFault then s2 else s2.faultFan c
      | .unused => s1

/-! ### Sample points (03 R40) -/

/-- A sample of quality GOOD or UNCERTAIN. -/
def Point.takeGood (p : Point) (v : Nat) (uncertain : Bool) : Point :=
  ⟨.current, some v, none, if uncertain then satInc16 p.uncertain else p.uncertain⟩

/-- A BAD sample, or the port's silence. -/
def Point.takeBad (p : Point) (now : Nat) : Point :=
  match p.cond with
  | .current => { p with cond := .held, hold := some (now + ms 3000) }
  | .noValue => { p with cond := .substituted }
  | .held => p
  | .substituted => p

/-- A hold runs out. -/
def Point.expire (p : Point) : Point := { p with cond := .substituted, hold := none }

/-- The point of a valid combination of source and quantity. -/
def State.point (s : State) : PointId → Point
  | .feed c => (s.chan c).feedPt
  | .valve c => (s.chan c).valvePt
  | .fault c => (s.chan c).faultPt
  | .flow c => (s.chan c).flowPt
  | .bed c => (s.chan c).bedPt
  | .flame z => s.ce.flames.get z
  | .clinker => s.ce.clinker

/-- Change one point. -/
def State.mapPoint (s : State) (p : PointId) (f : Point → Point) : State :=
  match p with
  | .feed c => s.mapChan c fun ch => { ch with feedPt := f ch.feedPt }
  | .valve c => s.mapChan c fun ch => { ch with valvePt := f ch.valvePt }
  | .fault c => s.mapChan c fun ch => { ch with faultPt := f ch.faultPt }
  | .flow c => s.mapChan c fun ch => { ch with flowPt := f ch.flowPt }
  | .bed c => s.mapChan c fun ch => { ch with bedPt := f ch.bedPt }
  | .flame z => s.mapCe fun e => { e with flames := upd e.flames z (f (e.flames.get z)) }
  | .clinker => s.mapCe fun e => { e with clinker := f e.clinker }

/-- The sample points a channel has by its configuration (03 R38, R39). -/
def State.chanPoints (s : State) (c : Chan) : List PointId :=
  if (s.fuel? c).isSome then [.feed c, .valve c, .fault c]
  else if (s.fan? c).isSome then [.flow c, .bed c]
  else []

/-- The sample points the configuration gives the station (03 R39). -/
def State.allPoints (s : State) : List PointId :=
  allChans.flatMap s.chanPoints ++ (allZones.filter s.hasScanner).map .flame
    ++ (if s.clinkerPresent then [.clinker] else [])

/-- SAMPLE_BAD of a channel: some point of it is SUBSTITUTED (03 R42). -/
def State.sampleBad (s : State) (c : Chan) : Bool :=
  (s.chanPoints c).any fun p => (s.point p).cond == .substituted

/-- Write SAMPLE_BAD of a channel as its points stand. -/
def State.sampleCond (s : State) (c : Chan) : State := s.setCond (idSampleBad c) (s.sampleBad c) none

/-- The channel a sample point belongs to. -/
def pointChan? : PointId → Option Chan
  | .feed c => some c
  | .valve c => some c
  | .fault c => some c
  | .flow c => some c
  | .bed c => some c
  | .flame _ => none
  | .clinker => none

/-- Write SAMPLE_BAD of the channel a point belongs to. -/
def State.samplePointCond (s : State) (p : PointId) : State :=
  match pointChan? p with
  | some c => s.sampleCond c
  | none => s

end Sys2Proof.Machine
end

