-- ==== Sys2Proof/Machine/CoolerOps.lean ====
section
/-! DEFINITION. Shared operations of the cooler regulator CR (06): the terms of a setpoint computation,
the step of the setpoint, blow-through, and the high-temperature clock. -/

namespace Sys2Proof.Machine

/-- The load ratio L in per mille (06 R118). -/
def loadRatio (dEff dnom : Nat) : Nat := clampNat (dEff * 1000 / dnom) 300 1200

/-- The bed pressure term, rounded toward zero (06 R119). -/
def bedTerm (f : FanCfg) (pBed : Nat) : Int := Int.tdiv ((f.gBed : Int) * ((pBed : Int) - f.pRef)) 100

/-- The temperature term (06 R121). -/
def tempTerm (f : FanCfg) (tLim : Nat) (tOut : Option Nat) : Int :=
  match tOut with
  | some t => if tLim < t then (f.gT : Int) * ((t : Int) - tLim) else 0
  | none => 0

/-- F4 clamped to the limits of the fan (06 R121). -/
def clampFlow (f : FanCfg) (f4 : Int) : Nat := (clampInt f4 f.fmin f.fmax).toNat

/-- The step limit (06 R122). -/
def stepLimit (slew e : Nat) : Nat := max 1 (slew * e / 1000)

/-- The terms of a computation (06 R118 to R122). -/
def coolTerms (f : FanCfg) (tLim dEff dnom pBed shortfall : Nat) (tOut : Option Nat) (e : Nat) : Computation :=
  let load := loadRatio dEff dnom
  let f1 : Int := roundDiv (f.fbase * load) 1000
  let f2 := f1 + bedTerm f pBed
  let f3 := f2 + ceilDiv (shortfall * f.pull) 1000
  let f4 := f3 + tempTerm f tLim tOut
  ⟨load, f1, f2, f3, f4, clampFlow f f4, e, stepLimit f.slew e⟩

/-- Move a setpoint toward a goal by at most a limit. -/
def moveToward (prev goal limit : Nat) : Nat :=
  if prev ≤ goal then min (prev + limit) goal else max (prev - limit) goal

/-- The limit T_lim of the station. -/
def State.tLim (s : State) : Nat := ((s.config.map Config.tLim)).getD 0

/-- The computation of a COOLER fan from what the other blocks hold (06 R117). -/
def State.computation (s : State) (c : Chan) (f : FanCfg) (e : Nat) : Computation :=
  coolTerms f s.tLim (s.demand f.loadZone).dEff (s.zoneParam f.loadZone ZoneCfg.nominalHeat)
    ((s.chan c).bedPt.pressure f.pRef) (s.cr.held.get f.zone) s.tOut e

/-- A bed pressure sample computes the setpoint of a COOLER fan in RUNNING, in NORMAL or ISOLATED; while
frozen the terms are kept and the setpoint stays (06 R117, R122, R124). -/
def State.computeFan (s : State) (c : Chan) (f : FanCfg) (e : Nat) : State :=
  if f.role = .cooler ∧ (s.chan c).state = .running ∧ (s.pt.mode = .normal ∨ s.pt.mode = .isolated) then
    let k := s.computation c f e
    let prev := (s.chan c).setpoint
    let s1 := s.mapReg c fun r => { r with
      last := some k
      slewLimited := decide (k.stepLimit < absDiff prev k.f5) }
    if (s.reg c).frozen then s1 else s1.setFlow c (moveToward prev k.f5 k.stepLimit)
  else s

/-- BED_PRESSURE_LOW becomes false, and with it the frozen flag; the clock stops (06 R123, R124). -/
def State.clearBlow (s : State) (c : Chan) : State :=
  (s.mapReg c fun r => { r with blowClock := none, frozen := false }).setCond (idBedLow c) false none

/-- Judge blow-through of a fan from its bed pressure in use (06 R123, R128). -/
def State.judgeBlow (s : State) (c : Chan) : State :=
  match s.fan? c with
  | none => s
  | some f =>
    if (s.chan c).state = .running ∧ (s.chan c).bedPt.pressure f.pRef < f.pLow then
      if (s.reg c).blowClock = none ∧ s.cond (idBedLow c) = false then
        s.mapReg c fun r => { r with blowClock := some (s.now + seconds 10) }
      else s
    else s.clearBlow c

/-- Judge the high-temperature clock at a change of T_out (06 R126). -/
def State.judgeHigh (s : State) : State :=
  let high := match s.tOut with
    | some t => decide (s.tLim + 50 < t)
    | none => false
  if high then
    if s.cr.highClock = none ∧ s.cond idClinkerHigh = false then
      s.mapCr fun r => { r with highClock := some (s.now + seconds 60) }
    else s
  else (s.mapCr fun r => { r with highClock := none }).setCond idClinkerHigh false none

/-- The held shortfall of a zone (06 R120). -/
def State.holdShortfall (s : State) (z : Zone) (v : Nat) : State :=
  s.mapCr fun r => { r with held := upd r.held z v }

end Sys2Proof.Machine
end

