-- ==== Sys2Proof/Machine/FiringOps.lean ====
section
/-! DEFINITION. Shared operations of the firing allocator FA (05): the demand records, the start and the
completion of a pass, the supply refresh, and what FA does when a zone leaves LIT. -/

namespace Sys2Proof.Machine

/-! ### The demand record (05 R90 to R95) -/

/-- The goal of a known record: its target within [0, zone max heat] (05 R90). -/
def State.goal (s : State) (z : Zone) (target : Nat) : Nat := min target (s.zoneParam z ZoneCfg.maxHeat)

/-- The slew clock after a change of goal (05 R95). -/
def slewJudge (goal dEff now : Nat) (clock : Option Nat) : Option Nat :=
  if goal = dEff then none
  else match clock with
    | some t => some t
    | none => some (now + seconds 1)

/-- The record takes a demand: at once when it was unknown, otherwise D_eff slews (05 R94, R95). -/
def State.takeDemand (s : State) (z : Zone) (d : Demand) : State :=
  let goal := s.goal z d.target
  s.mapDemand z fun r =>
    match r.known with
    | none => { r with known := some d, dEff := goal, slewClock := none }
    | some _ => { r with known := some d, slewClock := slewJudge goal r.dEff s.now r.slewClock }

/-- A demand offered for adoption is newer than the record (05 R94). -/
def newerDemand (held : Option Demand) (d : Demand) : Bool :=
  match held with
  | none => true
  | some h => serialNewer d.epoch h.epoch || (d.epoch == h.epoch && decide (h.setter < d.setter))

/-- A demand is offered to the record for adoption (05 R93, R94). -/
def State.adoptDemand (s : State) (z : Zone) (d : Demand) : State :=
  if newerDemand (s.demand z).known d then
    (s.mapDemand z fun r => { r with unannounced := false }).takeDemand z d
  else s

/-- Offer the DEMAND frame of a record; the unannounced mark follows the outcome (05 R92). -/
def State.offerDemand (s : State) (z : Zone) : State :=
  match (s.demand z).known with
  | none => s
  | some d =>
    let r := s.offer .demand (demandWords z d) 0 0
    r.1.mapDemand z fun x => { x with unannounced := !(r.2 == .accepted) }

/-- Retry of one record at a transmit completion: the mark is cleared when the record no longer names this
station as setter (05 R92). -/
def State.retryDemand (s : State) (z : Zone) : State :=
  match (s.demand z).unannounced, (s.demand z).known with
  | true, some d =>
    if d.setter = s.ownStation then s.offerDemand z
    else s.mapDemand z fun x => { x with unannounced := false }
  | true, none => s.mapDemand z fun x => { x with unannounced := false }
  | false, _ => s

/-- Retry of every marked record (05 R92). DESIGN CHOICE: in ascending zone order, R92 gives none (log 39). -/
def State.retryDemands (s : State) : State := allZones.foldl State.retryDemand s

/-! ### Passes (05 R96 to R98) -/

/-- Start a pass: its snapshot is taken and the period clock restarts (05 R97). -/
def State.startPass (s : State) (z : Zone) : State :=
  let input := s.passInput z
  s.mapFiring z fun x => { x with pass := some ⟨input, false⟩, period := some (s.now + ms 500) }

/-- A pass may be run for the zone: it participates, is LIT, and the mode is NORMAL or ISOLATED (05 R96). -/
def State.passable (s : State) (z : Zone) : Bool :=
  s.participates z && (s.zone z).state == .lit && (s.pt.mode == .normal || s.pt.mode == .isolated)

/-- A trigger of a pass (05 R96, R97). -/
def State.triggerPass (s : State) (z : Zone) : State :=
  if s.passable z then
    match (s.firing z).pass with
    | none => s.startPass z
    | some _ => s.mapFiring z fun x => { x with dirty := true }
  else s

/-- The zone enters LIT: its period clock runs out 500 ms later if no pass starts before (05 R96). -/
def State.firingEntersLit (s : State) (z : Zone) : State :=
  s.mapFiring z fun x => { x with period := some (s.now + ms 500) }

/-- The air balance record while the zone is not LIT (05 R109, R112). -/
def AirBalance.cleared (a : AirBalance) : AirBalance :=
  { AirBalance.initial with supply := a.supply, passCount := a.passCount }

/-- FA when a zone leaves LIT (05 R112). -/
def State.firingLeavesLit (s : State) (z : Zone) : State :=
  let s1 := s.mapFiring z fun x => { x with
    period := none
    dirty := false
    unmetClock := none
    pass := x.pass.map fun p => { p with doomed := true }
    air := x.air.cleared }
  ((s1.setCond (idAirShort z) false none).setCond (idDemandUnreachable z) false none).holdShortfall z 0

/-- The air-failure clock follows the AIR_SHORT flag in LIT (04 R77). -/
def State.airFlag (s : State) (z : Zone) (before after : Bool) : State :=
  if (s.zone z).state = .lit then
    if after && !before then s.mapZone z fun x => { x with airClock := some (s.now + seconds 10) }
    else if before && !after then s.mapZone z fun x => { x with airClock := none }
    else s
  else s

/-- The DEMAND_UNMET clock at a completion (05 R111). -/
def unmetJudge (before after : Bool) (now : Nat) (clock : Option Nat) : Option Nat :=
  if after then (if before then clock else some (now + seconds 30)) else none

/-- Deliver the allocations of the own channels that were allocatable (05 R98). -/
def State.deliverAll (s : State) (allocs : List Allocated) : State :=
  allocs.foldl (fun s a => if s.isOwn a.member.station then s.deliver a.member.chan a.heat else s) s

/-- The results of a pass that is not abandoned (05 R98, R109, R111). -/
def State.applyPass (s : State) (z : Zone) (p : PassInput) : State :=
  let r := p.run
  let old := (s.firing z).air
  let air := p.balance r (old.passCount + 1)
  let s1 := s.mapFiring z fun x => { x with
    air := air
    unmetClock := unmetJudge old.demandUnmet air.demandUnmet s.now x.unmetClock }
  let s2 := (s1.airFlag z old.airShort air.airShort).holdShortfall z air.shortfall
  let s3 := s2.setCond (idAirShort z) air.airShort (some air.supply)
  let s4 := if air.demandUnmet then s3 else s3.setCond (idDemandUnreachable z) false none
  s4.deliverAll r.allocs

/-- The completion of the pass in progress (05 R97, R98). -/
def State.completePass (s : State) (z : Zone) : State :=
  match (s.firing z).pass with
  | none => s
  | some p =>
    let s0 := s.mapFiring z fun x => { x with pass := none }
    if p.doomed || !((s.zone z).state == .lit) then s0.mapFiring z fun x => { x with dirty := false }
    else
      let s1 := s0.applyPass z p.input
      if (s1.firing z).dirty then (s1.mapFiring z fun x => { x with dirty := false }).startPass z else s1

/-! ### The supply refresh (05 R110) -/

/-- Refresh the supply field of a participating zone. -/
def State.refreshSupply (s : State) (z : Zone) : State :=
  if s.participates z then
    let v := s.supply z
    s.mapFiring z fun x => { x with air := { x.air with supply := v } }
  else s

end Sys2Proof.Machine
end

