-- ==== Sys2Proof/Machine/ZoneOps.lean ====
section
/-! DEFINITION. Shared operations of the zone supervisor ZS (04): changes of zone state, light-off
proofs, flame gain and loss, trips, epochs, adoption, and the end of the listen. -/

namespace Sys2Proof.Machine

/-- ZS takes zone decisions: mode NORMAL or ISOLATED (04 R87). -/
def State.decides (s : State) : Bool := s.pt.mode == .normal || s.pt.mode == .isolated

/-- The zone state permits fuel (03 R53). -/
def ZoneState.firesFuel : ZoneState → Bool
  | .ready => true
  | .lit => true
  | .dark => false
  | .purging => false
  | .tripped => false

/-! ### Changes of zone state (04 R68 to R77, R88) -/

/-- The zone record as a change of state leaves its timers and marks. -/
def ZoneRec.enter (r : ZoneRec) (st : ZoneState) (now window hold : Nat) (short : Bool) : ZoneRec :=
  { r with
    state := st
    purgeTimer := none
    readyTimer := if st = .ready then some (now + seconds window) else none
    flameTimer := none
    flameLost := false
    airClock := if st = .lit ∧ short then some (now + seconds 10) else none
    tripHold := if st = .tripped then .running (now + seconds hold) else .stopped }

/-- CE closes what the new zone state does not permit: every own fuel channel with its SHUT line released
or still in PROVING loses its zone (03 R53, 04 R73). -/
def State.closeFuel (s : State) (z : Zone) : State :=
  ((s.ownFuels z).filter fun c => (s.chan c).shutReleased || (s.chan c).state == .proving).foldl
    State.loseZone s

/-- A change of zone state and what it hands on (04 R88, 05 R112). The PURGING timer is set by R67. -/
def State.setZone (s : State) (z : Zone) (st : ZoneState) : State :=
  let old := (s.zone z).state
  if old = st then s
  else
    let s1 := (s.mapZone z fun r => r.enter st s.now (s.zoneParam z ZoneCfg.readyWindow)
      (s.zoneParam z ZoneCfg.tripHold) (s.firing z).air.airShort).notify .zoneState
    let s2 := if old = .lit then s1.firingLeavesLit z else s1
    let s3 := if st = .lit then (s2.setCond (idPurgeAborted z) false none).firingEntersLit z else s2
    let s4 := s3.setCond (idZoneTrip z) (st == .tripped) ((s3.zone z).epoch.map BitVec.toNat)
    if st.firesFuel then s4 else s4.closeFuel z

/-! ### Light-off (04 R71 to R73) -/

/-- A proof passes (04 R71, R72). -/
def State.passProof (s : State) (z : Zone) (c : Chan) (f : FuelCfg) : State :=
  match (s.chan c).proof with
  | none => s
  | some p =>
    let s1 := s.enterRunning c f
    if p.igniter then
      let s2 := s1.issue c (.igniter false)
      if (s2.zone z).state = .ready then s2.setZone z .lit else s2
    else s1

/-- An order of SHUT release with SET_FEED Fmin (04 R71, R72). -/
def State.releaseShut (s : State) (c : Chan) (f : FuelCfg) : State :=
  (s.mapChan c fun ch => { ch with
    shutReleased := true
    proof := ch.proof.map fun p => { p with released := true } }).issue c (.setFeed f.fmin)

/-- A channel enters PROVING: light-off orders what its zone's state requires (03 R54, 04 R71, R72). DESIGN CHOICE:
a FEEDER_FAULT true at entry is taken before light-off's orders and before the flame-lost mark, so the trip has
cause FEEDER_FAULT and light-off orders nothing (log 31). -/
def State.startProof (s : State) (c : Chan) (f : FuelCfg) : State :=
  let igniterProof := (s.zone f.zone).state == .ready
  let s1 := (s.mapChan c fun ch => { ch with
    setpoint := f.fmin
    target := f.fmin
    alloc := ch.hmin
    proof := some ⟨igniterProof, false, false, s.now + seconds f.proving⟩ }).setChState c .proving
  if (s.chan c).faultPt.faulted then s1.tripChannel c .feederFault
  else if igniterProof then s1.issue c (.igniter true)
  else if (s.zone f.zone).flameLost then s1.tripChannel c .lightOffFail
  else s1.releaseShut c f

/-- The IGNITER on of the proof ended with DONE: the release, and the pass when the view is already proven
(04 R71). -/
def State.igniterDone (s : State) (c : Chan) : State :=
  match s.fuel? c, (s.chan c).proof with
  | some f, some p =>
    if p.igniter ∧ !p.released ∧ (s.zone f.zone).state.firesFuel then
      let s1 := s.releaseShut c f
      if (s.zone f.zone).view then s1.passProof f.zone c f else s1
    else s
  | _, _ => s

/-- A FEED_ACTUAL sample of quality GOOD or UNCERTAIN passes a feed proof (04 R72). -/
def State.feedProof (s : State) (c : Chan) (f : FuelCfg) (value : Nat) : State :=
  match (s.chan c).proof with
  | some p => if !p.igniter ∧ f.fmin ≤ value * 2 then s.passProof f.zone c f else s
  | none => s

/-! ### Flame supervision (04 R65, R70, R74 to R76) -/

/-- FLAME_UNSTABLE as the flicker times stand at a flicker (04 R74). -/
def flickerHolds (l : List Flicker) (now : Nat) : Bool :=
  match l with
  | [_, _, x] => decide (now ≤ x.moment + seconds 60)
  | _ => false

/-- A flicker is recorded (04 R74). -/
def State.flicker (s : State) (z : Zone) : State :=
  let l := (⟨s.now, s.stamp⟩ :: (s.zone z).flickers).take 3
  (s.mapZone z fun r => { r with flickers := l }).setCond (idFlameUnstable z) (flickerHolds l s.now) none

/-- The READY zone enters LIT when the view is proven and a fuel channel runs (04 R70). -/
def State.judgeReady (s : State) (z : Zone) : State :=
  if (s.zone z).state = .ready ∧ (s.zone z).view ∧ s.zoneRuns z then s.setZone z .lit else s

/-- Adoption of LIT by a DARK zone (04 R69). -/
def State.adoptLit (s : State) (z : Zone) : State :=
  if (s.zone z).state = .dark ∧ (s.zone z).view ∧ s.peerReports z .lit ∧ !s.esd then s.setZone z .lit else s

/-- The igniter proofs of the zone that await the flame pass (04 R71). -/
def State.passReleased (s : State) (z : Zone) : State :=
  (s.ownFuels z).foldl (fun s c =>
    match s.fuel? c, (s.chan c).proof with
    | some f, some p => if p.igniter && p.released then s.passProof z c f else s
    | _, _ => s) s

/-- A flame gain (04 R69 to R71, R74). -/
def State.flameGain (s : State) (z : Zone) : State :=
  let r := s.zone z
  let s1 := if r.state = .lit then
      let s' := s.mapZone z fun x => { x with flameTimer := none, flameLost := false }
      if r.flameTimer.isSome then s'.flicker z else s'
    else s
  ((s1.passReleased z).judgeReady z).adoptLit z

/-- A flame loss (04 R74, R76). -/
def State.flameLoss (s : State) (z : Zone) : State :=
  if (s.zone z).state = .lit then
    if s.fuelClosed z then s.setZone z .dark
    else s.mapZone z fun x => { x with flameTimer := some (s.now + ms (s.zoneParam z ZoneCfg.flameResponse)) }
  else s

/-- Judge the flame view of a participating zone again (04 R65). -/
def State.judgeView (s : State) (z : Zone) : State :=
  let v := s.flameView z
  if s.participates z && !((s.zone z).view == v) then
    let s1 := s.mapZone z fun r => { r with view := v }
    if !s.decides then s1 else if v then s1.flameGain z else s1.flameLoss z
  else s

/-- The tests that follow the fuel-closed test and the purge permissive (04 R68, R76). -/
def State.judgeTests (s : State) (z : Zone) : State :=
  match (s.zone z).state with
  | .lit => if s.fuelClosed z && !(s.zone z).view then s.setZone z .dark else s
  | .purging =>
    if s.permissive z then s else (s.setZone z .dark).setCond (idPurgeAborted z) true none
  | .dark => s
  | .ready => s
  | .tripped => s

/-! ### Trips (04 R80 to R86) -/

/-- An epoch is newer than the highest held (04 R80). -/
def newerEpoch (held : Option Word) (e : Word) : Bool :=
  match held with
  | none => true
  | some h => serialNewer e h

/-- A cause joins the first-out record (04 R84). -/
def addCause (r : Option FirstOut) (e : CauseEntry) : FirstOut :=
  match r with
  | none => ⟨e, [], 0⟩
  | some fo =>
    if fo.later.length < 4 then { fo with later := fo.later ++ [e] }
    else { fo with dropped := satAdd fo.dropped 1 255 }

/-- The trip snapshot of a zone for a cause and the epoch the trip will give (04 R85). -/
def State.tripSnapshot (s : State) (z : Zone) (e : CauseEntry) : TripSnapshot where
  time := s.stamp
  epoch := e.epoch
  cause := e.cause
  dEff := (s.demand z).dEff
  air := (s.firing z).air
  chans := (s.ownFuels z).map fun c =>
    let ch := s.chan c
    ⟨c, ch.state, ch.alloc, ch.actual, ch.setpoint, ch.feedPt.feedValue⟩

/-- Steps 1 to 4 of a trip: snapshot, channels, epoch, first-out (04 R81). -/
def State.tripSteps (s : State) (z : Zone) (e : CauseEntry) : State :=
  let s1 := s.mapZone z fun r => { r with snapshot := some (s.tripSnapshot z e) }
  let s2 := (s.ownFuels z).foldl (fun s c => s.tripChannel c .zoneTrip) s1
  s2.mapZone z fun r => { r with epoch := some e.epoch, firstOut := some (addCause r.firstOut e) }

/-- The epoch a local trip gives (04 R81). -/
def nextEpoch (held : Option Word) : Word :=
  match held with
  | none => 1
  | some h => h + 1

/-- Offer a TRIP frame. A TRIP evicted by R12 case 3 is a discard, which may make LINE_DEGRADED true
(01 R8, R12). -/
def State.offerTrip (s : State) (m : TripMsg) : State :=
  let s1 := (s.offer .trip m.words 0 0).1
  if s1.li.discards ≠ s.li.discards ∧ s1.li.fourDiscards s.now then s1.setCond idLineDegraded true none else s1

/-- A local trip of a zone (04 R81). -/
def State.localTrip (s : State) (z : Zone) (cause : ZoneCause) (channel : Option Chan) (value : Option Nat) :
    State :=
  let epoch := nextEpoch (s.zone z).epoch
  let e : CauseEntry := ⟨cause, s.ownStation, channel, none, s.stamp, epoch, value⟩
  (((s.tripSteps z e).offerTrip ⟨z, epoch, cause, channel⟩).setZone z .tripped).countZoneTrip

/-- The cause entry of a peer trip (04 R82, R83). -/
def State.peerEntry (s : State) (origin : Station) (cause : Option ZoneCause) (channel : Option Chan)
    (epoch : Word) : CauseEntry :=
  ⟨.peerTrip, origin, channel, cause, s.stamp, epoch, none⟩

/-- A peer trip of a zone: no frame, no count (04 R82). -/
def State.peerTrip (s : State) (z : Zone) (e : CauseEntry) : State := (s.tripSteps z e).setZone z .tripped

/-- A peer epoch acts on a zone (04 R82). -/
def State.takeEpoch (s : State) (z : Zone) (e : CauseEntry) : State :=
  let r := s.zone z
  if newerEpoch r.epoch e.epoch then
    match r.state with
    | .purging => s.peerTrip z e
    | .ready => s.peerTrip z e
    | .lit => s.peerTrip z e
    | .dark => s.mapZone z fun x => { x with
        epoch := some e.epoch
        firstOut := x.firstOut.map fun fo => addCause (some fo) e }
    | .tripped => s.mapZone z fun x => { x with
        epoch := some e.epoch
        firstOut := some (addCause x.firstOut e) }
  else s

/-- The zones that ESD_N trips (04 R78). -/
def ZoneState.trippable : ZoneState → Bool
  | .purging => true
  | .ready => true
  | .lit => true
  | .dark => false
  | .tripped => false

/-- A TRIPPED zone whose hold has expired enters DARK once every own valve is closed (04 R86). -/
def State.judgeHold (s : State) (z : Zone) : State :=
  if (s.zone z).state = .tripped ∧ (s.zone z).tripHold = .expired ∧ s.valvesClosed z then s.setZone z .dark
  else s

/-! ### Zone blocks (04 R68 to R70, R80, R83) -/

/-- The trip epoch of a zone block of a SNAP whose mode is not STARTING (04 R80, R83). -/
def State.examineEpoch (s : State) (n : Station) (b : ZoneBlock) : State :=
  match b.epoch with
  | none => s
  | some e =>
    if (s.zone b.zone).epoch = none then s.mapZone b.zone fun r => { r with epoch := some e }
    else s.takeEpoch b.zone (s.peerEntry n none none e)

/-- Adoption of READY by a DARK or PURGING zone (04 R68, R69). -/
def State.adoptReady (s : State) (b : ZoneBlock) : State :=
  if b.state = .ready ∧ !s.esd ∧ ((s.zone b.zone).state = .dark ∨ (s.zone b.zone).state = .purging) then
    s.setZone b.zone .ready
  else s

/-- A zone block that PT hands over from a FRESH peer, in mode NORMAL or ISOLATED. -/
def State.takeBlock (s : State) (n : Station) (starting : Bool) (b : ZoneBlock) : State :=
  if s.decides && s.participates b.zone then
    let s1 := if starting then s else s.examineEpoch n b
    let s2 := ((s1.judgeView b.zone).judgeReady b.zone).adoptReady b
    if b.state = .lit then s2.adoptLit b.zone else s2
  else s

/-! ### The end of the listen (04 R87) -/

/-- The trip epochs of the zone blocks of FRESH records not in STARTING, in ascending station order. -/
def State.listenEpochs (s : State) (z : Zone) : List Word :=
  allStations.filterMap fun n =>
    let r := s.peer n
    if r.fresh = .fresh ∧ r.mode ≠ some .starting then (r.block? z).bind ZoneBlock.epoch else none

/-- The epoch merge. -/
def mergeEpochs (held : Option Word) (l : List Word) : Option Word :=
  l.foldl (fun acc e => if newerEpoch acc e then some e else acc) held

/-- The first FRESH peer not in STARTING that reports TRIPPED with an epoch newer than the held one. -/
def State.notedPeer (s : State) (z : Zone) : Option Station :=
  allStations.find? fun n =>
    let r := s.peer n
    r.fresh == .fresh && !(r.mode == some .starting) &&
      match r.block? z with
      | some b => b.state == .tripped && (match b.epoch with
          | some e => newerEpoch (s.zone z).epoch e
          | none => false)
      | none => false

/-- ZS settles one participating zone at the end of the listen. -/
def State.settleZone (s : State) (z : Zone) : State :=
  let noted := s.notedPeer z
  let merged := mergeEpochs (s.zone z).epoch (s.listenEpochs z)
  let s1 := s.mapZone z fun r => { r with epoch := merged, view := s.flameView z }
  match noted with
  | some n => s1.peerTrip z (s1.peerEntry n none none (merged.getD 0))
  | none =>
    if s1.esd then s1
    else if s1.peerReports z .lit ∧ (s1.zone z).view then s1.setZone z .lit
    else if s1.peerReports z .ready then s1.setZone z .ready
    else s1

end Sys2Proof.Machine
end

