-- ==== Sys2Proof/Machine/Settle.lean ====
section
/-! DEFINITION. The publishing of the own SNAP (02), changes of mode between NORMAL and ISOLATED, and what
every event of a configured station is followed by: the refresh of supplies, the supervision of fans,
the zone tests, the triggers of passes, and the change offer of the SNAP (log 8, log 10). -/

namespace Sys2Proof.Machine

/-! ### The own SNAP (02 R21 to R27) -/

/-- The zone block of a zone (02 R26). -/
def State.zoneBlock (s : State) (z : Zone) : ZoneBlock where
  zone := z
  state := (s.zone z).state
  epoch := (s.zone z).epoch
  demand := (s.demand z).known
  scanner := if s.hasScanner z then some (s.ce.flames.get z).proven else none
  fuelOpen := s.ownFuelOpen z

/-- The summary of a channel configured FUEL or FAN (02 R27). -/
def State.summary? (s : State) (c : Chan) : Option Summary :=
  let ch := s.chan c
  match s.chanCfg c with
  | .unused => none
  | .fuel f =>
    if f.ncv = 0 then
      some (.fuel ⟨c, f.zone, .offUnusable, f.rank, f.trim, f.igniter, 0, 0, 0, 0, f.airFactor, false⟩)
    else
      some (.fuel ⟨c, f.zone, ch.state, f.rank, f.trim, f.igniter, ch.hmin, ch.hmaxEff, ch.alloc, ch.actual,
        f.airFactor, ch.shutReleased⟩)
  | .fan f => some (.fan ⟨c, f.zone, ch.state, ch.flowPt.flowValue, f.recup⟩)

/-- The roll-call index a SNAP built now carries (02 R25). -/
def State.snapIndex (s : State) : Nat := if s.pt.rollIndex < s.al.list.length then s.pt.rollIndex else 0

/-- The roll-call entry of an own list entry (02 R24). -/
def rollEntryOf (e : AlarmEntry) : RollEntry := ⟨e.id.val, alarmPriority e.id, e.state.code, e.seq, e.raiseTime⟩

/-- The content of a SNAP built now (02 R24 to R27). -/
def State.snapMsg (s : State) : SnapMsg where
  mode := s.pt.mode
  shift := s.sr.shift
  timeValid := s.sr.valid
  listed := s.al.list.length
  index := s.snapIndex
  entry := (s.al.list[s.snapIndex]?).map rollEntryOf
  zones := (allZones.filter s.participates).map s.zoneBlock
  chans := allChans.filterMap s.summary?

/-- Offer the own SNAP: the time of the offer is recorded, the mark cleared, and the content kept for R22,
whatever the outcome (02 R21, R23, R25). -/
def State.offerSnap (s : State) : State :=
  let s1 := s.mapPt fun t => { t with
    rollIndex := s.snapIndex
    changeMark := false
    lastOffer := s.now
    published := s.publishedNow }
  (s1.offer .snap s.snapMsg.words (s.snapIndex + 1) 0).1

/-- Set the change mark, and make the change offer when it is due (02 R21, R22). -/
def State.publish (s : State) : State :=
  let s1 := if s.snapDiffers then s.mapPt fun t => { t with changeMark := true } else s
  if s1.pt.changeMark && s1.passed s1.pt.lastOffer (ms 50) then s1.offerSnap else s1

/-! ### Modes (02 R34, R36; 03 R56) -/

/-- Entry to ISOLATED: RUNNING fuel channels become LIMITED. -/
def State.enterIsolated (s : State) : State :=
  allChans.foldl State.limitChannel
    ((s.mapPt fun t => { t with mode := .isolated }).setCond idStationIsolated true none)

/-- Exit from ISOLATED: LIMITED channels return to RUNNING. -/
def State.exitIsolated (s : State) : State :=
  allChans.foldl State.unlimitChannel
    ((s.mapPt fun t => { t with mode := .normal }).setCond idStationIsolated false none)

/-- A completion or a peer frame that makes both conditions of R18 false ends ISOLATED (01 R18). -/
def State.judgeContact (s : State) : State :=
  if s.pt.mode = .isolated ∧ s.isolation = false then s.exitIsolated else s

/-! ### What follows an event -/

/-- The low-flow clock of a fan (03 R61). -/
def State.judgeLowFlow (s : State) (c : Chan) : State :=
  match s.fan? c with
  | none => s
  | some f =>
    let ch := s.chan c
    if ch.state = .running ∧ ch.flowPt.flowValue * 2 < ch.setpoint ∧ f.fmin ≤ ch.setpoint then
      (if ch.lowFlowClock = none then s.mapChan c fun x => { x with lowFlowClock := some (s.now + seconds 15) }
       else s)
    else s.mapChan c fun x => { x with lowFlowClock := none }

/-- Supervision of a fan after an event. -/
def State.judgeFan (s : State) (c : Chan) : State := (s.judgeLowFlow c).judgeBlow c

/-- The states of the own fuel channels of a zone. -/
def State.fuelStates (s : State) (z : Zone) : List ChState := (s.ownFuels z).map fun c => (s.chan c).state

/-- What an own channel triggers a pass of a zone by changing: its state, and Hmax_eff (05 R96). -/
def State.ownInputs (s : State) (z : Zone) : List (ChState × Nat) :=
  (allChans.filter fun c => s.ownFuel z c || s.ownFan z c).map fun c => ((s.chan c).state, (s.chan c).hmaxEff)

/-- Supply refresh of a zone whose inputs differ from those before the event (05 R110). DESIGN CHOICE: also while a
pass of the zone is in progress, whose completion then writes the supply of its snapshot (log 32). -/
def State.refreshFrom (before s : State) (z : Zone) : State :=
  if before.supplyInputs z = s.supplyInputs z then s else s.refreshSupply z

/-- The zone tests after an event (04 R65, R66, R68, R70, R74, R76). -/
def State.judgeZone (before s : State) (z : Zone) : State :=
  let s1 := s.judgeView z
  let s2 := if before.fuelStates z = s1.fuelStates z then s1 else s1.judgeReady z
  s2.judgeTests z

/-- Some trigger of R96 happened to the zone in the event (05 R96). -/
def State.triggered (before s : State) (z : Zone) : Bool :=
  decide ((before.zone z).state ≠ .lit)
    || decide ((before.demand z).known ≠ (s.demand z).known)
    || decide (before.ownInputs z ≠ s.ownInputs z)
    || allStations.any fun n => decide ((before.peer n).passInputs z ≠ (s.peer n).passInputs z)

/-- Trigger a pass of the zone if the event gave it a trigger (05 R96). -/
def State.triggerFrom (before s : State) (z : Zone) : State :=
  if s.passable z && before.triggered s z then s.triggerPass z else s

/-- What follows an event that took the station from `before` to `s`, in a configured mode (log 8, log 10). -/
def finish (before s : State) : State :=
  if s.configured then
    let s1 := allZones.foldl before.refreshFrom s
    let s2 := allChans.foldl State.judgeFan s1
    let s3 := allZones.foldl before.judgeZone s2
    let s4 := allZones.foldl before.triggerFrom s3
    s4.publish.pump
  else s

end Sys2Proof.Machine
end

