-- ==== Sys2Proof/Machine/Peers.lean ====
section
/-! DEFINITION. The meanings of the peer table's commands (02). -/

namespace Sys2Proof.Machine

/-- PERIODIC_SNAP_OFFER: 250 ms since the last SNAP offer (02 R21). -/
def execPeriodicSnapOffer (s : State) : Host.Outcome State Fault Refusal :=
  .next (if s.configured && s.passed s.pt.lastOffer (ms 250) then s.offerSnap else s)

/-- CHANGE_SNAP_OFFER: a change is marked, and 50 ms have passed since the last offer (02 R21). -/
def execChangeSnapOffer (s : State) : Host.Outcome State Fault Refusal :=
  .next (if s.configured && s.pt.changeMark && s.passed s.pt.lastOffer (ms 50) then s.offerSnap else s)

/-- The head of the receive queue, if it is of a class (01 R16). -/
def State.rxHead (s : State) (cls : FrameClass) : Option RxFrame :=
  match s.li.rx with
  | f :: _ => if f.cls = cls then some f else none
  | [] => none

/-- The owner takes the head of the receive queue (01 R16). -/
def State.popRx (s : State) : State := s.mapLi fun li => { li with rx := li.rx.tail }

/-- A SNAP shows a restart of its origin (02 R30). -/
def PeerRecord.restarted (r : PeerRecord) (seq : Byte) (mode : Mode) : Bool :=
  !(r.fresh == .absent) &&
    ((match r.lastSeq with
      | some l => !serialNewer seq l
      | none => false)
    || (mode == .starting && !(r.mode == some .starting)))

/-- The record after a SNAP is filed (02 R29). -/
def PeerRecord.file (r : PeerRecord) (seq : Byte) (m : SnapMsg) (now : Nat) (stamp : Stamp) : PeerRecord where
  fresh := .fresh
  expected := r.expected
  lastSeq := some seq
  lastAt := some now
  lastStamp := some stamp
  mode := some m.mode
  shift := m.shift
  timeValid := m.timeValid
  listed := m.listed
  zones := m.zones
  chans := m.chans

/-- PEER_EXPIRED is false of a FRESH record, UNEXPECTED_PEER true of an unexpected one (02 R33). -/
def State.peerConds (s : State) (n : Station) : State :=
  (s.setCond (idPeerExpired n) false none).setCond (idUnexpectedPeer n) (!(s.peer n).expected) none

/-- FA takes the demand of a zone block (05 R93). -/
def State.blockDemand (s : State) (b : ZoneBlock) : State :=
  match b.demand with
  | some d => s.adoptDemand b.zone d
  | none => s

/-- PT files a SNAP of origin `n` that passed its checks, and hands it over (02 R29, R30). -/
def State.fileSnap (s : State) (n : Station) (seq : Byte) (m : SnapMsg) : State :=
  let old := s.peer n
  let restart := old.restarted seq m.mode
  let s1 := s.mapPeer n fun r => r.file seq m s.now s.stamp
  let s2 := if restart ∨ old.fresh ≠ .fresh then s1.notify .peerChange else s1
  let s3 := s2.peerConds n
  let s4 := if restart then s3.viewRestart n else s3
  let s5 := s4.takeRoll n m.listed m.index m.entry
  let s6 := s5.mapSr fun r => r.learn m.shift m.timeValid
  let s7 := m.zones.foldl State.blockDemand s6
  m.zones.foldl (fun s b => s.takeBlock n (m.mode == .starting) b) s7

/-- SNAP_TAKEN: PT takes the SNAP at the head of the receive queue (02 R29). -/
def execSnapTaken (s : State) : Host.Outcome State Fault Refusal :=
  .next (match s.rxHead .snap with
    | none => s
    | some f =>
      match parseSnap f.payload with
      | none => s.popRx
      | some m => finish s (s.popRx.fileSnap f.origin f.seq m))

/-- STALE_TIMEOUT: 1000 ms since the last SNAP of a FRESH record (02 R31). -/
def execStaleTimeout (n : Station) (s : State) : Host.Outcome State Fault Refusal :=
  .next (if (s.peer n).fresh = .fresh ∧ s.due ((s.peer n).lastAt.map fun t => t + ms 1000) then
      finish s ((s.mapPeer n fun r => { r with fresh := .stale }).notify .peerChange)
    else s)

/-- EXPIRED_TIMEOUT: 5000 ms since the last SNAP of a STALE record (02 R31, R33; 08 R157). -/
def execExpiredTimeout (n : Station) (s : State) : Host.Outcome State Fault Refusal :=
  .next (if (s.peer n).fresh = .stale ∧ s.due ((s.peer n).lastAt.map fun t => t + ms 5000) then
      let s1 := (s.mapPeer n fun r => { r with fresh := .expired }).notify .peerChange
      let s2 := if (s.peer n).expected then s1.setCond (idPeerExpired n) true none else s1
      finish s (s2.viewExpired n)
    else s)

/-- ABSENT_PEER_TIMEOUT: an expected record is ABSENT 5000 ms after STARTING entry (02 R33). -/
def execAbsentPeerTimeout (n : Station) (s : State) : Host.Outcome State Fault Refusal :=
  .next (if s.configured && (s.peer n).expected && (s.peer n).fresh == .absent && s.passed s.pt.startTime (ms 5000)
    then finish s (s.setCond (idPeerExpired n) true none)
    else s)

/-- A FIXED fan adopted during the listen takes its base at the listen's end (06 R127). -/
def State.listenFan (s : State) (c : Chan) : State :=
  match s.fan? c with
  | some f => if (s.chan c).state = .running then s.takeBase c f else s
  | none => s

/-- LISTEN_END: 2000 ms since STARTING entry; the station is NORMAL and settles its zones (02 R35; 04 R87;
06 R127). -/
def execListenEnd (s : State) : Host.Outcome State Fault Refusal :=
  .next (if s.pt.mode = .starting ∧ s.passed s.pt.startTime (ms 2000) then
      let s1 := s.mapPt fun t => { t with mode := .normal }
      let s2 := (allZones.filter s.participates).foldl State.settleZone s1
      finish s (allChans.foldl State.listenFan s2)
    else s)

end Sys2Proof.Machine
end

