-- ==== Sys2Proof/Machine/Alarms.lean ====
section
/-! DEFINITION. The meanings of the alarm commands (07) and of the floor alarm view's (08). -/

namespace Sys2Proof.Machine

/-- Answer a request with an outcome: absent is OK. -/
def State.replyOr (s : State) (code : Nat) (r : Option Reason) : State :=
  match r with
  | none => s.ok code
  | some r => s.refuse code r

/-- ACK_ALARM for an alarm of another station (08 R159, R160). -/
def State.ackRemote (s : State) (n : Station) (id : AlarmId) (seq : Word) : State × Option Reason :=
  if !((s.peer n).fresh == .fresh || (s.peer n).fresh == .stale) then (s, some .originLost)
  else match s.fv.mirror? n id with
    | none => (s, some .stale)
    | some m =>
      if m.seq ≠ seq then (s, some .stale)
      else match m.state with
        | .shelved => (s, some .state)
        | .activeAcked => (s, none)
        | .activeUnack =>
          let r := s.offer .ack (ackWords n id seq) 0 0
          (r.1, if r.2 = .refused then some .queueFull else none)
        | .clearedUnack =>
          let r := s.offer .ack (ackWords n id seq) 0 0
          (r.1, if r.2 = .refused then some .queueFull else none)

/-- The judgement of ACK_ALARM (07 R138, 08 R159). -/
def State.ackJudge (s : State) (origin id seq : Word) : State × Option Reason :=
  match stationOf origin.toNat with
  | none => (s, some .badArgument)
  | some n =>
    if s.isOwn n then s.ackOwn id.toNat seq
    else match alarmIdOf id.toNat with
      | none => (s, some .badArgument)
      | some i => s.ackRemote n i seq

/-- ACK_ALARM (07 R138, 08 R159). -/
def execAckAlarm (origin id seq : Word) (s : State) : Host.Outcome State Fault Refusal :=
  .next (s.request 11 [origin, id, seq] fun s =>
    let r := s.ackJudge origin id seq
    finish s (r.1.replyOr 11 r.2))

/-- ACK_TAKEN: AL takes the ACK at the head of the receive queue (07 R139). -/
def execAckTaken (s : State) : Host.Outcome State Fault Refusal :=
  .next (match s.rxHead .ack with
    | none => s
    | some f =>
      match f.payload with
      | [w0, seq] => finish s (s.popRx.ackOwn (loByte w0).toNat seq).1
      | _ => s.popRx)

/-- SHELVE (07 R140). -/
def execShelve (id minutes : Word) (s : State) : Host.Outcome State Fault Refusal :=
  .next (s.request 12 [id, minutes] fun s =>
    match alarmIdOf id.toNat with
    | none => s.refuse 12 .badArgument
    | some i =>
      if alarmPriority i = 1 then s.refuse 12 .badArgument
      else match s.al.entry? i with
        | none => s.refuse 12 .state
        | some _ =>
          let m := clampNat minutes.toNat 1 480
          finish s ((s.shelveEntry i m).reply 12 (if m = minutes.toNat then .ok else .clamped) (w16 m) []))

/-- UNSHELVE (07 R141). -/
def execUnshelve (id : Word) (s : State) : Host.Outcome State Fault Refusal :=
  .next (s.request 13 [id] fun s =>
    match alarmIdOf id.toNat with
    | none => s.refuse 13 .badArgument
    | some i =>
      match s.al.entry? i with
      | none => s.refuse 13 .state
      | some e => if e.state = .shelved then finish s ((s.endShelve i).ok 13) else s.refuse 13 .state)

/-- SHELVE_EXPIRY: a shelve has run out (07 R141). -/
def execShelveExpiry (id : AlarmId) (s : State) : Host.Outcome State Fault Refusal :=
  .next (match s.al.entry? id with
    | none => s
    | some e => if e.state = .shelved ∧ s.due e.shelveEnd then finish s (s.endShelve id) else s)

/-- ALERT_TAKEN: FV takes the ALERT at the head of the receive queue (08 R152). -/
def execAlertTaken (s : State) : Host.Outcome State Fault Refusal :=
  .next (match s.rxHead .alert with
    | none => s
    | some f =>
      match parseAlert f.payload with
      | none => s.popRx
      | some m =>
        if m.priority ≠ alarmPriority m.id ∨ (s.peer f.origin).fresh = .absent then s.popRx
        else match m.state with
          | none => s.popRx.takeRemoved f.origin m.id m.seq
          | some st => s.popRx.takeReport f.origin m.id st m.seq m.time)

end Sys2Proof.Machine
end

