-- ==== Sys2Proof/Machine/Channels.lean ====
section
/-! DEFINITION. The meanings of the channel timers and of the channel requests (03 sections 3.4 to 3.8). -/

namespace Sys2Proof.Machine

/-- RAMP_STEP: a step of the ramp clock (03 R49). -/
def execRampStep (c : Chan) (s : State) : Host.Outcome State Fault Refusal :=
  .next (match s.fuel? c, (s.chan c).rampNext with
    | some f, some t => if t ≤ s.now then finish s (s.stepRamp c f t) else s
    | _, _ => s)

/-- UNLOCKED_CLOCK_EXPIRY: 20 s in TRACKING without LOCKED (03 R51). -/
def execUnlockedClockExpiry (c : Chan) (s : State) : Host.Outcome State Fault Refusal :=
  .next (match s.fuel? c with
    | some f =>
      if s.due (s.chan c).unlockedClock then
        finish s ((s.mapChan c fun ch => { ch with unlockedClock := none }).startDerating c f)
      else s
    | none => s)

/-- ACQUIRING_CLOCK_EXPIRY: 60 s in ACQUIRING (03 R51). -/
def execAcquiringClockExpiry (c : Chan) (s : State) : Host.Outcome State Fault Refusal :=
  .next (match s.fuel? c with
    | some f =>
      if s.due (s.chan c).acquiringClock then
        finish s ((s.mapChan c fun ch => { ch with acquiringClock := none }).startDerating c f)
      else s
    | none => s)

/-- The zone permits a start of the channel (03 R54 test 5). -/
def State.startPermitted (s : State) (f : FuelCfg) : Bool :=
  (s.zone f.zone).state == .lit || (f.igniter && (s.zone f.zone).state == .ready)

/-- CHANNEL_START of a usable fuel channel (03 R54). -/
def State.startFuel (s : State) (c : Chan) (f : FuelCfg) : State :=
  if (s.chan c).state = .stopping then s.refuse 4 .busy
  else if (s.chan c).state ≠ .off then s.refuse 4 .state
  else if s.pt.mode ≠ .normal then s.refuse 4 .state
  else if (s.zone f.zone).firstOut.isSome then s.refuse 4 .firstOutPending
  else if s.startPermitted f then finish s ((s.startProof c f).ok 4)
  else s.refuse 4 .permissive

/-- CHANNEL_START of a fan (03 R60). -/
def State.startFanRequest (s : State) (c : Chan) (f : FanCfg) : State :=
  if (s.chan c).state = .off ∧ s.decides then finish s ((s.startFan c f).ok 4) else s.refuse 4 .state

/-- CHANNEL_START (03 R54, R60). -/
def execChannelStart (channel : Word) (s : State) : Host.Outcome State Fault Refusal :=
  .next (s.request 4 [channel] fun s =>
    match s.chanArg channel with
    | .refused r => s.refuse 4 r
    | .fuel c f => s.startFuel c f
    | .fan c f => s.startFanRequest c f)

/-- CHANNEL_STOP of a usable fuel channel (03 R55). -/
def State.stopFuel (s : State) (c : Chan) (f : FuelCfg) : State :=
  match (s.chan c).state with
  | .proving => finish s ((s.stopProving c).ok 5)
  | .running => finish s ((s.startStopping c f).ok 5)
  | .limited => finish s ((s.startStopping c f).ok 5)
  | _ => s.refuse 5 .state

/-- CHANNEL_STOP of a fan (03 R60). -/
def State.stopFanRequest (s : State) (c : Chan) : State :=
  if (s.chan c).state = .off then s.refuse 5 .state else finish s ((s.stopFan c).ok 5)

/-- CHANNEL_STOP (03 R55, R60). -/
def execChannelStop (channel : Word) (s : State) : Host.Outcome State Fault Refusal :=
  .next (s.request 5 [channel] fun s =>
    match s.chanArg channel with
    | .refused r => s.refuse 5 r
    | .fuel c f => s.stopFuel c f
    | .fan c _ => s.stopFanRequest c)

/-- The cause of a TRIPPED channel counts as cleared (03 R59). -/
def State.causeCleared (s : State) (c : Chan) (f : FuelCfg) : Bool :=
  match (s.chan c).cause with
  | some .zoneTrip => !((s.zone f.zone).state == .tripped)
  | some .actuatorFailure => true
  | some .feederFault => (s.chan c).faultPt.cond == .current && !(s.chan c).faultPt.faulted
  | some .lightOffFail => true
  | none => true

/-- RESET_TRIP (03 R59, R61). -/
def execResetTrip (channel : Word) (s : State) : Host.Outcome State Fault Refusal :=
  .next (s.request 6 [channel] fun s =>
    match s.chanArg channel with
    | .refused r => s.refuse 6 r
    | .fuel c f =>
      if (s.chan c).state = .tripped ∧ (s.zone f.zone).state ≠ .tripped ∧ s.causeCleared c f then
        finish s ((s.enterOff c).ok 6)
      else s.refuse 6 .state
    | .fan c f =>
      if (s.chan c).state = .fanFault ∧ s.decides then finish s ((s.startFan c f).ok 6) else s.refuse 6 .state)

/-- RELEASE_LOCKOUT (03 R59, R60). -/
def execReleaseLockout (channel : Word) (s : State) : Host.Outcome State Fault Refusal :=
  .next (s.request 7 [channel] fun s =>
    match s.chanArg channel with
    | .refused r => s.refuse 7 r
    | .fuel c f =>
      if (s.chan c).state = .lockedOut ∧ (s.zone f.zone).state = .dark then
        finish s (((s.mapChan c fun ch => { ch with history := none }).enterOff c).ok 7)
      else s.refuse 7 .state
    | .fan _ _ => s.refuse 7 .state)

/-- FAN_START_CLOCK_EXPIRY: 30 s in STARTING (03 R60). -/
def execFanStartClockExpiry (c : Chan) (s : State) : Host.Outcome State Fault Refusal :=
  .next (if (s.chan c).state = .starting ∧ s.due (s.chan c).startClock then finish s (s.faultFan c) else s)

/-- FAN_LOW_FLOW_EXPIRY: 15 s of low flow in RUNNING (03 R61). -/
def execFanLowFlowExpiry (c : Chan) (s : State) : Host.Outcome State Fault Refusal :=
  .next (if (s.chan c).state = .running ∧ s.due (s.chan c).lowFlowClock then finish s (s.faultFan c) else s)

end Sys2Proof.Machine
end

