-- ==== Sys2Proof/Machine/Cooler.lean ====
section
/-! DEFINITION. The meanings of the cooler regulator's clocks (06). -/

namespace Sys2Proof.Machine

/-- The fan is a COOLER fan, which BED_PRESSURE_LOW freezes (06 R124). -/
def State.isCooler (s : State) (c : Chan) : Bool :=
  match s.fan? c with
  | some f => f.role == .cooler
  | none => false

/-- BLOW_THROUGH_EXPIRY: the blow-through clock has run 10 s (06 R123, R124). -/
def execBlowThroughExpiry (c : Chan) (s : State) : Host.Outcome State Fault Refusal :=
  .next (match s.fan? c with
    | some f =>
      if s.due (s.reg c).blowClock then
        finish s ((s.mapReg c fun r => { r with blowClock := none, frozen := s.isCooler c }).setCond (idBedLow c)
          true (some ((s.chan c).bedPt.pressure f.pRef)))
      else s
    | none => s)

/-- CLINKER_TEMP_HIGH_EXPIRY: the high-temperature clock has run 60 s (06 R126). -/
def execClinkerTempHighExpiry (s : State) : Host.Outcome State Fault Refusal :=
  .next (if s.due s.cr.highClock then
      finish s ((s.mapCr fun r => { r with highClock := none }).setCond idClinkerHigh true s.tOut)
    else s)

end Sys2Proof.Machine
end

