-- ==== Sys2Proof/Machine/Field.lean ====
section
/-! DEFINITION. The meanings of the field port's commands (03 sections 3.2 and 3.3, 11 R202). -/

namespace Sys2Proof.Machine

/-- FIELD_RECORD_FAIL: the record in progress fails and is discarded; the receiver hunts again from the byte
after its sync byte. With `gap` the last of the bytes came more than 1 ms after the one before (11 R202). -/
def execFieldRecordFail (received : List Byte) (gap : Bool) (s : State) : Host.Outcome State Fault Refusal :=
  .next (if gap then s.mapCe fun e => { e with fieldRx :=
      match received.getLast? with
      | some late => rescanGap received.dropLast late
      | none => .hunting }
    else if framingFails received then s.mapCe fun e => { e with fieldRx := rescan received }
    else s)

/-- CE takes a sample of a point (03 R40, R42); `good` is quality GOOD or UNCERTAIN. -/
def State.samplePoint (s : State) (p : PointId) (v : Nat) (good uncertain : Bool) : State :=
  (s.mapPoint p fun x => if good then x.takeGood v uncertain else x.takeBad s.now).samplePointCond p

/-- A FEED_ACTUAL sample: totals, actual heat, tracking, derating, and the feed proof (03 R47, R50 to R52;
04 R72; 09 R169). DESIGN CHOICE: tracking is evaluated before the proof, so the sample that passes a feed proof is
not itself evaluated by the tracking it starts (log 30). -/
def State.takeFeed (s : State) (c : Chan) (f : FuelCfg) (v : Nat) (good : Bool) (e : Nat) : State :=
  let s1 := s.integrateFeed c f.ncv (s.chan c).setpoint e
  if good then
    let s2 := (s1.mapChan c fun ch => { ch with actual := heatOf f.ncv v }).trackSample c f v
    let s3 := if s2.cond (idFeedDeviation c) then s2.setHmaxEff c f (s2.chan c).derated else s2
    s3.feedProof c f v
  else s1

/-- A FLOW_ACTUAL sample: totals, adoption, and the start of a fan (03 R60, R62; 09 R170). -/
def State.takeFlow (s : State) (c : Chan) (f : FanCfg) (v : Nat) (good : Bool) (e : Nat) : State :=
  let s1 := s.integrateFlow c (s.chan c).setpoint e
  let s2 := if good then s1.adoptFan c f v else s1
  s2.flowHanded c f

/-- A BED_PRESSURE sample: blow-through is judged before the setpoint is computed (06 R117, R123, R124). -/
def State.takeBed (s : State) (c : Chan) (f : FanCfg) (e : Nat) : State := (s.judgeBlow c).computeFan c f e

/-- The sample goes to the consumers of its quantity (03 R41). -/
def State.handSample (s : State) (p : PointId) (v : Nat) (good : Bool) (e : Nat) : State :=
  match p with
  | .feed c =>
    match s.fuel? c with
    | some f => s.takeFeed c f v good e
    | none => s
  | .valve c =>
    match s.fuel? c with
    | some f => s.judgeHold f.zone
    | none => s
  | .fault c => if (s.chan c).faultPt.faulted then s.tripChannel c .feederFault else s
  | .flow c =>
    match s.fan? c with
    | some f => s.takeFlow c f v good e
    | none => s
  | .bed c =>
    match s.fan? c with
    | some f => s.takeBed c f e
    | none => s
  | .flame _ => s
  | .clinker => (if good then s.mapSr fun r => r.clinkerSample v else s).judgeHigh

/-- Any sample record restarts the silence clock and ends FIELD_PORT_SILENT (03 R39, R43). -/
def State.endSilence (s : State) : State :=
  (s.mapCe fun e => { e with silenceSince := s.now, fieldRx := .hunting }).setCond idFieldSilent false none

/-- SAMPLE_RECORD: a sample record passed the framing check (03 R39). -/
def execSampleRecord (source quantity : Byte) (value : Word) (quality : Byte) (elapsed : Word) (s : State) :
    Host.Outcome State Fault Refusal :=
  .next (if s.configured then
      let s1 := s.endSilence
      match s1.matchPoint source quantity with
      | none => finish s s1
      | some p =>
        let v := sampleValue p value
        let s2 := s1.samplePoint p v (qualityGood quality) (qualityUncertain quality)
        finish s (s2.handSample p v (qualityGood quality) (sampleElapsed elapsed))
    else s.mapCe fun e => { e with fieldRx := .hunting })

/-- SAMPLE_HOLD_EXPIRY: 3000 ms since the hold of a point started (03 R40, R42). -/
def execSampleHoldExpiry (p : PointId) (s : State) : Host.Outcome State Fault Refusal :=
  .next (if (s.point p).cond = .held ∧ s.due (s.point p).hold then
      finish s ((s.mapPoint p Point.expire).samplePointCond p)
    else s)

/-- FIELD_PORT_SILENT: 2000 ms without a sample record; every point is treated as having received a BAD
sample (03 R43, 09 R172). DESIGN CHOICE: FIELD_PORT_SILENT is written first, then SAMPLE_BAD of each channel in
ascending channel order; R131 does not order the writes of one moment (log 42). -/
def execFieldPortSilent (s : State) : Host.Outcome State Fault Refusal :=
  .next (if s.configured && !s.cond idFieldSilent && s.passed s.ce.silenceSince (ms 2000) then
      let s1 := (s.setCond idFieldSilent true none).mapSr fun r => { r with gap := true }
      let s2 := s1.allPoints.foldl (fun s p => s.mapPoint p fun x => x.takeBad s.now) s1
      let s3 := allChans.foldl State.sampleCond s2
      finish s (allChans.foldl (fun s c =>
        match s.fan? c with
        | some f => s.flowHanded c f
        | none => s) s3)
    else s)

/-- COMMAND_SEND: the field port transmitter takes the next waiting record (03 R44). -/
def execCommandSend (s : State) : Host.Outcome State Fault Refusal := .next s.pump

/-- The in-flight command ends with DONE (03 R45). -/
def State.commandDone (s : State) (c : Chan) (fl : InFlight) : State :=
  match fl.cmd with
  | .igniter on =>
    let s1 := (s.mapChan c fun ch => { ch with igniter := on }).nextCmd c
    if on && (s.chan c).awaitsDone then s1.igniterDone c else s1
  | .setFeed _ => s.nextCmd c
  | .setFlow _ => s.nextCmd c

/-- A BUSY of the in-flight command: the window moves, or the fifth BUSY fails the attempt (03 R45). -/
def State.commandBusy (s : State) (c : Chan) (fl : InFlight) : State :=
  if fl.busy < 4 then
    s.mapChan c fun ch => { ch with
      inFlight := some { fl with busy := fl.busy + 1, window := fl.window.map fun t => t + ms 250 } }
  else s.attemptFailed c

/-- A reply that matches the command in flight (03 R45). -/
def State.takeReply (s : State) (c : Chan) (fl : InFlight) (code : Byte) : State :=
  if code = 1 then s.commandDone c fl
  else if code = 2 then s.commandBusy c fl
  else if code = 3 then s.attemptFailed c
  else s

/-- ACTUATOR_REPLY: a reply record passed the framing check (03 R45). DESIGN CHOICE: a reply that matches a command whose
record still waits for the field port is taken like any other: a BUSY is counted and starts no window, and the record is
sent all the same, also when the reply has ended the command or the attempt; R44 and R45 do not say (log 44). -/
def execActuatorReply (channel tag code : Byte) (s : State) : Host.Outcome State Fault Refusal :=
  .next (
    let s0 := s.mapCe fun e => { e with fieldRx := e.fieldRx.behind 6 }
    if s.configured then
      match chanOf channel.toNat with
      | none => s0
      | some c =>
        match (s.chan c).inFlight with
        | some fl => if fl.tag = tag then finish s (s0.takeReply c fl code) else s0
        | none => s0
    else s0)

/-- REPLY_WINDOW_EXPIRY: the reply window ends without a matching reply (03 R45). -/
def execReplyWindowExpiry (c : Chan) (s : State) : Host.Outcome State Fault Refusal :=
  .next (if s.due ((s.chan c).inFlight.bind InFlight.window) then finish s (s.attemptFailed c) else s)

/-- ACTUATOR_SLOW_EXPIRY: 60 s without a further attempt failure (03 R46). -/
def execActuatorSlowExpiry (c : Chan) (s : State) : Host.Outcome State Fault Refusal :=
  .next (if s.due ((s.chan c).slowSince.map fun t => t + seconds 60) then
      finish s ((s.mapChan c fun ch => { ch with slowSince := none }).setCond (idActuatorSlow c) false none)
    else s)

end Sys2Proof.Machine
end

