-- ==== Sys2Proof/Machine/Firing.lean ====
section
/-! DEFINITION. The meanings of the firing allocator's commands (05). -/

namespace Sys2Proof.Machine

/-- The epoch a SET_DEMAND gives (05 R91). -/
def nextDemandEpoch (held : Option Demand) : Word :=
  match held with
  | none => 1
  | some d => d.epoch + 1

/-- An accepted SET_DEMAND (05 R91, R92). -/
def State.setOwnDemand (s : State) (z : Zone) (target : Nat) : State :=
  (s.takeDemand z ⟨target, nextDemandEpoch (s.demand z).known, s.ownStation⟩).offerDemand z

/-- SET_DEMAND (05 R91). -/
def execSetDemand (zone target : Word) (s : State) : Host.Outcome State Fault Refusal :=
  .next (s.request 3 [zone, target] fun s =>
    match zoneOf zone.toNat with
    | none => s.refuse 3 .badArgument
    | some z =>
      if s.pt.mode = .starting then s.refuse 3 .state
      else
        let t := s.goal z target.toNat
        finish s ((s.setOwnDemand z t).reply 3 (if t = target.toNat then .ok else .clamped) (w16 t) []))

/-- DEMAND_TAKEN: FA takes the DEMAND at the head of the receive queue (05 R93). -/
def execDemandTaken (s : State) : Host.Outcome State Fault Refusal :=
  .next (match s.rxHead .demand with
    | none => s
    | some f =>
      match parseDemand f.payload with
      | none => s.popRx
      | some (z, d) => finish s (s.popRx.adoptDemand z d))

/-- A step of the slew clock that ran out at `t` (05 R95). -/
def DemandRecord.slewStep (r : DemandRecord) (goal slew t : Nat) : DemandRecord :=
  let d := moveToward r.dEff goal slew
  { r with dEff := d, slewClock := if d = goal then none else some (t + seconds 1) }

/-- DEMAND_SLEW_STEP (05 R95). -/
def execDemandSlewStep (z : Zone) (s : State) : Host.Outcome State Fault Refusal :=
  .next (match (s.demand z).slewClock, (s.demand z).known with
    | some t, some d =>
      if t ≤ s.now then
        s.mapDemand z fun r => r.slewStep (s.goal z d.target) (s.zoneParam z ZoneCfg.slew) t
      else s
    | _, _ => s)

/-- PASS_PERIOD: the period clock of a zone fires (05 R96). -/
def execPassPeriod (z : Zone) (s : State) : Host.Outcome State Fault Refusal :=
  .next (if s.due (s.firing z).period then
      (s.mapFiring z fun x => { x with period := none }).triggerPass z
    else s)

/-- PASS_COMPLETION: the pass in progress completes (05 R97, R98). -/
def execPassCompletion (z : Zone) (s : State) : Host.Outcome State Fault Refusal :=
  .next (match (s.firing z).pass with
    | none => s
    | some _ => finish s (s.completePass z))

/-- DEMAND_UNREACHABLE_EXPIRY: DEMAND_UNMET has held for 30 s (05 R111). -/
def execDemandUnreachableExpiry (z : Zone) (s : State) : Host.Outcome State Fault Refusal :=
  .next (if s.due (s.firing z).unmetClock then
      finish s ((s.mapFiring z fun x => { x with unmetClock := none }).setCond (idDemandUnreachable z) true
        (some (s.firing z).air.shortfall))
    else s)

end Sys2Proof.Machine
end

