-- ==== Sys2Proof/Machine/Line.lean ====
section
/-! DEFINITION. The meanings of the floor line's commands (01). -/

namespace Sys2Proof.Machine

/-- A send is in progress. -/
def LineIf.sending (li : LineIf) : Bool := li.tx.any TxFrame.inSend

/-- The bytes of the frame in send, as this station sends it: its origin is the own station number (01 R1,
11 R199). -/
def State.lineBytes (s : State) : List Byte :=
  match s.li.tx.find? TxFrame.inSend with
  | some f => frameBytes f.cls s.ownStation f.seq f.payload
  | none => []

/-- The levels that FL_TX drives through the frame in send, two to a bit time; none while the line is released
(11 R198). -/
def State.lineLevels (s : State) : List Bool := lineLevelsOf s.lineBytes

/-- The head of the transmit queue starts its send: the line is busy (01 R3). -/
def LineIf.startSend (li : LineIf) : LineIf :=
  match li.tx with
  | [] => li
  | f :: rest => { li with tx := { f with inSend := true } :: rest, quietSince := none }

/-- The quiet time has reached the deferral of the current head (01 R3). -/
def State.headDue (s : State) : Bool :=
  match s.li.tx, s.li.quietSince with
  | f :: _, some q => decide (q + deferral f s.ownStation ≤ s.now)
  | _, _ => false

/-- DEFERRAL_EXPIRY: a station with a frame whose deferral has run out on a quiet line starts to send
(01 R3). -/
def execDeferralExpiry (s : State) : Host.Outcome State Fault Refusal :=
  .next (if !(s.pt.mode == .unconfigured) && !s.li.sending && s.headDue then s.mapLi LineIf.startSend else s)

/-- YIELD: the line turns busy by another station; the count of quiet time ends (01 R4). -/
def execYield (s : State) : Host.Outcome State Fault Refusal :=
  .next (if s.li.sending then s else s.mapLi fun li => { li with quietSince := none })

/-- The collision count of a collided frame, raised by the collision; a TRIP's stays at 255 (01 R5, R6). -/
def collidedCount (f : TxFrame) : Nat :=
  match f.cls with
  | .trip => min (f.collisions + 1) 255
  | _ => f.collisions + 1

/-- Position of the newer waiting frame that takes a collided frame's place (01 R11). -/
def newerFrame (f : TxFrame) (q : List TxFrame) : Option Nat :=
  if f.cls = .alert ∨ f.cls = .demand then
    q.findIdx? fun g => !g.inSend && matchesKey f.cls f.payload g
  else none

/-- The queue after a collision of the frame in send, and the frame that carries its raised count. -/
def collideQueue (f : TxFrame) (q : List TxFrame) : List TxFrame × TxFrame :=
  let n := collidedCount f
  let rest := q.filter fun g => !g.inSend
  match newerFrame f rest with
  | some i =>
    match rest[i]? with
    | some g => (rest.set i { g with collisions := n }, { g with collisions := n })
    | none => (rest, f)
  | none =>
    (q.map fun g => if g.inSend then { g with inSend := false, collisions := n } else g,
      { f with inSend := false, collisions := n })

/-- The effect of a collision of the frame in send (01 R5 to R8, R11). -/
def State.collide (s : State) (f : TxFrame) : State :=
  let r := collideQueue f s.li.tx
  let s1 := s.mapLi fun li => { li with
    tx := r.1
    collisions := li.collisions + 1
    quietSince := some (s.now + 2) }
  if r.2.cls = .trip then
    if 8 ≤ r.2.collisions then
      (s1.mapLi fun li => { li with lastDegrading := some s.now }).setCond idLineDegraded true none
    else s1
  else if 8 ≤ r.2.collisions then
    let s2 := (s1.mapLi fun li => ({ li with tx := li.tx.erase r.2 } : LineIf).discard s.now).loseFrame r.2
    if s2.li.fourDiscards s.now then s2.setCond idLineDegraded true none else s2
  else s1

/-- COLLISION: a bit of the send reads back differently (01 R5). -/
def execCollision (s : State) : Host.Outcome State Fault Refusal :=
  .next (match s.li.tx.find? TxFrame.inSend with
    | some f => finish s (s.collide f)
    | none => s)

/-- LI's account of a transmit completion, and the roll-call index a completed SNAP publishes (01 R5, R18;
02 R25). -/
def State.completeSend (s : State) (f : TxFrame) : State :=
  let s1 := s.mapLi fun li => { li with
    tx := li.tx.filter fun g => !g.inSend
    sent := li.sent + 1
    completionTime := s.now
    acceptedMark := false
    quietSince := some (s.now + 2) }
  if f.cls = .snap then
    s1.mapPt fun t => { t with rollIndex := if f.resume < s.al.list.length then f.resume else 0 }
  else s1

/-- TRANSMIT_COMPLETION: the frame leaves the queue, and AL, FA and SR retry their unannounced frames
(01 R5). -/
def execTransmitCompletion (s : State) : Host.Outcome State Fault Refusal :=
  .next (match s.li.tx.find? TxFrame.inSend with
    | some f => finish s (((s.completeSend f).retryAlerts.retryDemands.retryShifts).judgeContact)
    | none => s)

/-- An arriving peer frame joins the receive queue, or is lost to overrun (01 R16). -/
def LineIf.receive (li : LineIf) (f : RxFrame) : LineIf :=
  if li.rx.length < 8 then { li with rx := li.rx ++ [f] }
  else if f.cls = .trip then
    match li.rx.findIdx? fun g => g.cls == .snap || g.cls == .shift with
    | some i => { li with rx := li.rx.eraseIdx i ++ [f], overruns := li.overruns + 1 }
    | none => { li with overruns := li.overruns + 1 }
  else { li with overruns := li.overruns + 1 }

/-- A frame received whole or in part is judged (01 R14 to R16). -/
def State.judgeFrame (s : State) (bytes : List Byte) (oddBits : Nat) : State :=
  match parseFrame bytes oddBits with
  | none => s.mapLi fun li => { li with crcDrops := li.crcDrops + 1 }
  | some f =>
    if f.origin = s.ownStation then
      (s.mapLi fun li => { li with
        duplicates := li.duplicates + 1
        lastDuplicate := some s.now }).setCond idDuplicateStation true none
    else
      let s1 := s.mapLi fun li => { li with rxTime := s.now }
      let s2 := if f.cls = .ack ∧ ackTarget f.payload ≠ stationNumber s.ownStation then s1
        else s1.mapLi fun li => li.receive f
      s2.judgeContact

/-- RECEIVE_FRAME: the line goes quiet at the end of a frame others sent (01 R14 to R16, R19). -/
def execReceiveFrame (bytes : List Byte) (oddBits : Fin 8) (s : State) : Host.Outcome State Fault Refusal :=
  .next (if s.li.sending then s
    else
      let s1 := s.mapLi fun li => { li with quietSince := some s.now, rxAbandoned := false }
      if s.pt.mode = .unconfigured ∨ s.li.rxAbandoned then s1
      else finish s (s1.judgeFrame bytes oddBits.val))

/-- LINE_DEGRADED_EXPIRY: 60 s since the most recent degrading event (01 R8). -/
def execLineDegradedExpiry (s : State) : Host.Outcome State Fault Refusal :=
  .next (if s.cond idLineDegraded && s.due (s.li.lastDegrading.map fun t => t + seconds 60) then
      finish s (s.setCond idLineDegraded false none)
    else s)

/-- DUPLICATE_STATION_EXPIRY: 30 s since the last duplicate detection (01 R15). -/
def execDuplicateStationExpiry (s : State) : Host.Outcome State Fault Refusal :=
  .next (if s.cond idDuplicateStation && s.due (s.li.lastDuplicate.map fun t => t + seconds 30) then
      finish s (s.setCond idDuplicateStation false none)
    else s)

/-- LINE_ISOLATION_TIMEOUT: the line-isolation indication is true in NORMAL (01 R18, 02 R36). -/
def execLineIsolationTimeout (s : State) : Host.Outcome State Fault Refusal :=
  .next (if s.pt.mode = .normal ∧ s.isolation then finish s s.enterIsolated else s)

end Sys2Proof.Machine
end

