-- ==== Sys2Proof/Machine/Records.lean ====
section
/-! DEFINITION. The data words of the reads (10 R188 to R190, 11 R203). The layout of parts that 11 R203 does
not write out is a DESIGN CHOICE of log 11, field by field in the order of the defining table. -/

namespace Sys2Proof.Machine

/-! ### Conventions of 11 R203 -/

/-- A flag. -/
def flagW (b : Bool) : Word := w16 (bit b)

/-- An optional field of `n` words: a presence word, then the words, 0 when absent. -/
def optWords (n : Nat) (o : Option (List Word)) : List Word :=
  match o with
  | some ws => 1 :: ws
  | none => 0 :: List.replicate n 0

/-- An optional number of one word. -/
def optNat (o : Option Nat) : List Word := optWords 1 (o.map fun v => [w16 v])

/-- An optional word. -/
def optWord (o : Option Word) : List Word := optWords 1 (o.map fun v => [v])

/-- An optional time stamp. -/
def optStamp (o : Option Stamp) : List Word := optWords 3 (o.map Stamp.words)

/-- A list: a count word, then the entries. -/
def listWords (l : List (List Word)) : List Word := w16 l.length :: l.flatten

/-- The remaining time of a running timer in units of `u` bit times, rounded up (log 11). -/
def State.remaining (s : State) (u : Nat) (t : Option Nat) : List Word :=
  optNat (t.map fun d => ceilDiv (d - s.now) u)

/-- A clock whose values are running and stopped: 1 or 2, by its position in that list. -/
def runningW (t : Option Nat) : Word := if t.isSome then 1 else 2

/-- A timer of the zone record: running or stopped, and the remaining time in units of `u` bit times (04 R64,
10 R189). -/
def State.timerWords (s : State) (u : Nat) (t : Option Nat) : List Word :=
  [runningW t, w16 (ceilDiv (t.getD s.now - s.now) u)]

/-! ### READ_STATUS (10 R188) -/

/-- The notice set as a mask, in the order of 10 R191. -/
def Notices.mask (n : Notices) : Nat :=
  bit n.alarmChanged + 2 * bit n.p1Raised + 4 * bit n.channelState + 8 * bit n.zoneState
    + 16 * bit n.shiftClosed + 32 * bit n.peerChange + 64 * bit n.configNeeded

/-- Position of a mode in the list of 02 R34. -/
def Mode.place : Mode → Nat
  | .unconfigured => 1
  | .starting => 2
  | .normal => 3
  | .isolated => 4

/-- The 16 data words of READ_STATUS. DESIGN CHOICE: ESD_N is a flag, 1 asserted and 0 released (log 11). DESIGN
CHOICE: of the counts that are 0 in UNCONFIGURED the port error count is none; it is sent as SP keeps it (log 40). -/
def State.statusWords (s : State) : List Word :=
  [w16 s.pt.mode.place, w16 ((s.config.map fun c => stationNumber c.station).getD 0), w16 s.sp.notices.mask,
    flagW s.listFull, flagW s.fv.full, w16 s.al.list.length, w16 s.fv.view.length]
    ++ s.stamp.words ++ [flagW s.sr.clockLost] ++ optWord s.sr.shift
    ++ [flagW s.esd, flagW (s.cond idFieldSilent), w16 s.sp.portErrors]

/-! ### READ_CHANNEL (10 R189) -/

/-- Position of a point condition in the list of 03 R40. -/
def PointCond.place : PointCond → Nat
  | .noValue => 1
  | .current => 2
  | .held => 3
  | .substituted => 4

/-- A sample point: condition, value in use, UNCERTAIN count. DESIGN CHOICE: the value in use takes a presence word
at every point, also where the point always has one (log 11). -/
def pointWords (p : Point) (value : Option Nat) : List Word :=
  [w16 p.cond.place] ++ optNat value ++ [w16 p.uncertain]

/-- Command and value of an actuator command. -/
def Cmd.words (c : Cmd) : List Word := [w16 c.code, w16 c.value]

/-- The handshake of a channel: the command in flight and the pending command. -/
def Channel.handshakeWords (ch : Channel) : List Word :=
  optWords 5 (ch.inFlight.map fun f => f.cmd.words ++ [f.tag.setWidth 16, w16 f.attempt, w16 f.busy])
    ++ optWords 2 (ch.queued.map Cmd.words)

/-- The remaining time of a channel's deviation clock in s: the unlocked or the acquiring clock. -/
def State.deviationClock (s : State) (ch : Channel) : List Word :=
  s.remaining (seconds 1) (match ch.unlockedClock with
    | some t => some t
    | none => ch.acquiringClock)

/-- The tracking fields. -/
def State.trackWords (s : State) (ch : Channel) : List Word :=
  optWords 7 (ch.track.map fun t =>
    [w16 (if t.tracking then 2 else 1), flagW t.locked, flagW t.inBand, w16 t.within, w16 t.outside]
      ++ s.deviationClock ch)

/-- The account of a channel; a fan has no energy (09 R168). -/
def State.accountWords (s : State) (c : Chan) (fuel : Bool) : List Word :=
  let a := s.acct c
  words32 a.mass ++ words48 a.lifeMass ++ words32 a.massRem
    ++ (if fuel then words32 a.energy ++ words48 a.lifeEnergy ++ words32 a.energyRem else [])
    ++ words32 a.run ++ words48 a.lifeRun ++ [w16 (min (a.remainder s.now / 250) 999), w16 a.count,
      flagW a.estimated]

/-- The record of a fuel channel (03 R38, R40). The time of the repeat history is a time stamp (11 R203, log 36). -/
def State.fuelWords (s : State) (c : Chan) : List Word :=
  let ch := s.chan c
  [1, 2, w16 ch.state.fuelCode] ++ optNat (ch.cause.map TripCause.code)
    ++ [w16 ch.hmin, w16 ch.hmax, w16 ch.hmaxEff, w16 ch.alloc, w16 ch.actual, w16 ch.target, w16 ch.setpoint]
    ++ s.trackWords ch ++ [flagW (s.cond (idFeedDeviation c))] ++ ch.handshakeWords
    ++ [flagW ch.feedDue, flagW ch.igniterOff]
    ++ optWords 4 (ch.history.map fun h => w16 h.cause.code :: h.stamp.words)
    ++ pointWords ch.feedPt ch.feedPt.feedValue
    ++ pointWords ch.valvePt (some (bit ch.valvePt.closed))
    ++ pointWords ch.faultPt (some (bit ch.faultPt.faulted))
    ++ s.accountWords c true

/-- A signed number in 32 bits. -/
def intWords (i : Int) : List Word := words32 (i % 4294967296).toNat

/-- The last computation of a regulator record (06 R115). -/
def Computation.words (k : Computation) : List Word :=
  [w16 k.load] ++ intWords k.f1 ++ intWords k.f2 ++ intWords k.f3 ++ intWords k.f4
    ++ [w16 k.f5, w16 k.elapsed, w16 k.stepLimit]

/-- The regulator record of a fan (06 R115). -/
def State.regWords (s : State) (c : Chan) (f : FanCfg) : List Word :=
  let r := s.reg c
  words32 (s.cr.held.get f.zone) ++ optWords 12 (r.last.map Computation.words) ++ [flagW r.slewLimited]
    ++ [runningW r.blowClock, flagW (s.cond (idBedLow c)), flagW r.frozen]

/-- The record of a fan channel (03 R38, R40; 06 R115). -/
def State.fanWords (s : State) (c : Chan) (f : FanCfg) : List Word :=
  let ch := s.chan c
  [1, 3, w16 ch.state.fanCode, w16 ch.setpoint] ++ ch.handshakeWords
    ++ pointWords ch.flowPt (some ch.flowPt.flowValue)
    ++ pointWords ch.bedPt (some (ch.bedPt.pressure f.pRef))
    ++ s.accountWords c false ++ s.regWords c f

/-! ### READ_ZONE (10 R189) -/

/-- The demand record (05 R90). -/
def State.demandRecordWords (s : State) (z : Zone) : List Word :=
  let d := s.demand z
  [flagW d.known.isNone] ++ optNat (d.known.map Demand.target) ++ optWord (d.known.map Demand.epoch)
    ++ optNat (d.known.map fun x => stationNumber x.setter) ++ [w16 d.dEff]
    ++ [runningW d.slewClock, flagW d.unannounced]

/-- An air balance record (05 R109). -/
def AirBalance.words (a : AirBalance) : List Word :=
  words32 a.supply ++ words32 a.minAir ++ words32 a.allocAir ++ words32 a.airLeft ++ words32 a.shortfall
    ++ [w16 a.dEff, flagW a.airShort, flagW a.airLimited, flagW a.minBound, flagW a.demandUnmet]
    ++ words32 a.passCount.toNat

/-- A cause entry (04 R84). -/
def CauseEntry.words (e : CauseEntry) : List Word :=
  [w16 e.cause.code, w16 (stationNumber e.origin)] ++ optNat (e.channel.map Fin.val)
    ++ optNat (e.peerCause.map ZoneCause.code) ++ e.time.words ++ [e.epoch]
    ++ optWords 2 (e.value.map words32)

/-- A first-out record: cause entry, subsequent list, count of dropped causes (04 R84). -/
def FirstOut.words (f : FirstOut) : List Word :=
  f.entry.words ++ listWords (f.later.map CauseEntry.words) ++ [w16 f.dropped]

/-- A channel entry of a trip snapshot (04 R85). -/
def SnapChannel.words (c : SnapChannel) : List Word :=
  [w16 c.chan.val, w16 c.state.fuelCode, w16 c.alloc, w16 c.actual, w16 c.setpoint] ++ optNat c.feed

/-- A trip snapshot (04 R85). -/
def TripSnapshot.words (t : TripSnapshot) : List Word :=
  t.time.words ++ [t.epoch, w16 t.cause.code, w16 t.dEff] ++ t.air.words
    ++ listWords (t.chans.map SnapChannel.words)

/-- The trip-hold timer: running, expired or stopped, and the remaining s (04 R64). -/
def State.holdWords (s : State) (h : TripHold) : List Word :=
  match h with
  | .running t => [1, w16 (ceilDiv (t - s.now) (seconds 1))]
  | .expired => [2, 0]
  | .stopped => [3, 0]

/-- The zone record (04 R64). DESIGN CHOICE: the three flicker times are sent newest first (log 11). -/
def State.zoneRecordWords (s : State) (z : Zone) : List Word :=
  let r := s.zone z
  [w16 r.state.code] ++ s.timerWords (seconds 1) r.purgeTimer ++ s.timerWords (seconds 1) r.readyTimer
    ++ s.timerWords (ms 1) r.flameTimer ++ [flagW r.flameLost]
    ++ optStamp (r.flickers[0]?.map Flicker.stamp) ++ optStamp (r.flickers[1]?.map Flicker.stamp)
    ++ optStamp (r.flickers[2]?.map Flicker.stamp)
    ++ s.timerWords (seconds 1) r.airClock ++ s.holdWords r.tripHold ++ optWord r.epoch
    ++ optWords 15 (r.firstOut.map FirstOut.words) ++ optWords 24 (r.snapshot.map TripSnapshot.words)
    ++ [flagW (s.cond (idPurgeAborted z)), flagW (s.cond (idFlameUnstable z)), flagW (s.cond (idZoneTrip z))]

/-- The data words of READ_ZONE: the demand record, then, for a participating zone, the zone record and the
air balance record. -/
def State.zoneWords (s : State) (z : Zone) : List Word :=
  s.demandRecordWords z ++
    (if s.participates z then 1 :: (s.zoneRecordWords z ++ (s.firing z).air.words) else [0])

/-! ### READ_PEER (10 R189) -/

/-- Position of a freshness in the list of 02 R28. -/
def Freshness.place : Freshness → Nat
  | .absent => 1
  | .fresh => 2
  | .stale => 3
  | .expired => 4

/-- A zone block of a peer record (02 R26). -/
def ZoneBlock.record (b : ZoneBlock) : List Word :=
  [w16 b.zone.val, w16 b.state.code] ++ optWord b.epoch
    ++ optWords 3 (b.demand.map fun d => [w16 d.target, d.epoch, w16 (stationNumber d.setter)])
    ++ optNat (b.scanner.map bit) ++ [flagW b.fuelOpen]

/-- A channel summary of a peer record (02 R27). -/
def Summary.record : Summary → List Word
  | .fuel f => [1, w16 f.chan.val, w16 f.zone.val, w16 f.state.fuelCode, w16 f.rank, flagW f.trim,
      flagW f.igniter, w16 f.hmin, w16 f.hmaxEff, w16 f.alloc, w16 f.actual, w16 f.airFactor, flagW f.valveOpen]
  | .fan f => [2, w16 f.chan.val, w16 f.zone.val, w16 f.state.fanCode, w16 f.flow, w16 f.recup]

/-- The data words of READ_PEER: the peer record and the roll-call state (02 R28, 08 R154). DESIGN CHOICE: the mode,
which an ABSENT record does not hold, takes a presence word; the time-valid flag and the listed count are sent as
false and 0 (log 11). -/
def State.peerWords (s : State) (n : Station) : List Word :=
  let r := s.peer n
  let k := s.rollCall n
  [w16 r.fresh.place, flagW r.expected] ++ optWord (r.lastSeq.map fun b => b.setWidth 16)
    ++ optStamp r.lastStamp ++ optNat (r.mode.map Mode.code) ++ optWord r.shift
    ++ [flagW r.timeValid, w16 r.listed] ++ listWords (r.zones.map ZoneBlock.record)
    ++ listWords (r.chans.map Summary.record)
    ++ [w16 (if k.opened then 2 else 1), flagW k.whole, w16 k.prevIndex, flagW k.prevLast]

/-! ### READ_RUN (10 R190) -/

/-- An OWN_ALARMS record of 19 words (07 R132, 11 R203). DESIGN CHOICE: of a shelve that has run out while its
SHELVE_EXPIRY is still to be taken, the shelve expiry is sent as present with 0 s, below the field's range of 1 to
28800 s (log 11). -/
def State.alarmWords (s : State) (e : AlarmEntry) : List Word :=
  [w16 e.id.val, w16 (alarmPriority e.id), w16 e.state.code, e.seq] ++ e.raiseTime.words
    ++ optStamp e.clearTime ++ optNat e.value ++ [w16 (s.alarm e.id).shiftRaises]
    ++ s.remaining (seconds 1) e.shelveEnd ++ [flagW (s.alarm e.id).announce] ++ optWord (s.alarm e.id).lastSeq

/-- A FLOOR_VIEW record (08 R161). -/
def Mirror.words (m : Mirror) : List Word :=
  [w16 (stationNumber m.origin), w16 m.id.val, w16 (alarmPriority m.id), w16 m.state.code, m.seq]
    ++ m.raiseTime.words ++ [flagW m.lost]

/-- A channel entry of a shift record (09 R176). -/
def ShiftEntry.words (e : ShiftEntry) : List Word :=
  [w16 (if e.fuel then 1 else 2), w16 e.chan.val] ++ words32 e.mass
    ++ (if e.fuel then words32 e.energy else []) ++ words32 e.run ++ [w16 e.count, flagW e.estimated]

/-- A SHIFT_RING record (09 R176, R178). -/
def ShiftRecord.words (r : ShiftRecord) : List Word :=
  [r.number, w16 r.kind.code, flagW r.incomplete, flagW r.estimated, flagW r.gap] ++ r.start.words
    ++ r.ended.words ++ listWords (r.chans.map ShiftEntry.words)
    ++ [w16 r.zoneTrips, w16 r.p1, w16 r.p2, w16 r.p3] ++ optNat r.tempMax ++ optNat r.tempMean
    ++ [flagW r.unannounced]

/-- The present-station set of a slot as a mask (09 R179). -/
def SummarySlot.mask (sl : SummarySlot) : Nat :=
  (allStations.map fun n => if sl.entries.any (fun e => e.station == n) then 2 ^ n.val else 0).sum

/-- A FLOOR_SUMMARY record (09 R179, 10 R190). -/
def SummarySlot.record (sl : SummarySlot) (e : StationSummary) : List Word :=
  [sl.number, w16 sl.mask, w16 (stationNumber e.station), w16 e.kind.code, flagW e.incomplete]
    ++ words32 e.energy ++ words32 e.volume ++ [w16 e.zoneTrips, w16 e.p1]

/-- The records of a collection in index order; none where the arguments are refused BAD_ARGUMENT (10 R190). -/
def State.collection (s : State) (collection slot : Nat) : Option (List (List Word)) :=
  match collection with
  | 1 => some (s.al.list.map s.alarmWords)
  | 2 => some (s.fv.view.map Mirror.words)
  | 3 => some (s.sr.ring.map ShiftRecord.words)
  | 4 =>
    if 3 < slot then none
    else match s.sr.summary[slot]? with
      | some sl => some (sl.entries.map sl.record)
      | none => some []
  | _ => none

/-! ### READ_LINE_STATS (10 R189) -/

/-- The 14 data words of READ_LINE_STATS. -/
def State.lineStatWords (s : State) : List Word :=
  words32 s.li.sent.toNat ++ words32 s.li.collisions.toNat ++ words32 s.li.discards.toNat
    ++ words32 s.li.crcDrops.toNat ++ words32 s.li.overruns.toNat ++ words32 s.li.duplicates.toNat
    ++ [w16 s.li.tx.length, w16 s.li.rx.length]

end Sys2Proof.Machine
end

