-- ==== Sys2Proof/Machine/ResetOps.lean ====
section
/-! DEFINITION. The two resets (10 R196) and the entry to mode STARTING (02 R35, 10 R195): what each block's
reset table leaves, gathered from 01 R20, 02 R37, 03 R63, 04 R89, 05 R113, 06 R129, 07 R149, 08 R162,
09 R182 and 10 R197. -/

namespace Sys2Proof.Machine

/-- LI after a reset (01 R20). The line is released if this station drove it; a frame being received is
abandoned. -/
def LineIf.afterReset (li : LineIf) (now : Nat) : LineIf :=
  { LineIf.initial with
    quietSince := if li.tx.any TxFrame.inSend then some (now + 2) else li.quietSince
    rxAbandoned := li.rxAbandoned || (!li.tx.any TxFrame.inSend && li.quietSince.isNone) }

/-- SP after a reset (10 R197): a transaction in progress is abandoned until select is released. DESIGN CHOICE: in
the rest of that transaction SP shifts out words of value 0, no word of an answer (log 17). -/
def StationPort.afterReset (sp : StationPort) (configured : Bool) : StationPort :=
  { StationPort.initial with
    txn := if sp.txn = .idle then .idle else .abandoned
    notices := if configured then Notices.none else { Notices.none with configNeeded := true } }

/-- A channel after a station reset: LOCKED_OUT with its cause is kept, and every repeat history (03 R63). -/
def Channel.afterReset (ch : Channel) : Channel :=
  { Channel.initial with
    state := if ch.state = .lockedOut then .lockedOut else .off
    cause := if ch.state = .lockedOut then ch.cause else none
    history := ch.history }

/-- CE after a station reset (03 R63). -/
def ChannelEngine.afterReset (e : ChannelEngine) : ChannelEngine :=
  { ChannelEngine.initial with chans := e.chans.map Channel.afterReset }

/-- A zone record after a station reset: epoch, first-out record and snapshot are kept (04 R89). -/
def ZoneRec.afterReset (r : ZoneRec) : ZoneRec :=
  { ZoneRec.initial with epoch := r.epoch, firstOut := r.firstOut, snapshot := r.snapshot }

/-- An alarm record after a station reset (07 R149). -/
def AlarmRec.afterReset (r : AlarmRec) : AlarmRec :=
  { r with cond := false, condValue := none, waiting := false, announce := false }

/-- AL after a station reset (07 R149). -/
def AlarmList.afterReset (al : AlarmList) : AlarmList :=
  { al with list := [], recs := al.recs.map AlarmRec.afterReset }

/-- SR after a station reset: all is kept, running ends with the channels' reset (09 R182). -/
def ShiftStore.afterReset (sr : ShiftStore) (now : Nat) : ShiftStore :=
  { sr with accts := sr.accts.map fun a => a.setRunning false now }

/-- The record of a channel at entry to STARTING (03 R38, R47, R63). -/
def Channel.configure (ch : Channel) (cfg : ChanCfg) : Channel :=
  match cfg with
  | .unused => ch
  | .fan _ => ch
  | .fuel f =>
    if f.ncv = 0 then { ch with state := .offUnusable }
    else { ch with
      hmin := heatOf f.ncv f.fmin
      hmax := heatOf f.ncv f.fmax
      hmaxEff := heatOf f.ncv f.fmax
      igniter := f.igniter }

/-- CE issues IGNITER off to a usable fuel channel with the igniter flag (03 R63). -/
def State.startIgniter (s : State) (c : Chan) : State :=
  match s.fuel? c with
  | some f => if f.igniter then s.issue c (.igniter false) else s
  | none => s

/-- CHANNEL_LOCKOUT of a channel kept LOCKED_OUT (03 R63, 07 R149). -/
def State.lockoutCond (s : State) (c : Chan) : State :=
  s.setCond (idChannelLockout c) ((s.chan c).state == .lockedOut) ((s.chan c).cause.map TripCause.code)

/-- Entry to mode STARTING with the configuration held (01 R18, 02 R35, 03 R43, R63, 07 R149, 09 R164). DESIGN CHOICE:
the conditions that hold after a station reset are written with CHANNEL_LOCKOUT first, in ascending channel order, and
CLOCK_LOST after them, which gives them their raise sequences and positions; R149 gives no order (log 41). -/
def State.enterStarting (s : State) (cfg : Config) : State :=
  let s1 := { s with config := some cfg }
  let s2 := s1.mapPt fun t => { t with
    mode := .starting
    startTime := s.now
    peers := Vector.ofFn fun n => PeerRecord.absentRecord (cfgExpects cfg n) }
  let s3 := s2.mapLi fun li => { li with completionTime := s.now, rxTime := s.now, acceptedMark := false }
  let s4 := s3.mapCe fun e => { e with
    chans := Vector.ofFn fun c => (e.chans.get c).configure (cfg.chans.get c)
    silenceSince := s.now }
  let s5 := allChans.foldl State.startIgniter s4
  let s6 := allChans.foldl State.lockoutCond s5
  (s6.clockCond.offerSnap).pump

/-- A station reset (10 R196). -/
def State.stationReset (s : State) : State :=
  let s1 : State := { s with
    li := s.li.afterReset s.now
    pt := PeerTable.initial
    ce := s.ce.afterReset
    zs := ⟨s.zs.zones.map ZoneRec.afterReset⟩
    fa := Allocator.initial
    cr := Cooler.initial
    al := s.al.afterReset
    fv := FloorView.initial
    sr := s.sr.afterReset s.now
    sp := s.sp.afterReset s.configured }
  match s.config with
  | some cfg => s1.enterStarting cfg
  | none => s1

/-- A power-on reset (10 R196): everything but the pins, the floor line's condition, the elapsed time and the
queue of commands. -/
def State.powerOnReset (s : State) : State :=
  { State.reset with
    pending := s.pending
    now := s.now
    powerOn := s.now
    esd := s.esd
    resetHeld := s.resetHeld
    li := s.li.afterReset s.now
    sr := { ShiftStore.initial with crystalSince := s.now }
    sp := s.sp.afterReset false }

end Sys2Proof.Machine
end

