-- ==== Sys2Proof/Machine/Port.lean ====
section
/-! DEFINITION. The meanings of the station port's commands (10): the transaction on the port, LOAD_CONFIG,
and the reads. -/

namespace Sys2Proof.Machine

/-- The `i`-th word SP shifts out in the transaction in progress: the words of the response phase, then words of
value 0 through the request phase (10 R183). -/
def StationPort.shiftsOut (p : StationPort) (i : Nat) : Word := p.out.getD i 0

/-- TRANSACTION_START: the buffer decides what the response phase carries (10 R183, R184). -/
def execTransactionStart (s : State) : Host.Outcome State Fault Refusal :=
  .next (if s.sp.txn = .idle then
      match s.sp.buffer with
      | .empty => s.mapSp fun p => { p with txn := .requesting, out := [emptyHeader] }
      | .inWork _ _ => s.mapSp fun p => { p with txn := .discarding, out := [notReadyHeader] }
      | .ready a => s.mapSp fun p => { p with txn := .answering, out := a.words }
    else s)

/-- ANSWER_DELIVERED: select stayed asserted through the last answer word (10 R184). -/
def execAnswerDelivered (s : State) : Host.Outcome State Fault Refusal :=
  .next (if s.sp.txn = .answering then s.mapSp fun p => { p with txn := .requesting, buffer := .empty } else s)

/-- TRANSACTION_END: the host releases select; a request phase that is taken is judged (10 R185). -/
def execTransactionEnd (words : List Word) (cut : Bool) (s : State) : Host.Outcome State Fault Refusal :=
  .next (
    let s1 := s.mapSp fun p => { p with txn := .idle, out := [] }
    if s.sp.txn = .requesting then s1.takeRequest words cut else s1)

/-- The acceptance of a record: the station enters STARTING, and its first shift starts (09 R176, 10 R195). -/
def State.acceptConfig (s : State) (cfg : Config) : State :=
  let s1 := s.mapSp fun p => { p with notices := { p.notices with configNeeded := false } }
  (s1.mapSr fun r => { r with shiftStart := s.stamp }).enterStarting cfg

/-- LOAD_CONFIG (10 R186, R193 to R195). -/
def execLoadConfig (words : List Word) (s : State) : Host.Outcome State Fault Refusal :=
  .next (s.read 1 words fun s =>
    if s.pt.mode ≠ .unconfigured then s.refuse 1 .alreadyConfigured
    else if structuralError words then s.refuse 1 .badArgument
    else
      let n := clampedCount words
      (s.acceptConfig (acceptedConfig words)).reply 1 (if n = 0 then .ok else .clamped) (w16 n) [])

/-- READ_CONFIG (10 R189): the record as held; station number 0 and no other field in UNCONFIGURED. -/
def execReadConfig (s : State) : Host.Outcome State Fault Refusal :=
  .next (s.read 2 [] fun s =>
    match s.config with
    | some cfg => s.okData 2 (configWords cfg)
    | none => s.okData 2 [0])

/-- READ_STATUS returns the notice set and removes it (10 R188). -/
def execReadStatus (s : State) : Host.Outcome State Fault Refusal :=
  .next (s.read 15 [] fun s => (s.okData 15 s.statusWords).mapSp fun p => { p with notices := Notices.none })

/-- READ_CHANNEL (10 R189). -/
def execReadChannel (channel : Word) (s : State) : Host.Outcome State Fault Refusal :=
  .next (s.read 16 [channel] fun s =>
    match chanOf channel.toNat with
    | none => s.refuse 16 .badArgument
    | some c =>
      if s.pt.mode = .unconfigured then s.okData 16 [0, 0]
      else match s.chanCfg c with
        | .unused => s.refuse 16 .badArgument
        | .fuel _ => s.okData 16 (s.fuelWords c)
        | .fan f => s.okData 16 (s.fanWords c f))

/-- READ_ZONE (10 R189). -/
def execReadZone (zone : Word) (s : State) : Host.Outcome State Fault Refusal :=
  .next (s.read 17 [zone] fun s =>
    match zoneOf zone.toNat with
    | none => s.refuse 17 .badArgument
    | some z => s.okData 17 (s.zoneWords z))

/-- READ_PEER (10 R189). -/
def execReadPeer (station : Word) (s : State) : Host.Outcome State Fault Refusal :=
  .next (s.read 18 [station] fun s =>
    match stationOf station.toNat with
    | none => s.refuse 18 .badArgument
    | some n => if s.isOwn n then s.refuse 18 .badArgument else s.okData 18 (s.peerWords n))

/-- READ_RUN (10 R190). -/
def execReadRun (collection slot start count : Word) (s : State) : Host.Outcome State Fault Refusal :=
  .next (s.read 19 [collection, slot, start, count] fun s =>
    if count.toNat = 0 ∨ 16 < count.toNat then s.refuse 19 .badArgument
    else match s.collection collection.toNat slot.toNat with
      | none => s.refuse 19 .badArgument
      | some records =>
        if records.length ≤ start.toNat then s.refuse 19 .ended
        else
          let run := (records.drop start.toNat).take count.toNat
          s.reply 19 .ok (w16 run.length) run.flatten)

/-- READ_LINE_STATS (10 R189). -/
def execReadLineStats (s : State) : Host.Outcome State Fault Refusal :=
  .next (s.read 20 [] fun s => s.okData 20 s.lineStatWords)

end Sys2Proof.Machine
end

