-- ==== Sys2Proof/Machine/Resets.lean ====
section
/-! DEFINITION. The meanings of the reset commands: POWER_ON_RESET, RESET_N_ASSERTION, RESET_N_RELEASE and
STATION_RESET (10 R196). -/

namespace Sys2Proof.Machine

/-- POWER_ON_RESET (10 R196). -/
def execPowerOnReset (s : State) : Host.Outcome State Fault Refusal := .next s.powerOnReset

/-- RESET_N_ASSERTION: a station reset at an assertion; a line already asserted makes no further reset
(10 R196). -/
def execResetNAssertion (s : State) : Host.Outcome State Fault Refusal :=
  .next (if s.resetHeld then s else { s.stationReset with resetHeld := true })

/-- RESET_N_RELEASE: the line may be asserted again (10 R196). -/
def execResetNRelease (s : State) : Host.Outcome State Fault Refusal := .next { s with resetHeld := false }

/-- STATION_RESET: the request in work is taken; it has no answer (10 R186, R196). -/
def execStationReset (s : State) : Host.Outcome State Fault Refusal :=
  .next (s.request 21 [] State.stationReset)

end Sys2Proof.Machine
end

