-- ==== Sys2Proof/Machine/Shifts.lean ====
section
/-! DEFINITION. The meanings of the shift totalizer's commands (09). -/

namespace Sys2Proof.Machine

/-- TIME_BASE_TICK: one second of the source that drives the time base (09 R163). -/
def execTimeBaseTick (s : State) : Host.Outcome State Fault Refusal :=
  .next (s.mapSr fun r => r.tick s.config)

/-- A boundary event with the time valid and the number known makes a CLOCK close (09 R173). -/
def State.clockClose (s : State) (cfg : Config) : State :=
  let now := clockShift cfg s.sr.day s.sr.sec
  if s.sr.valid then
    match s.sr.shift with
    | some n => s.closeShift .clock n false now
    | none => s.mapSr fun r => { r with shift := some now }
  else s

/-- SHIFT_BOUNDARY: the time base has reached a shift boundary by running (09 R166, R173). -/
def execShiftBoundary (s : State) : Host.Outcome State Fault Refusal :=
  .next (match s.config with
    | some cfg =>
      if s.sr.boundaryDue then finish s ((s.mapSr fun r => { r with boundaryDue := false }).clockClose cfg) else s
    | none => s)

/-- CRYSTAL_CHECK_PASS: 1000 ms of oscillation without a gap (09 R164). Such a run lies after the last gap that
failed the check, and after power-on (log 18). -/
def execCrystalCheckPass (s : State) : Host.Outcome State Fault Refusal :=
  .next (if s.sr.crystal = .passing ∨ !s.passed s.sr.crystalSince (ms 1000) then s
    else finish s ((s.mapSr fun r => { r with
      crystal := .passing
      crystalSince := s.now
      clockLost := r.clockLost && !r.setSinceFail }).clockCond))

/-- The crystal check can fail: a gap after passing, or 2000 ms after power-on without a pass (09 R164). -/
def State.crystalFails (s : State) : Bool :=
  match s.sr.crystal with
  | .passing => true
  | .waiting => s.passed s.sr.crystalSince (ms 2000)
  | .failed => false

/-- CRYSTAL_CHECK_FAIL (09 R163, R164). -/
def execCrystalCheckFail (s : State) : Host.Outcome State Fault Refusal :=
  .next (if s.crystalFails then
      finish s ((s.mapSr fun r => { r with
        crystal := .failed
        crystalSince := if r.crystal = .passing then s.now else r.crystalSince
        valid := false
        clockLost := true
        setSinceFail := false }).clockCond)
    else s)

/-- RUNNING_SECOND: the running remainder of a channel reaches 1000 ms (09 R171). -/
def execRunningSecond (c : Chan) (s : State) : Host.Outcome State Fault Refusal :=
  .next (if seconds 1 ≤ (s.acct c).remainder s.now then s.mapAcct c fun a => a.runSecond s.now else s)

/-- The shift number follows a SET_TIME: a TIME_SET close when the known number differs (09 R167, R174). -/
def State.timeSetClose (s : State) (new : Word) : State :=
  match s.sr.shift with
  | none => s.mapSr fun r => { r with shift := some new }
  | some n => if n = new then s else s.closeShift .timeSet n false new

/-- The time base takes a day and a second (09 R163 to R165). DESIGN CHOICE: a SET_TIME to exactly a boundary second makes
no boundary event, neither now nor at the next second of the source, since its clock number is already that of the shift
which begins there; R165's last sentence can be read otherwise (log 46). -/
def ShiftStore.setTime (sr : ShiftStore) (day : Word) (sec : Nat) : ShiftStore :=
  { sr with
    day := day
    sec := sec
    valid := true
    everValid := true
    setSinceFail := true
    boundaryDue := false
    clockLost := sr.clockLost && !(sr.crystal == .passing) }

/-- SET_TIME (09 R165). DESIGN CHOICE: the TIME_SET close is made before CLOCK_LOST falls, so that a pending alarm raised
into the place that the fall frees counts in the new shift; R148 and R176 do not order the two (log 45). -/
def execSetTime (day secHigh secLow : Word) (s : State) : Host.Outcome State Fault Refusal :=
  .next (s.request 14 [day, secHigh, secLow] fun s =>
    let sec := secondArg secHigh secLow
    if 86399 < sec then s.refuse 14 .badArgument
    else match s.config with
      | some cfg =>
        finish s ((((s.timeSetClose (clockShift cfg day sec)).mapSr fun r => r.setTime day sec).clockCond).ok 14)
      | none => s)

/-- SHIFT_TAKEN: SR takes the SHIFT at the head of the receive queue (09 R181). -/
def execShiftTaken (s : State) : Host.Outcome State Fault Refusal :=
  .next (match s.rxHead .shift with
    | none => s
    | some f =>
      match parseShift f.origin f.payload with
      | none => s.popRx
      | some m => finish s ((s.popRx.peerClose m.number).fileShift m))

end Sys2Proof.Machine
end

