-- ==== Sys2Proof/Machine/Zones.lean ====
section
/-! DEFINITION. The meanings of the zone commands (04). -/

namespace Sys2Proof.Machine

/-- The purge of a zone begins (04 R67). -/
def State.startPurge (s : State) (z : Zone) : State :=
  let s1 := (s.setZone z .purging).mapZone z fun r =>
    { r with purgeTimer := some (s.now + seconds (s.zoneParam z ZoneCfg.purgeTime)) }
  s1.setCond (idPurgeAborted z) false none

/-- ZONE_PURGE (04 R67). -/
def execZonePurge (zone : Word) (s : State) : Host.Outcome State Fault Refusal :=
  .next (s.request 8 [zone] fun s =>
    match s.zoneArg zone with
    | none => s.refuse 8 .badArgument
    | some z =>
      if s.pt.mode = .starting then s.refuse 8 .state
      else if (s.zone z).state ≠ .dark then s.refuse 8 .state
      else if (s.zone z).firstOut.isSome then s.refuse 8 .firstOutPending
      else if s.permissive z then finish s ((s.startPurge z).ok 8)
      else s.refuse 8 .permissive)

/-- PURGE_TIMER_EXPIRY (04 R68). -/
def execPurgeTimerExpiry (z : Zone) (s : State) : Host.Outcome State Fault Refusal :=
  .next (if (s.zone z).state = .purging ∧ s.due (s.zone z).purgeTimer then finish s (s.setZone z .ready) else s)

/-- READY_WINDOW_EXPIRY (04 R70). -/
def execReadyWindowExpiry (z : Zone) (s : State) : Host.Outcome State Fault Refusal :=
  .next (if (s.zone z).state = .ready ∧ s.due (s.zone z).readyTimer then finish s (s.setZone z .dark) else s)

/-- PROVING_WINDOW_EXPIRY: the proof of the channel has failed (04 R71, R72). -/
def execProvingWindowExpiry (c : Chan) (s : State) : Host.Outcome State Fault Refusal :=
  .next (if s.due ((s.chan c).proof.map Proof.window) then finish s (s.tripChannel c .lightOffFail) else s)

/-- The lowest own fuel channel of the zone with its SHUT line released (04 R75). -/
def State.lowestOpen (s : State) (z : Zone) : Option Chan :=
  (s.ownFuels z).find? fun c => (s.chan c).shutReleased

/-- FLAME_FAILURE_EXPIRY (04 R75). -/
def execFlameFailureExpiry (z : Zone) (s : State) : Host.Outcome State Fault Refusal :=
  .next (if (s.zone z).state = .lit ∧ s.due (s.zone z).flameTimer then
      match s.lowestOpen z with
      | some c => finish s (s.localTrip z .flameFailure (some c) none)
      | none =>
        if s.fuelClosed z then finish s (s.setZone z .dark)
        else finish s (s.mapZone z fun r => { r with flameTimer := none, flameLost := true })
    else s)

/-- FLICKER_EXPIRY: the oldest of three flickers turns 60 s old (04 R74). -/
def execFlickerExpiry (z : Zone) (s : State) : Host.Outcome State Fault Refusal :=
  .next (if s.cond (idFlameUnstable z) && s.due ((s.zone z).flickers[2]?.map fun x => x.moment + seconds 60) then
      finish s (s.setCond (idFlameUnstable z) false none)
    else s)

/-- AIR_FAILURE_EXPIRY: the air-failure clock runs out (04 R77). -/
def execAirFailureExpiry (z : Zone) (s : State) : Host.Outcome State Fault Refusal :=
  .next (if (s.zone z).state = .lit ∧ s.due (s.zone z).airClock then
      finish s (s.localTrip z .airFailure none (some (s.firing z).air.supply))
    else s)

/-- ESD_ASSERTION: every participating zone in PURGING, READY or LIT trips, in NORMAL or ISOLATED (04 R78). -/
def execEsdAssertion (s : State) : Host.Outcome State Fault Refusal :=
  .next (if s.esd then s
    else
      let s1 := { s with esd := true }
      if s.decides then
        finish s (allZones.foldl (fun s z =>
          if s.participates z && (s.zone z).state.trippable then s.localTrip z .tripInput none none else s) s1)
      else s1)

/-- ESD_RELEASE (04 R78). -/
def execEsdRelease (s : State) : Host.Outcome State Fault Refusal := .next { s with esd := false }

/-- ZONE_TRIP (04 R79). -/
def execZoneTrip (zone : Word) (s : State) : Host.Outcome State Fault Refusal :=
  .next (s.request 10 [zone] fun s =>
    match s.zoneArg zone with
    | none => s.refuse 10 .badArgument
    | some z =>
      if (s.zone z).state.trippable then finish s ((s.localTrip z .hostTrip none none).ok 10)
      else s.refuse 10 .state)

/-- ZONE_RESET (04 R79). -/
def execZoneReset (zone : Word) (s : State) : Host.Outcome State Fault Refusal :=
  .next (s.request 9 [zone] fun s =>
    match s.zoneArg zone with
    | none => s.refuse 9 .badArgument
    | some z =>
      if (s.zone z).state = .dark then (s.mapZone z fun r => { r with firstOut := none }).ok 9
      else s.refuse 9 .state)

/-- TRIP_TAKEN: ZS takes the TRIP at the head of the receive queue (04 R82). -/
def execTripTaken (s : State) : Host.Outcome State Fault Refusal :=
  .next (match s.rxHead .trip with
    | none => s
    | some f =>
      match parseTrip f.payload with
      | none => s.popRx
      | some m =>
        if s.decides && s.participates m.zone then
          finish s (s.popRx.takeEpoch m.zone (s.peerEntry f.origin (some m.cause) m.channel m.epoch))
        else s.popRx)

/-- TRIP_HOLD_EXPIRY: the zone enters DARK once every own valve is closed (04 R86). -/
def execTripHoldExpiry (z : Zone) (s : State) : Host.Outcome State Fault Refusal :=
  .next (match (s.zone z).tripHold with
    | .running t =>
      if (s.zone z).state = .tripped ∧ t ≤ s.now then
        finish s ((s.mapZone z fun r => { r with tripHold := .expired }).judgeHold z)
      else s
    | .stopped => s
    | .expired => s)

end Sys2Proof.Machine
end

