-- ==== Sys2Proof/Machine/Dispatch.lean ====
section
/-! DEFINITION. The dispatch: one arm for each command, one direct call of its meaning. -/

namespace Sys2Proof.Machine

def exec (i : Instr) (s : State) : Host.Outcome State Fault Refusal :=
  match i with
  | .powerOnReset => Sys2Proof.Machine.execPowerOnReset s
  | .resetNAssertion => Sys2Proof.Machine.execResetNAssertion s
  | .stationReset => Sys2Proof.Machine.execStationReset s
  | .deferralExpiry => Sys2Proof.Machine.execDeferralExpiry s
  | .lineYield => Sys2Proof.Machine.execYield s
  | .collision => Sys2Proof.Machine.execCollision s
  | .transmitCompletion => Sys2Proof.Machine.execTransmitCompletion s
  | .receiveFrame bytes oddBits => Sys2Proof.Machine.execReceiveFrame bytes oddBits s
  | .lineDegradedExpiry => Sys2Proof.Machine.execLineDegradedExpiry s
  | .duplicateStationExpiry => Sys2Proof.Machine.execDuplicateStationExpiry s
  | .lineIsolationTimeout => Sys2Proof.Machine.execLineIsolationTimeout s
  | .periodicSnapOffer => Sys2Proof.Machine.execPeriodicSnapOffer s
  | .changeSnapOffer => Sys2Proof.Machine.execChangeSnapOffer s
  | .snapTaken => Sys2Proof.Machine.execSnapTaken s
  | .staleTimeout n => Sys2Proof.Machine.execStaleTimeout n s
  | .expiredTimeout n => Sys2Proof.Machine.execExpiredTimeout n s
  | .absentPeerTimeout n => Sys2Proof.Machine.execAbsentPeerTimeout n s
  | .listenEnd => Sys2Proof.Machine.execListenEnd s
  | .fieldRecordFail received gap => Sys2Proof.Machine.execFieldRecordFail received gap s
  | .sampleRecord source quantity value quality elapsed => Sys2Proof.Machine.execSampleRecord source quantity value quality elapsed s
  | .sampleHoldExpiry p => Sys2Proof.Machine.execSampleHoldExpiry p s
  | .fieldPortSilent => Sys2Proof.Machine.execFieldPortSilent s
  | .commandSend => Sys2Proof.Machine.execCommandSend s
  | .actuatorReply channel tag code => Sys2Proof.Machine.execActuatorReply channel tag code s
  | .replyWindowExpiry c => Sys2Proof.Machine.execReplyWindowExpiry c s
  | .actuatorSlowExpiry c => Sys2Proof.Machine.execActuatorSlowExpiry c s
  | .rampStep c => Sys2Proof.Machine.execRampStep c s
  | .unlockedClockExpiry c => Sys2Proof.Machine.execUnlockedClockExpiry c s
  | .acquiringClockExpiry c => Sys2Proof.Machine.execAcquiringClockExpiry c s
  | .channelStart channel => Sys2Proof.Machine.execChannelStart channel s
  | .channelStop channel => Sys2Proof.Machine.execChannelStop channel s
  | .resetTrip channel => Sys2Proof.Machine.execResetTrip channel s
  | .releaseLockout channel => Sys2Proof.Machine.execReleaseLockout channel s
  | .fanStartClockExpiry c => Sys2Proof.Machine.execFanStartClockExpiry c s
  | .fanLowFlowExpiry c => Sys2Proof.Machine.execFanLowFlowExpiry c s
  | .zonePurge zone => Sys2Proof.Machine.execZonePurge zone s
  | .purgeTimerExpiry z => Sys2Proof.Machine.execPurgeTimerExpiry z s
  | .readyWindowExpiry z => Sys2Proof.Machine.execReadyWindowExpiry z s
  | .provingWindowExpiry c => Sys2Proof.Machine.execProvingWindowExpiry c s
  | .flameFailureExpiry z => Sys2Proof.Machine.execFlameFailureExpiry z s
  | .flickerExpiry z => Sys2Proof.Machine.execFlickerExpiry z s
  | .airFailureExpiry z => Sys2Proof.Machine.execAirFailureExpiry z s
  | .esdAssertion => Sys2Proof.Machine.execEsdAssertion s
  | .esdRelease => Sys2Proof.Machine.execEsdRelease s
  | .zoneTrip zone => Sys2Proof.Machine.execZoneTrip zone s
  | .zoneReset zone => Sys2Proof.Machine.execZoneReset zone s
  | .tripTaken => Sys2Proof.Machine.execTripTaken s
  | .tripHoldExpiry z => Sys2Proof.Machine.execTripHoldExpiry z s
  | .setDemand zone target => Sys2Proof.Machine.execSetDemand zone target s
  | .demandTaken => Sys2Proof.Machine.execDemandTaken s
  | .demandSlewStep z => Sys2Proof.Machine.execDemandSlewStep z s
  | .passPeriod z => Sys2Proof.Machine.execPassPeriod z s
  | .passCompletion z => Sys2Proof.Machine.execPassCompletion z s
  | .demandUnreachableExpiry z => Sys2Proof.Machine.execDemandUnreachableExpiry z s
  | .blowThroughExpiry c => Sys2Proof.Machine.execBlowThroughExpiry c s
  | .clinkerTempHighExpiry => Sys2Proof.Machine.execClinkerTempHighExpiry s
  | .ackAlarm origin id seq => Sys2Proof.Machine.execAckAlarm origin id seq s
  | .ackTaken => Sys2Proof.Machine.execAckTaken s
  | .shelve id minutes => Sys2Proof.Machine.execShelve id minutes s
  | .unshelve id => Sys2Proof.Machine.execUnshelve id s
  | .shelveExpiry id => Sys2Proof.Machine.execShelveExpiry id s
  | .alertTaken => Sys2Proof.Machine.execAlertTaken s
  | .timeBaseTick => Sys2Proof.Machine.execTimeBaseTick s
  | .shiftBoundary => Sys2Proof.Machine.execShiftBoundary s
  | .crystalCheckPass => Sys2Proof.Machine.execCrystalCheckPass s
  | .crystalCheckFail => Sys2Proof.Machine.execCrystalCheckFail s
  | .runningSecond c => Sys2Proof.Machine.execRunningSecond c s
  | .setTime day secHigh secLow => Sys2Proof.Machine.execSetTime day secHigh secLow s
  | .shiftTaken => Sys2Proof.Machine.execShiftTaken s
  | .transactionStart => Sys2Proof.Machine.execTransactionStart s
  | .answerDelivered => Sys2Proof.Machine.execAnswerDelivered s
  | .transactionEnd words cut => Sys2Proof.Machine.execTransactionEnd words cut s
  | .loadConfig words => Sys2Proof.Machine.execLoadConfig words s
  | .readConfig => Sys2Proof.Machine.execReadConfig s
  | .readStatus => Sys2Proof.Machine.execReadStatus s
  | .readChannel channel => Sys2Proof.Machine.execReadChannel channel s
  | .readZone zone => Sys2Proof.Machine.execReadZone zone s
  | .readPeer station => Sys2Proof.Machine.execReadPeer station s
  | .readRun collection slot start count => Sys2Proof.Machine.execReadRun collection slot start count s
  | .readLineStats => Sys2Proof.Machine.execReadLineStats s
  | .resetNRelease => Sys2Proof.Machine.execResetNRelease s

end Sys2Proof.Machine
end

