-- ==== Sys2Proof/Safety.lean ====
section
/-! DEFINITION. What the claims speak of: the part of the state that nothing but a command of its own writes,
and the invariants that every step keeps. -/

namespace Sys2Proof.Machine

/-! ### The still part -/

/-- Of a channel record: the heats that the configuration and the samples give, and the sample points. -/
def Channel.still (ch : Channel) : Channel :=
  { Channel.initial with
    hmin := ch.hmin
    hmax := ch.hmax
    actual := ch.actual
    feedPt := ch.feedPt
    valvePt := ch.valvePt
    faultPt := ch.faultPt
    flowPt := ch.flowPt
    bedPt := ch.bedPt }

/-- Of an account: everything but the count of trips and the running remainder, which follow the channel's
state. -/
def Account.still (a : Account) : Account := { a with count := 0, runRem := 0, runFrom := none }

/-- What no offer of a frame other than a TRIP, no notice and no write of a condition changes: all but the transmit
queue with its sequence counters and accepted mark, the SNAP's publishing, the unannounced marks, the alarm list,
and the notice set, which are blanked. -/
def State.plant (s : State) : State :=
  { s with
    li := { s.li with
      tx := []
      seqs := Vector.replicate 6 0
      acceptedMark := false }
    pt := { s.pt with rollIndex := 0, changeMark := false, lastOffer := 0, published := Published.initial }
    fa := { s.fa with demands := s.fa.demands.map fun d => { d with unannounced := false } }
    al := AlarmList.initial
    sr := { s.sr with ring := s.sr.ring.map fun r => { r with unannounced := false } }
    sp := { s.sp with notices := Notices.none } }

/-- The still part of the state: of `plant`, what no retry, zone test, trip, pass or SNAP offer that follows an
event writes. Blanked are also the channels' control, the commands to the concentrator, the zone records, FA's
passes, CR, the running time and the trip counts of the channels. -/
def State.still (s : State) : State :=
  { s.plant with
    ce := { s.ce with
      chans := s.ce.chans.map Channel.still
      waiting := []
      busyUntil := 0
      onPort := none }
    zs := ZoneSupervisor.initial
    fa := { s.plant.fa with zones := Vector.replicate 4 Firing.initial }
    cr := Cooler.initial
    sr := { s.plant.sr with accts := s.sr.accts.map Account.still } }

/-! ### Conditions that the claims start from -/

/-- The request with this code and these arguments is in work at a configured station (10 R184, R186). -/
def State.serves (s : State) (code : Nat) (args : List Word) : Prop :=
  s.sp.buffer = .inWork (b8 code) args ∧ s.pt.mode ≠ .unconfigured

/-- The head of the receive queue is this frame, of this class (01 R16). -/
def State.heads (s : State) (cls : FrameClass) (f : RxFrame) : Prop := s.li.rx.head? = some f ∧ f.cls = cls

/-- The cause of a TRIPPED channel counts as cleared, by the table of 03 R59. -/
def State.cleared (s : State) (c : Chan) (f : FuelCfg) : Prop :=
  match (s.chan c).cause with
  | some .zoneTrip => (s.zone f.zone).state ≠ .tripped
  | some .actuatorFailure => True
  | some .feederFault => (s.chan c).faultPt.cond = .current ∧ (s.chan c).faultPt.last.getD 0 = 0
  | some .lightOffFail => True
  | none => True

/-- A FRESH peer that is not in STARTING reports the zone TRIPPED with an epoch newer than the held one (04 R87). -/
def State.reportsTrip (s : State) (z : Zone) (n : Station) : Prop :=
  (s.peer n).fresh = .fresh ∧ (s.peer n).mode ≠ some .starting
    ∧ ∃ b e, (s.peer n).block? z = some b ∧ b.state = .tripped ∧ b.epoch = some e
      ∧ ∀ h, (s.zone z).epoch = some h → serialNewer e h = true

/-- The place of an entry in the order of 07 R143 for a raise of an id of this priority: 0 to 2 for the three kinds of
candidate, 3 for an entry that is never displaced. -/
def AlarmEntry.displaceRank (e : AlarmEntry) (priority : Nat) : Nat :=
  if e.state = .clearedUnack ∧ alarmPriority e.id = 3 then 0
  else if e.state = .clearedUnack ∧ alarmPriority e.id = 2 ∧ priority = 2 then 1
  else if e.state = .activeAcked ∧ alarmPriority e.id = 3 then 2
  else 3

/-! ### Well-formed frames (11 R199 to R201) -/

/-- A time stamp as three words can carry it. -/
def Stamp.fits (t : Stamp) : Prop := t.sec < 131072

/-- A TRIP frame carries the cause of a local trip (11 R201). -/
def TripMsg.fits (m : TripMsg) : Prop := m.cause ≠ .peerTrip

/-- An ALERT frame's numbers fit their fields. -/
def AlertMsg.fits (m : AlertMsg) : Prop :=
  m.priority < 256 ∧ m.time.fits ∧ ∀ v, m.value = some v → v < 65536

/-- A SHIFT frame's numbers fit their fields. -/
def ShiftMsg.fits (m : ShiftMsg) : Prop :=
  m.summary.energy < 4294967296 ∧ m.summary.volume < 4294967296 ∧ m.summary.zoneTrips < 65536 ∧ m.summary.p1 < 65536

/-- A roll-call entry's numbers fit their fields. -/
def RollEntry.fits (e : RollEntry) : Prop := e.id < 256 ∧ e.priority < 256 ∧ e.state < 256 ∧ e.time.fits

/-- A zone block's numbers fit their fields. -/
def ZoneBlock.fits (b : ZoneBlock) : Prop := ∀ d, b.demand = some d → d.target < 65536

/-- A channel summary is in the ranges of 02 R27. -/
def Summary.fits : Summary → Prop
  | .fuel f => f.state.fuelCode ≠ 0 ∧ f.rank ≤ 7 ∧ f.hmin < 65536 ∧ f.hmaxEff < 65536 ∧ f.alloc < 65536
      ∧ f.actual < 65536 ∧ 600 ≤ f.airFactor ∧ f.airFactor ≤ 1400
  | .fan f => f.state.fanCode ≠ 0 ∧ f.flow < 65536 ∧ f.recup ≤ 1000

/-- A SNAP is in the ranges of 02 R24, R26 and R27. -/
def SnapMsg.fits (m : SnapMsg) : Prop :=
  m.mode ≠ .unconfigured ∧ m.listed ≤ 48 ∧ m.index ≤ 47 ∧ m.zones.length ≤ 4 ∧ m.chans.length ≤ 8
    ∧ (m.zones.map ZoneBlock.zone).Nodup ∧ (m.chans.map Summary.chan).Nodup
    ∧ (∀ e, m.entry = some e → e.fits) ∧ (∀ b ∈ m.zones, b.fits) ∧ (∀ x ∈ m.chans, x.fits)

/-! ### Invariants -/

/-- A configuration is held exactly in the modes STARTING, NORMAL and ISOLATED (02 R34). -/
def State.ModeSound (s : State) : Prop := s.pt.mode = .unconfigured ↔ s.config = none

/-- The transmit queue holds at most 12 frames in the order of 01 R10, one of them in send, at most one SNAP,
and of the waiting ALERTs and DEMANDs at most one for each key; the receive queue holds at most 8 frames;
without a configuration both are empty (01 R3, R9 to R11, R16, R19). -/
def State.LineSound (s : State) : Prop :=
  s.li.tx.length ≤ 12
    ∧ s.li.tx.Pairwise (fun f g => f.cls.code ≤ g.cls.code)
    ∧ s.li.tx.countP TxFrame.inSend ≤ 1
    ∧ s.li.tx.countP (fun f => f.cls == .snap) ≤ 1
    ∧ (s.li.tx.filter fun f => !f.inSend).Pairwise (fun f g =>
        ¬ ((f.cls = .alert ∨ f.cls = .demand) ∧ matchesKey f.cls f.payload g = true))
    ∧ s.li.rx.length ≤ 8
    ∧ (s.pt.mode = .unconfigured → s.li.tx = [] ∧ s.li.rx = [])

/-- An entry agrees with its condition and its shelve (07 R136, R140). -/
def AlarmEntry.agrees (e : AlarmEntry) (cond : Bool) : Prop :=
  match e.state with
  | .activeUnack => cond = true ∧ e.shelveEnd = none
  | .activeAcked => cond = true ∧ e.shelveEnd = none
  | .clearedUnack => cond = false ∧ e.shelveEnd = none
  | .shelved => e.shelveEnd.isSome = true

/-- The own alarm list: ids and raise sequences are distinct, at most 27 entries are of priority 2 or 3, every
entry agrees with its condition, the pending ids are the true conditions of priority 2 or 3 that are not listed,
and an id is pending only while 27 entries of those priorities are listed (07 R133 to R136, R143, R144). -/
def State.AlarmSound (s : State) : Prop :=
  (s.al.list.map AlarmEntry.id).Nodup
    ∧ (s.al.list.map AlarmEntry.seq).Nodup
    ∧ s.al.lowCount ≤ 27
    ∧ (∀ e ∈ s.al.list, e.agrees (s.cond e.id))
    ∧ (∀ id, (s.alarm id).waiting = true ↔ (s.cond id = true ∧ s.al.entry? id = none))
    ∧ (∀ id, (s.alarm id).waiting = true → alarmPriority id ≠ 1 ∧ s.al.lowCount = 27)
    ∧ (s.config = none → s.al.list = [] ∧ ∀ id, s.cond id = false)

/-- What an acknowledgement of an occurrence of the own list makes of the state, `v`, and the reason its request is
refused with, absent for OK (07 R138, R139). -/
def State.acks (s : State) (id : AlarmId) (seq : Word) (v : State) (r : Option Reason) : Prop :=
  match s.al.entry? id with
  | none => v = s ∧ r = some .stale
  | some e =>
    (e.seq ≠ seq → v = s ∧ r = some .stale)
      ∧ (e.seq = seq → match e.state with
        | .activeUnack => r = none ∧ v.plant = s.plant
            ∧ v.al.list = s.al.list.map fun x => if x.id = id then { x with state := .activeAcked } else x
        | .clearedUnack => r = none ∧ v.plant = s.plant
            ∧ (s.AlarmSound → v.al.entry? id = none ∧ ∀ x ∈ s.al.list, x.id ≠ id → x ∈ v.al.list)
        | .activeAcked => v = s ∧ r = none
        | .shelved => v = s ∧ r = some .state)

/-- The floor view holds at most 64 entries, no two of one origin and id, and is full only with 64
(08 R150, R153). -/
def State.ViewSound (s : State) : Prop :=
  s.fv.view.length ≤ 64
    ∧ s.fv.view.Pairwise (fun m k => ¬ (m.origin = k.origin ∧ m.id = k.id))
    ∧ (s.fv.full = true → s.fv.view.length = 64)

/-- The second of day is below 86400; the zone trip count is at most 65535; the ring holds at most 8 records and the floor summary at most 4 slots of
distinct numbers, each with its entries in ascending station order (09 R163, R171, R177, R179). -/
def State.ShiftSound (s : State) : Prop :=
  s.sr.sec < 86400
    ∧ s.sr.zoneTrips ≤ 65535
    ∧ s.sr.ring.length ≤ 8
    ∧ s.sr.summary.length ≤ 4
    ∧ (s.sr.summary.map SummarySlot.number).Nodup
    ∧ ∀ sl ∈ s.sr.summary, sl.entries.Pairwise (fun a b => a.station < b.station)

/-- The zone's state is one that ESD_N trips: PURGING, READY or LIT (04 R78). -/
def State.active (s : State) (z : Zone) : Prop := (s.zone z).state.trippable = true

/-- Only a participating zone leaves DARK, only in a mode that takes zone decisions, and with ESD_N asserted no
zone is PURGING, READY or LIT (04 R64, R78, R87). -/
def State.ZoneSound (s : State) : Prop :=
  (∀ z, (s.zone z).state ≠ .dark → s.decides = true ∧ s.participates z = true)
    ∧ (s.esd = true → ∀ z, ¬ s.active z)

/-- A SHUT line is released only on a usable fuel channel whose zone is READY or LIT (03 R53). -/
def State.ShutSound (s : State) : Prop :=
  ∀ c, (s.chan c).shutReleased = true →
    ∃ f, s.fuel? c = some f ∧ (s.zone f.zone).state.firesFuel = true

end Sys2Proof.Machine
end

