-- ==== Sys2Proof/Certificates/Slice0/Obligations.lean ====
section
/-! DEFINITION. The statements for the provers. In them `finish s u` is the state after what follows every event
that took the station from `s` to `u` (log 8); `t.still` is the part of `t` that nothing that follows an event
writes, so that an equation of two still parts says what a command wrote there and that it wrote nothing else. -/

open Sys2Proof Sys2Proof.Machine

/-! ### The step and the resets -/

/-- A step takes the command at the front of the queue and leaves the others. -/
def Obligations.StepTakesFront : Prop :=
  ∀ (c : Instr) (rest : List Instr) (s : State), step { s with pending := c :: rest } = exec c { s with pending := rest }

/-- The model's choice (log 2): on an empty queue one bit time of 4 us passes, and nothing else happens. -/
def Obligations.StepIdles : Prop :=
  ∀ s : State, s.pending = [] → step s = .next { s with now := s.now + 1 }

/-- Every command of the table runs in every state, takes no time and leaves the queue alone (95; log 2, log 7). -/
def Obligations.EveryCommandGoesOn : Prop :=
  ∀ (c : Instr) (s : State), ∃ t, exec c s = .next t ∧ t.pending = s.pending ∧ t.now = s.now

/-- The values a power-on reset leaves, block by block (01 R20, 02 R37, 03 R63, 04 R89, 05 R113, 06 R129, 07 R149,
08 R162, 09 R182, 10 R197). The invariants hold after a power-on reset. -/
def Obligations.ResetState : Prop :=
  (State.reset.pending = [] ∧ State.reset.config = none ∧ State.reset.pt.mode = .unconfigured
    ∧ State.reset.li.tx = [] ∧ State.reset.li.rx = [] ∧ (∀ k, State.reset.li.seqs.get k = 0)
    ∧ State.reset.li.sent = 0 ∧ State.reset.li.discardTimes = [] ∧ State.reset.li.lastDuplicate = none
    ∧ State.reset.pt.rollIndex = 0 ∧ State.reset.pt.changeMark = false
    ∧ (∀ c, (State.reset.chan c).state = .off ∧ (State.reset.chan c).shutReleased = false
        ∧ (State.reset.chan c).tagCtr = 0 ∧ (State.reset.chan c).inFlight = none
        ∧ (State.reset.chan c).history = none ∧ (State.reset.chan c).setpoint = 0
        ∧ (State.reset.chan c).feedPt = ⟨.noValue, none, none, 0⟩)
    ∧ (∀ z, (State.reset.zone z).state = .dark ∧ (State.reset.zone z).epoch = none
        ∧ (State.reset.zone z).firstOut = none ∧ (State.reset.zone z).snapshot = none)
    ∧ (∀ z, (State.reset.demand z).known = none ∧ (State.reset.demand z).dEff = 0
        ∧ (State.reset.firing z).pass = none ∧ (State.reset.firing z).air.passCount = 0)
    ∧ (∀ c, (State.reset.reg c).last = none ∧ (State.reset.reg c).frozen = false)
    ∧ (∀ id, State.reset.cond id = false ∧ (State.reset.alarm id).waiting = false)
    ∧ State.reset.al.list = [] ∧ State.reset.al.counter = 0 ∧ State.reset.fv.view = [] ∧ State.reset.fv.full = false
    ∧ State.reset.sr.day = 0 ∧ State.reset.sr.sec = 0 ∧ State.reset.sr.valid = false ∧ State.reset.sr.shift = none
    ∧ State.reset.sr.ring = [] ∧ State.reset.sr.summary = [] ∧ State.reset.sr.incomplete = true
    ∧ State.reset.sp.buffer = .empty ∧ State.reset.sp.portErrors = 0
    ∧ State.reset.sp.notices = { Notices.none with configNeeded := true })
    ∧ (State.reset.ModeSound ∧ State.reset.LineSound ∧ State.reset.AlarmSound ∧ State.reset.ViewSound
    ∧ State.reset.ShiftSound ∧ State.reset.ZoneSound ∧ State.reset.ShutSound)

/-- POWER_ON_RESET gives every block its power-on values (10 R196). That it leaves the input pins ESD_N and RESET_N as
they are (`t.esd = s.esd`, `t.resetHeld = s.resetHeld`) is the model's choice (log 3): R196 says nothing of the pins.
An asserted RESET_N makes no further reset until it is released; STATION_RESET in work makes the reset that an
assertion makes, and gives no answer (10 R186, R196). -/
def Obligations.ResetCommands : Prop :=
  (∀ s : State, ∃ t, exec .powerOnReset s = .next t
    ∧ t.config = none ∧ t.pt = State.reset.pt ∧ t.ce = State.reset.ce ∧ t.zs = State.reset.zs
    ∧ t.fa = State.reset.fa ∧ t.cr = State.reset.cr ∧ t.al = State.reset.al ∧ t.fv = State.reset.fv
    ∧ t.sr = { State.reset.sr with crystalSince := s.now }
    ∧ t.li.tx = [] ∧ t.li.rx = [] ∧ (∀ k, t.li.seqs.get k = 0)
    ∧ t.li.sent = 0 ∧ t.li.collisions = 0 ∧ t.li.discards = 0 ∧ t.li.crcDrops = 0 ∧ t.li.overruns = 0
    ∧ t.li.duplicates = 0
    ∧ t.sp.buffer = .empty ∧ t.sp.portErrors = 0 ∧ t.sp.notices = State.reset.sp.notices
    ∧ t.esd = s.esd ∧ t.resetHeld = s.resetHeld)
    ∧ ((∀ s : State, s.resetHeld = true → exec .resetNAssertion s = .next s)
    ∧ (∀ s : State, exec .resetNRelease s = .next { s with resetHeld := false })
    ∧ ∀ s : State, s.serves 21 [] → s.resetHeld = false →
        ∃ t, exec .stationReset s = .next t ∧ exec .resetNAssertion s = .next { t with resetHeld := true }
          ∧ t.sp.buffer = .empty ∧ t.pt.mode = (if s.config = none then .unconfigured else .starting))

/-- RESET_N_ASSERTION with a configuration held: the station is in STARTING with its configuration. Kept are the epochs,
first-out records and snapshots of the zones, lockouts with their causes, repeat histories, the time base, the
crystal check, the shift and lifetime totals, remainders and counts, the ring (but for its announce marks, which AL's
and PT's first offers may write) and the floor summary. The controller, the floor view, the peer records, the demands
and the passes start anew. With no channel LOCKED_OUT and the clock not lost, the alarm list is empty and the raise
counter, the last sequences and the shift counts are kept (01 R20, 02 R37, 03 R63, 04 R89, 05 R113, 06 R129, 07 R149,
08 R162, 09 R182, 10 R196). With no configuration held the station is in UNCONFIGURED: the same is kept, the other
blocks start anew, no condition holds and CONFIG_NEEDED is the only notice; a time without a reset value is 0 by the
model's choice (log 5) (02 R34, 07 R149, 09 R182, 10 R197). -/
def Obligations.StationResetKeeps : Prop :=
  (∀ s : State, s.config = none → s.resetHeld = false → ∃ t, exec .resetNAssertion s = .next t
      ∧ t.resetHeld = true ∧ t.config = none ∧ t.pt = State.reset.pt ∧ t.fa = State.reset.fa
      ∧ t.cr = State.reset.cr ∧ t.fv = State.reset.fv
      ∧ t.li.tx = [] ∧ t.li.rx = [] ∧ (∀ k, t.li.seqs.get k = 0) ∧ t.li.sent = 0 ∧ t.li.collisions = 0
      ∧ t.li.discards = 0 ∧ t.li.crcDrops = 0 ∧ t.li.overruns = 0 ∧ t.li.duplicates = 0
      ∧ t.ce = { State.reset.ce with chans := t.ce.chans }
      ∧ (∀ c, t.chan c = { State.reset.chan c with
            state := if (s.chan c).state = .lockedOut then .lockedOut else .off
            cause := if (s.chan c).state = .lockedOut then (s.chan c).cause else none
            history := (s.chan c).history })
      ∧ (∀ z, t.zone z = { State.reset.zone z with
            epoch := (s.zone z).epoch, firstOut := (s.zone z).firstOut, snapshot := (s.zone z).snapshot })
      ∧ t.al.list = [] ∧ t.al.counter = s.al.counter ∧ t.al.p1 = s.al.p1 ∧ t.al.p2 = s.al.p2 ∧ t.al.p3 = s.al.p3
      ∧ (∀ id, t.cond id = false ∧ (t.alarm id).waiting = false ∧ (t.alarm id).announce = false
          ∧ (t.alarm id).lastSeq = (s.alarm id).lastSeq ∧ (t.alarm id).lastTime = (s.alarm id).lastTime
          ∧ (t.alarm id).lastValue = (s.alarm id).lastValue
          ∧ (t.alarm id).shiftRaises = (s.alarm id).shiftRaises)
      ∧ (∃ accts, t.sr = { s.sr with accts := accts })
      ∧ (∀ c, (t.acct c).runFrom = none ∧ { t.acct c with runRem := 0, runFrom := none }
          = { s.acct c with runRem := 0, runFrom := none })
      ∧ t.sp.buffer = .empty ∧ t.sp.portErrors = 0 ∧ t.sp.notices = { Notices.none with configNeeded := true })
  ∧ ∀ (s : State) (cfg : Config), s.config = some cfg → s.resetHeld = false →
    ∃ t, exec .resetNAssertion s = .next t
      ∧ t.resetHeld = true ∧ t.config = some cfg ∧ t.pt.mode = .starting ∧ t.pt.startTime = s.now
      ∧ t.pt.rollIndex = 0 ∧ (∀ n, t.peer n = PeerRecord.absentRecord (cfgExpects cfg n))
      ∧ t.li.rx = [] ∧ t.li.sent = 0 ∧ t.li.collisions = 0 ∧ t.li.discards = 0
      ∧ (∀ c, (t.chan c).history = (s.chan c).history ∧ (t.chan c).shutReleased = false
          ∧ (t.chan c).proof = none ∧ (t.chan c).setpoint = 0
          ∧ ((s.chan c).state = .lockedOut → s.fuel? c ≠ none →
              (t.chan c).state = .lockedOut ∧ (t.chan c).cause = (s.chan c).cause)
          ∧ ((s.chan c).state ≠ .lockedOut → s.fuel? c ≠ none → (t.chan c).state = .off))
      ∧ (∀ z, (t.zone z).state = .dark ∧ (t.zone z).epoch = (s.zone z).epoch
          ∧ (t.zone z).firstOut = (s.zone z).firstOut ∧ (t.zone z).snapshot = (s.zone z).snapshot)
      ∧ (∀ z, (t.demand z).known = none ∧ (t.firing z).pass = none)
      ∧ t.cr = State.reset.cr ∧ t.fv = State.reset.fv
      ∧ ((∀ c, (s.chan c).state ≠ .lockedOut) → s.sr.clockLost = false →
          t.al.list = [] ∧ t.al.counter = s.al.counter ∧ t.al.p1 = s.al.p1 ∧ t.al.p2 = s.al.p2 ∧ t.al.p3 = s.al.p3
            ∧ ∀ id, (t.alarm id).lastSeq = (s.alarm id).lastSeq ∧ (t.alarm id).shiftRaises = (s.alarm id).shiftRaises
              ∧ t.cond id = false)
      ∧ t.sr.day = s.sr.day ∧ t.sr.sec = s.sr.sec ∧ t.sr.valid = s.sr.valid ∧ t.sr.shift = s.sr.shift
      ∧ t.sr.crystal = s.sr.crystal ∧ t.sr.summary = s.sr.summary
      ∧ t.sr.ring.map (fun x => { x with unannounced := false })
          = s.sr.ring.map (fun x => { x with unannounced := false })
      ∧ (∀ c, (t.acct c).mass = (s.acct c).mass ∧ (t.acct c).energy = (s.acct c).energy
          ∧ (t.acct c).run = (s.acct c).run ∧ (t.acct c).count = (s.acct c).count
          ∧ (t.acct c).lifeMass = (s.acct c).lifeMass ∧ (t.acct c).lifeEnergy = (s.acct c).lifeEnergy
          ∧ (t.acct c).lifeRun = (s.acct c).lifeRun
          ∧ (t.acct c).massRem = (s.acct c).massRem ∧ (t.acct c).energyRem = (s.acct c).energyRem)
      ∧ t.sp.buffer = .empty ∧ t.sp.portErrors = 0 ∧ t.sp.notices.configNeeded = false

/-! ### The floor line -/

/-- DEFERRAL_EXPIRY starts the head frame once the quiet time has reached its deferral of 80 us plus
(class x 16 + station - 1 + back-off) slots of 16 us, and does nothing before; YIELD ends the count of quiet
time (01 R3, R4; in bit times of 4 us). -/
def Obligations.LineWaits : Prop :=
  (∀ (s : State) (cfg : Config) (f : TxFrame) (rest : List TxFrame) (q : Nat),
      s.config = some cfg → s.pt.mode ≠ .unconfigured → s.li.tx = f :: rest → s.li.tx.any TxFrame.inSend = false →
      s.li.quietSince = some q →
      exec .deferralExpiry s = .next
        (if q + 20 + 4 * (f.cls.code * 16 + cfg.station.val + 8 * min f.collisions 7) ≤ s.now then
          { s with li := { s.li with tx := { f with inSend := true } :: rest, quietSince := none } }
        else s))
    ∧ ∀ s : State, s.li.tx.any TxFrame.inSend = false →
        exec .lineYield s = .next { s with li := { s.li with quietSince := none } }

/-- COLLISION ends the send: it is counted, and the line turns quiet two bit times later (log 4, the model's choice).
With `n` the count raised by the collision (a TRIP's stays at 255): without a newer waiting ALERT or DEMAND of its key
the frame stays waiting in its place with count `n`; with one, the older frame leaves and the newer takes the count. A
frame other than a TRIP whose count reaches 8 leaves the queue as a discard, and its owner's unannounced mark is set. A
TRIP with eight collisions, and the fourth discard within 10 s, make LINE_DEGRADED true; both are degrading events
(01 R5 to R8, R11, R13). -/
def Obligations.CollisionEndsSend : Prop :=
  ∀ (s : State) (a b : List TxFrame) (f : TxFrame) (n : Nat), s.li.tx = a ++ f :: b → f.inSend = true →
    (∀ g ∈ a ++ b, g.inSend = false) →
    n = (if f.cls = .trip then min (f.collisions + 1) 255 else f.collisions + 1) →
    ∃ v u, exec .collision s = .next (finish s u)
      ∧ v.still = ({ s with li := { s.li with
          collisions := s.li.collisions + 1
          quietSince := some (s.now + 2)
          discards := if f.cls ≠ .trip ∧ 8 ≤ n then s.li.discards + 1 else s.li.discards
          discardTimes := if f.cls ≠ .trip ∧ 8 ≤ n then (s.now :: s.li.discardTimes).take 4 else s.li.discardTimes
          lastDegrading := if 8 ≤ n then some s.now else s.li.lastDegrading } } : State).still
      ∧ ((∀ g ∈ a ++ b, ¬ ((f.cls = .alert ∨ f.cls = .demand) ∧ matchesKey f.cls f.payload g = true)) →
          v.li.tx = if f.cls ≠ .trip ∧ 8 ≤ n then
              (a ++ { f with inSend := false, collisions := n } :: b).erase { f with inSend := false, collisions := n }
            else a ++ { f with inSend := false, collisions := n } :: b)
      ∧ (∀ (c d : List TxFrame) (g : TxFrame), f.cls = .alert ∨ f.cls = .demand → a ++ b = c ++ g :: d →
          matchesKey f.cls f.payload g = true → (∀ x ∈ c, matchesKey f.cls f.payload x = false) →
          v.li.tx = if 8 ≤ n then c ++ d else c ++ { g with collisions := n } :: d)
      ∧ (8 ≤ n → (f.cls = .alert → ∀ id, alarmIdOf (hiByte (f.payload.headD 0)).toNat = some id →
            (v.alarm id).announce = true)
          ∧ (f.cls = .demand → ∀ z, zoneOf (hiByte (f.payload.headD 0)).toNat = some z →
            (v.demand z).unannounced = true)
          ∧ (f.cls = .shift → ∀ r ∈ v.sr.ring, r.closeId = f.closeId → r.unannounced = true))
      ∧ (∀ id, v.cond id = s.cond id)
      ∧ (8 ≤ n → f.cls = .trip ∨ (∃ t, s.li.discardTimes[2]? = some t ∧ s.now ≤ t + 2500000) →
          u = v.setCond idLineDegraded true none)
      ∧ (¬ (8 ≤ n ∧ (f.cls = .trip ∨ ∃ t, s.li.discardTimes[2]? = some t ∧ s.now ≤ t + 2500000)) → u = v)
      ∧ (u = v.setCond idLineDegraded true none → s.configured = true → u.cond idLineDegraded = true)

/-- TRANSMIT_COMPLETION: the frame in send, and no other, leaves the queue; it is counted, the time is recorded, the
accepted mark is cleared, the line turns quiet two bit times later (log 4, the model's choice), and a completed SNAP
moves the roll-call index to its resume index (01 R5, R18; 02 R25). AL, FA and SR then offer their unannounced frames
again: stated for one mark and a free place, an own demand's DEMAND, an id's ALERT, a record's SHIFT joins the queue and
the mark is cleared, and a demand that a peer has set since loses its mark without a frame (05 R92, 07 R146, 09 R178).
A station isolated for want of its own sends alone returns to NORMAL (01 R18, 02 R34). -/
def Obligations.CompletionLeavesQueue : Prop :=
  ∀ (s : State) (a b : List TxFrame) (f : TxFrame), s.li.tx = a ++ f :: b → f.inSend = true →
    (∀ g ∈ a ++ b, g.inSend = false) →
    ∃ u, exec .transmitCompletion s = .next (finish s u)
      ∧ u.still = ({ s with
          li := { s.li with
            sent := s.li.sent + 1
            completionTime := s.now
            quietSince := some (s.now + 2) }
          pt := { s.pt with
            mode := if s.pt.mode = .isolated ∧ ¬ (s.expectsPeers = true ∧ s.li.rxTime + 750000 ≤ s.now) then .normal
              else s.pt.mode } } : State).still
      ∧ (s.pt.mode ≠ .isolated → u.ce = s.ce ∧ u.zs = s.zs
        ∧ u.pt.rollIndex = (if f.cls = .snap then (if f.resume < s.al.list.length then f.resume else 0)
            else s.pt.rollIndex)
        ∧ ((∀ id, (s.alarm id).announce = false) → (∀ z, (s.demand z).unannounced = false) →
            (∀ r ∈ s.sr.ring, r.unannounced = false) →
            u.li.tx = a ++ b ∧ u.li.seqs = s.li.seqs ∧ u.li.acceptedMark = false ∧ u.al = s.al ∧ u.fa = s.fa
              ∧ u.sr = s.sr)
        ∧ (s.pt.mode ≠ .unconfigured → (a ++ b).length < 12 →
            (∀ id, (∀ i, (s.alarm i).announce = decide (i = id)) → (∀ z, (s.demand z).unannounced = false) →
              (∀ r ∈ s.sr.ring, r.unannounced = false) →
              (∀ g ∈ a ++ b, matchesKey .alert (s.alertMsg id).words g = false) →
              u.li.tx = insertFrame ⟨.alert, s.li.seqs.get 1, (s.alertMsg id).words, s.now, 0, false, 0, 0⟩ (a ++ b)
                ∧ (u.alarm id).announce = false)
            ∧ (∀ z d, (∀ id, (s.alarm id).announce = false) → (∀ y, (s.demand y).unannounced = decide (y = z)) →
              (∀ r ∈ s.sr.ring, r.unannounced = false) → (s.demand z).known = some d →
              (∀ g ∈ a ++ b, matchesKey .demand (demandWords z d) g = false) →
              (u.demand z).unannounced = false
                ∧ u.li.tx = if d.setter = s.ownStation then
                    insertFrame ⟨.demand, s.li.seqs.get 3, demandWords z d, s.now, 0, false, 0, 0⟩ (a ++ b)
                  else a ++ b)
            ∧ (∀ r, (∀ id, (s.alarm id).announce = false) → (∀ y, (s.demand y).unannounced = false) →
              s.sr.ring.filter ShiftRecord.unannounced = [r] →
              u.li.tx = insertFrame ⟨.shift, s.li.seqs.get 5, (r.msg s.ownStation).words, s.now, 0, false, 0,
                  r.closeId⟩ (a ++ b)
                ∧ ∀ x ∈ u.sr.ring, x.closeId = r.closeId → x.unannounced = false)))

/-- A floor frame of 1 to 128 payload words passes the tests of 01 R14 as it was sent, and is read back with its
class, origin, sequence and payload (11 R198, R199). The bytes of the frame in send are those of its class, the own
station number as its origin, its sequence and its payload (01 R1), and they go out most significant bit first, two
levels to a bit time: a 0 as low then high, a 1 as high then low (11 R198). -/
def Obligations.FramesRoundTrip : Prop :=
  ∀ (cls : FrameClass) (origin : Station) (seq : Byte) (payload : List Word),
    1 ≤ payload.length → payload.length ≤ 128 →
      parseFrame (frameBytes cls origin seq payload) 0 = some ⟨cls, origin, seq, payload⟩
      ∧ ∀ (s : State) (f : TxFrame), s.li.tx.find? TxFrame.inSend = some f → f.cls = cls → f.seq = seq →
        f.payload = payload → s.ownStation = origin →
        s.lineBytes = frameBytes cls origin seq payload
          ∧ s.lineLevels.length = 16 * s.lineBytes.length
          ∧ ∀ (i k : Nat) (x : Byte), s.lineBytes[i]? = some x → k < 8 →
            s.lineLevels[16 * i + 2 * k]? = some (x.getLsbD (7 - k))
              ∧ s.lineLevels[16 * i + 2 * k + 1]? = some (!x.getLsbD (7 - k))

/-- A SNAP in the ranges of 02 R24, R26 and R27 is read back from its words as it was built (11 R200). TRIP, ALERT,
DEMAND and SHIFT payloads are read back from their words as they were built, and an ACK's target and words stand
where LI and AL read them (11 R201). -/
def Obligations.PayloadsRoundTrip : Prop :=
  (∀ m : SnapMsg, m.fits → parseSnap m.words = some m)
    ∧ ((∀ m : TripMsg, m.fits → parseTrip m.words = some m)
    ∧ (∀ m : AlertMsg, m.fits → parseAlert m.words = some m)
    ∧ (∀ (z : Zone) (d : Demand), d.target < 65536 → parseDemand (demandWords z d) = some (z, d))
    ∧ (∀ m : ShiftMsg, m.fits → parseShift m.summary.station m.words = some m)
    ∧ ∀ (n : Station) (id : AlarmId) (seq : Word), ackTarget (ackWords n id seq) = stationNumber n
        ∧ ∃ w, ackWords n id seq = [w, seq] ∧ (loByte w).toNat = id.val)

/-- A TRIP is never refused: with at most 12 frames queued, one of them in send at most, and every queued TRIP naming
one of the four zones, an offered TRIP is accepted (01 R9, R12). -/
def Obligations.TripNeverRefused : Prop :=
  ∀ (s : State) (m : TripMsg), s.pt.mode ≠ .unconfigured → s.li.tx.length ≤ 12 →
    s.li.tx.countP TxFrame.inSend ≤ 1 → (∀ f ∈ s.li.tx, f.cls = .trip → (tripZoneByte f).toNat < 4) →
    (s.offer .trip m.words 0 0).2 = .accepted
      ∧ ∃ f ∈ (s.offer .trip m.words 0 0).1.li.tx, f.cls = .trip ∧ f.payload = m.words ∧ f.inSend = false

/-- RECEIVE_FRAME of a peer frame, in every configured mode: its arrival refreshes the receive time; it joins the receive
queue of at most 8, where a TRIP takes the place of the oldest SNAP or SHIFT of a full queue, and is otherwise lost
to overrun; an ACK for another station goes no further (01 R16). In ISOLATED it ends the mode unless the station is
cut off by its own sends, and LIMITED channels return to RUNNING at Hmin (01 R18; 02 R34; 03 R56). What fails a test
of 01 R14 is counted as a CRC drop and refreshes nothing; a frame with the own station number is counted as a
duplicate and DUPLICATE_STATION is true (01 R14, R15). In UNCONFIGURED, and for a frame under reception at a reset
(log 15), the line turns quiet and nothing else happens (01 R19); a station that sends receives nothing. -/
def Obligations.FramesReceived : Prop :=
  (∀ (s : State) (bytes : List Byte) (odd : Fin 8) (f : RxFrame),
    s.pt.mode ≠ .unconfigured → s.li.tx.any TxFrame.inSend = false →
    s.li.rxAbandoned = false → parseFrame bytes odd.val = some f → f.origin ≠ s.ownStation →
    ∃ u, exec (.receiveFrame bytes odd) s = .next (finish s u)
      ∧ u.still = ({ s with
        pt := { s.pt with
          mode := if s.pt.mode = .isolated ∧ ¬ (s.li.acceptedMark = true ∧ s.li.completionTime + 750000 ≤ s.now)
            then .normal else s.pt.mode }
        li := { s.li with
          quietSince := some s.now
          rxTime := s.now
          rx :=
            if f.cls = .ack ∧ ackTarget f.payload ≠ stationNumber s.ownStation then s.li.rx
            else if s.li.rx.length < 8 then s.li.rx ++ [f]
            else if f.cls = .trip then
              match s.li.rx.findIdx? fun g => g.cls == .snap || g.cls == .shift with
              | some i => s.li.rx.eraseIdx i ++ [f]
              | none => s.li.rx
            else s.li.rx
          overruns :=
            if f.cls = .ack ∧ ackTarget f.payload ≠ stationNumber s.ownStation then s.li.overruns
            else if s.li.rx.length < 8 then s.li.overruns
            else s.li.overruns + 1 } } : State).still
      ∧ u.zs = s.zs
      ∧ (¬ (s.pt.mode = .isolated ∧ ¬ (s.li.acceptedMark = true ∧ s.li.completionTime + 750000 ≤ s.now)) →
          u.ce = s.ce ∧ u.li.tx = s.li.tx ∧ u.al = s.al)
      ∧ (s.pt.mode = .isolated → ¬ (s.li.acceptedMark = true ∧ s.li.completionTime + 750000 ≤ s.now) →
          (s.configured = true → u.cond idStationIsolated = false)
          ∧ ∀ c g, s.fuel? c = some g → (s.chan c).state = .limited →
            (u.chan c).state = .running ∧ (u.chan c).alloc = (s.chan c).hmin
              ∧ (u.chan c).target = feedOf g (s.chan c).hmin))
    ∧ (∀ (s : State) (bytes : List Byte) (odd : Fin 8),
    s.configured = true → s.pt.mode ≠ .unconfigured → s.li.tx.any TxFrame.inSend = false → s.li.rxAbandoned = false →
    (parseFrame bytes odd.val = none → ∃ t, exec (.receiveFrame bytes odd) s = .next t
      ∧ t.still = ({ s with li := { s.li with
          quietSince := some s.now, crcDrops := s.li.crcDrops + 1 } } : State).still)
    ∧ ∀ f, parseFrame bytes odd.val = some f → f.origin = s.ownStation →
      ∃ u, exec (.receiveFrame bytes odd) s = .next (finish s u)
        ∧ u.cond idDuplicateStation = true
        ∧ u.still = ({ s with li := { s.li with
            quietSince := some s.now
            duplicates := s.li.duplicates + 1
            lastDuplicate := some s.now } } : State).still)
    ∧ ∀ (s : State) (bytes : List Byte) (odd : Fin 8),
      (s.li.tx.any TxFrame.inSend = true → exec (.receiveFrame bytes odd) s = .next s)
      ∧ (s.li.tx.any TxFrame.inSend = false → s.pt.mode = .unconfigured ∨ s.li.rxAbandoned = true →
        exec (.receiveFrame bytes odd) s = .next { s with li := { s.li with
          quietSince := some s.now, rxAbandoned := false } })

/-- LINE_DEGRADED becomes false 60 s after the last degrading event, DUPLICATE_STATION 30 s after the last duplicate
detection; before that the expiries do nothing (01 R8, R15). ACTUATOR_SLOW becomes false 60 s after the last attempt
failure (03 R46). -/
def Obligations.ConditionsEnd : Prop :=
  ((∀ (s : State) (d : Nat), s.configured = true → s.cond idLineDegraded = true → s.li.lastDegrading = some d →
      if d + 15000000 ≤ s.now then
        ∃ u, exec .lineDegradedExpiry s = .next (finish s u) ∧ u.cond idLineDegraded = false ∧ u.plant = s.plant
      else exec .lineDegradedExpiry s = .next s)
    ∧ ∀ (s : State) (d : Nat), s.configured = true → s.cond idDuplicateStation = true → s.li.lastDuplicate = some d →
      if d + 7500000 ≤ s.now then
        ∃ u, exec .duplicateStationExpiry s = .next (finish s u) ∧ u.cond idDuplicateStation = false
          ∧ u.plant = s.plant
      else exec .duplicateStationExpiry s = .next s)
    ∧ (∀ (s : State) (c : Chan) (d : Nat), s.configured = true → (s.chan c).slowSince = some d →
    if d + 15000000 ≤ s.now then
      ∃ u, exec (.actuatorSlowExpiry c) s = .next (finish s u) ∧ u.cond (idActuatorSlow c) = false
        ∧ u.plant = (s.mapChan c fun ch => { ch with slowSince := none }).plant
    else exec (.actuatorSlowExpiry c) s = .next s)

/-- LINE_ISOLATION_TIMEOUT in NORMAL: 3000 ms without an own completion while something has been accepted, or
without a valid peer frame while peers are expected, make the mode ISOLATED, with STATION_ISOLATED true and every
RUNNING fuel channel LIMITED at Hmin; otherwise nothing happens (01 R18; 02 R34, R36; 03 R56). -/
def Obligations.IsolationLimits : Prop :=
  ∀ s : State, s.pt.mode = .normal → s.configured = true →
    if (s.li.acceptedMark = true ∧ s.li.completionTime + 750000 ≤ s.now)
        ∨ (s.expectsPeers = true ∧ s.li.rxTime + 750000 ≤ s.now) then
      ∃ u, exec .lineIsolationTimeout s = .next (finish s u)
        ∧ u.pt.mode = .isolated ∧ u.cond idStationIsolated = true
        ∧ u.still = ({ s with pt := { s.pt with mode := .isolated } } : State).still
        ∧ (∀ c f, s.fuel? c = some f → (s.chan c).state = .running →
            (u.chan c).state = .limited ∧ (u.chan c).alloc = (s.chan c).hmin ∧ (u.chan c).target = f.fmin)
        ∧ (∀ c, (s.chan c).state ≠ .running → u.chan c = s.chan c) ∧ u.zs = s.zs
    else exec .lineIsolationTimeout s = .next s

/-! ### The peer table -/

/-- PERIODIC_SNAP_OFFER acts 250 ms after the last offer, CHANGE_SNAP_OFFER 50 ms after it while a change is marked:
the time is recorded, the mark is cleared, and a SNAP of the present content stands in the transmit queue, unless
one is in send or the queue is full without a waiting SNAP to replace (01 R11, R12; 02 R21 to R25). -/
def Obligations.SnapOffers : Prop :=
  ∀ (c : Instr) (s : State), s.configured = true → s.pt.mode ≠ .unconfigured →
    (c = .periodicSnapOffer ∧ s.pt.lastOffer + 62500 ≤ s.now)
      ∨ (c = .changeSnapOffer ∧ s.pt.changeMark = true ∧ s.pt.lastOffer + 12500 ≤ s.now) →
    ∃ t, exec c s = .next t
      ∧ t.pt.lastOffer = s.now ∧ t.pt.changeMark = false ∧ t.pt.published = s.publishedNow
      ∧ t.pt.rollIndex = (if s.pt.rollIndex < s.al.list.length then s.pt.rollIndex else 0)
      ∧ t.plant = s.plant
      ∧ ((s.li.tx.any (replaceable .snap []) = true ∨
          (s.li.tx.length < 12 ∧ ∀ f ∈ s.li.tx, f.cls ≠ .snap)) →
          t.li.seqs.get 4 = s.li.seqs.get 4 + 1
            ∧ ∃ f ∈ t.li.tx, f.cls = .snap ∧ f.inSend = false ∧ f.payload = s.snapMsg.words
              ∧ f.seq = s.li.seqs.get 4)

/-- SNAP_TAKEN: a SNAP that fails the checks only leaves the queue; another one is filed whole in the record of its
origin, which becomes FRESH, and no other record changes; a restart drops every mirror of the origin (02 R29, R30; 08
R158). A block's demand is adopted when the record is unknown, or the epoch newer, or equal with a higher setter (05
R94). In NORMAL or ISOLATED, for a participating zone: a newer epoch of a SNAP not in STARTING is taken over, and
trips the zone in PURGING, READY or LIT (04 R80, R83). Where the block's epoch trips nothing and ESD_N is released,
PURGING becomes READY by a block READY, DARK becomes READY by one while no other FRESH peer reports LIT, DARK becomes
LIT by a block LIT whose scanner shows the flame, and READY becomes LIT by a block whose scanner shows it when a
channel of the SNAP runs in the zone (04 R68 to R70). An inconsistent roll-call part leaves the view and the roll
call as the restart left them. A consistent one opens a pass, ends a wrapped one (a whole pass drops the unseen
mirrors and clears ORIGIN_LOST, either end clears the seen marks) or goes on with it, and its entry is then judged as
a report (08 R155, R156); the roll call of no other origin changes. That a pass opened from NONE leaves the seen
marks (log 43) and a restart the other roll-call fields (log 34) is the model's choice; that the entry's codes are
judged here is its reading (log 12, DEDUCED). -/
def Obligations.SnapFiled : Prop :=
  ∀ (s : State) (f : RxFrame), s.heads .snap f →
    (parseSnap f.payload = none →
      exec .snapTaken s = .next { s with li := { s.li with rx := s.li.rx.tail } })
    ∧ ∀ m, parseSnap f.payload = some m → ∃ t, exec .snapTaken s = .next t
        ∧ t.li.rx = s.li.rx.tail
        ∧ (∀ n, t.peer n = if n = f.origin then
            ⟨.fresh, (s.peer n).expected, some f.seq, some s.now, some s.stamp, some m.mode, m.shift, m.timeValid,
              m.listed, m.zones, m.chans⟩
          else s.peer n)
        ∧ ((s.peer f.origin).fresh ≠ .absent →
            ((∃ l, (s.peer f.origin).lastSeq = some l ∧ serialNewer f.seq l = false)
              ∨ (m.mode = .starting ∧ (s.peer f.origin).mode ≠ some .starting)) →
            m.entry = none → ∀ x ∈ t.fv.view, x.origin ≠ f.origin)
        ∧ (∀ n, n ≠ f.origin → t.rollCall n = s.rollCall n)
        ∧ (∀ (restart : Bool) (v0 v1 : List Mirror) (r0 : RollCall),
          (restart = true ↔ (s.peer f.origin).fresh ≠ .absent
            ∧ ((∃ l, (s.peer f.origin).lastSeq = some l ∧ serialNewer f.seq l = false)
              ∨ (m.mode = .starting ∧ (s.peer f.origin).mode ≠ some .starting))) →
          v0 = (if restart = true then s.fv.view.filter fun x => decide (x.origin ≠ f.origin) else s.fv.view) →
          r0 = (if restart = true then { s.rollCall f.origin with opened := false } else s.rollCall f.origin) →
          v1 = (if r0.opened = true ∧ r0.prevLast = true ∧ m.index = 0 then
              (v0.filter fun x => decide (x.origin ≠ f.origin) || x.seen || !r0.whole).map fun x =>
                if x.origin = f.origin then { x with seen := false, lost := x.lost && !r0.whole } else x
            else v0) →
          ((m.entry = none ∧ m.listed ≠ 0) ∨ (∃ e, m.entry = some e ∧ (m.listed ≤ m.index
              ∨ ∀ id st, alarmIdOf e.id = some id → alarmStateOf e.state = some st → e.priority ≠ alarmPriority id)) →
            t.fv.view = v0 ∧ t.rollCall f.origin = r0)
          ∧ ((m.entry = none ∧ m.listed = 0) ∨ (∃ e id st, m.entry = some e ∧ m.index < m.listed
              ∧ alarmIdOf e.id = some id ∧ alarmStateOf e.state = some st ∧ e.priority = alarmPriority id) →
            t.rollCall f.origin = ⟨true,
                (if r0.opened = false ∨ (r0.prevLast = true ∧ m.index = 0) then decide (m.index = 0)
                  else r0.whole && decide (m.index ≤ r0.prevIndex + 1)),
                m.index, decide (m.listed = 0 ∨ m.index + 1 = m.listed)⟩
              ∧ (v1.length < 64 → v1.length < s.fv.view.length → t.fv.full = false))
          ∧ (m.entry = none → m.listed = 0 → t.fv.view = v1)
          ∧ ∀ e id st, m.entry = some e → m.index < m.listed → alarmIdOf e.id = some id →
            alarmStateOf e.state = some st → e.priority = alarmPriority id →
            ((∀ x ∈ v1, ¬ (x.origin = f.origin ∧ x.id = id)) →
              (v1.length < 64 → t.fv.view = v1 ++ [⟨f.origin, id, st, e.seq, e.time, true, false⟩])
              ∧ (64 ≤ v1.length →
                (∀ (a b : List Mirror) (x : Mirror), v1 = a ++ x :: b → alarmPriority id < alarmPriority x.id →
                  (∀ y ∈ a, alarmPriority y.id ≤ alarmPriority id) →
                  t.fv.view = a ++ b ++ [⟨f.origin, id, st, e.seq, e.time, true, false⟩])
                ∧ ((∀ y ∈ v1, alarmPriority y.id ≤ alarmPriority id) → t.fv.view = v1 ∧ t.fv.full = true)))
            ∧ ∀ (a b : List Mirror) (x : Mirror), v1 = a ++ x :: b → x.origin = f.origin → x.id = id →
              (∀ y ∈ a ++ b, ¬ (y.origin = f.origin ∧ y.id = id)) →
              t.fv.view = a ++ (if e.seq = x.seq then
                  (if x.state.stage ≤ st.stage then { x with state := st, seen := true } else { x with seen := true })
                else if serialNewer e.seq x.seq = true then
                  { x with state := st, seq := e.seq, raiseTime := e.time, seen := true }
                else x) :: b)
        ∧ ∃ u, t = finish s u ∧ ∀ b ∈ m.zones,
          (∀ d, b.demand = some d →
            (u.demand b.zone).known = if (match (s.demand b.zone).known with
                | none => true
                | some h => serialNewer d.epoch h.epoch || decide (d.epoch = h.epoch ∧ h.setter < d.setter)) = true
              then some d else (s.demand b.zone).known)
          ∧ (b.demand = none → (u.demand b.zone).known = (s.demand b.zone).known)
          ∧ (s.decides = true → s.participates b.zone = true →
            (m.mode ≠ .starting → ∀ e, b.epoch = some e →
              ((s.zone b.zone).epoch = none → (u.zone b.zone).epoch = some e)
              ∧ ∀ h, (s.zone b.zone).epoch = some h →
                (serialNewer e h = false → (u.zone b.zone).epoch = some h)
                ∧ (serialNewer e h = true → (u.zone b.zone).epoch = some e
                  ∧ ((s.zone b.zone).state.trippable = true → (u.zone b.zone).state = .tripped)
                  ∧ ((s.zone b.zone).state = .tripped → (u.zone b.zone).state = .tripped)))
            ∧ ((m.mode = .starting ∨ ∀ e, b.epoch = some e → ∀ h, (s.zone b.zone).epoch = some h →
                  serialNewer e h = false) → s.esd = false →
              ((s.zone b.zone).state = .purging → b.state = .ready → (u.zone b.zone).state = .ready)
              ∧ ((s.zone b.zone).state = .dark → b.state = .ready →
                  (∀ n, n ≠ f.origin → (s.peer n).fresh = .fresh → ∀ x ∈ (s.peer n).zones, x.zone = b.zone →
                    x.state ≠ .lit) → (u.zone b.zone).state = .ready)
              ∧ ((s.zone b.zone).state = .dark → b.state = .lit → b.scanner = some true →
                  (u.zone b.zone).state = .lit)
              ∧ ((s.zone b.zone).state = .ready → b.scanner = some true →
                  (∃ x, Summary.fuel x ∈ m.chans ∧ x.zone = b.zone ∧ (x.state = .running ∨ x.state = .limited)) →
                  (u.zone b.zone).state = .lit)))

/-- STALE_TIMEOUT and EXPIRED_TIMEOUT age a record 1000 ms and 5000 ms after its last SNAP, an EXPIRED one flags the
mirrors of its origin, whose seen marks stay by the model's choice (log 43), and raises PEER_EXPIRED if the peer is
expected; ABSENT_PEER_TIMEOUT raises it 5000 ms after STARTING entry for an expected peer never heard (02 R31, R33;
08 R157). -/
def Obligations.FreshnessTimers : Prop :=
  (∀ (n : Station) (s : State) (l : Nat), (s.peer n).fresh = .fresh → (s.peer n).lastAt = some l →
      l + 250000 ≤ s.now → ∃ t, exec (.staleTimeout n) s = .next t
        ∧ t.still = (s.mapPeer n fun r => { r with fresh := .stale }).still)
    ∧ (∀ (n : Station) (s : State) (l : Nat), s.configured = true → (s.peer n).fresh = .stale →
        (s.peer n).lastAt = some l → l + 1250000 ≤ s.now →
        ∃ u, exec (.expiredTimeout n) s = .next (finish s u)
          ∧ u.pt.peers = (s.mapPeer n fun r => { r with fresh := .expired }).pt.peers
          ∧ ((s.peer n).expected = true → u.cond (idPeerExpired n) = true)
          ∧ u.fv.view = s.fv.view.map (fun m => if m.origin = n then { m with lost := true } else m)
          ∧ (u.rollCall n).opened = false)
    ∧ ∀ (n : Station) (s : State), s.configured = true → (s.peer n).expected = true → (s.peer n).fresh = .absent →
        s.pt.startTime + 1250000 ≤ s.now →
        ∃ u, exec (.absentPeerTimeout n) s = .next (finish s u) ∧ u.cond (idPeerExpired n) = true
          ∧ u.plant = s.plant

/-- Only a reset or an accepted LOAD_CONFIG makes a record ABSENT; a record becomes FRESH only by SNAP_TAKEN of a SNAP
whose origin it is, STALE only from FRESH by STALE_TIMEOUT, EXPIRED only from STALE by EXPIRED_TIMEOUT (02 R29, R31,
R35, R37). -/
def Obligations.FreshnessLadder : Prop :=
  ∀ (c : Instr) (s t : State) (n : Station), exec c s = .next t → (t.peer n).fresh ≠ (s.peer n).fresh →
    ((c = .powerOnReset ∨ c = .resetNAssertion ∨ c = .stationReset ∨ ∃ ws, c = .loadConfig ws)
        ∧ (t.peer n).fresh = .absent)
      ∨ (c = .snapTaken ∧ (t.peer n).fresh = .fresh ∧ ∃ f, s.heads .snap f ∧ f.origin = n)
      ∨ (c = .staleTimeout n ∧ (s.peer n).fresh = .fresh ∧ (t.peer n).fresh = .stale)
      ∨ (c = .expiredTimeout n ∧ (s.peer n).fresh = .stale ∧ (t.peer n).fresh = .expired)

/-- LISTEN_END: 2000 ms after STARTING entry the mode is NORMAL. A participating DARK zone merges its epoch: from the
held one on, in ascending station order, each epoch of a FRESH peer not in STARTING that is newer than the one so far
takes its place. If no such peer reports the zone TRIPPED with an epoch newer than the held one, it is adopted LIT if
a FRESH peer reports it LIT and its flame view is proven, else READY if a FRESH peer reports it READY, unless ESD_N
is asserted. If one does, the zone is TRIPPED by a peer trip: the trip hold runs, the first-out record takes
PEER_TRIP with that peer as origin, without peer cause and channel, the snapshot is taken, its own fuel channels are
shut and those that the trip reaches TRIPPED, and the TRIP frames in the transmit queue stay; the first of several
such peers as origin and the merged epoch as the entry's are the model's reading (log 21, DEDUCED) (02 R34, R35; 04
R80, R82, R84, R85, R87). -/
def Obligations.ListenEnds : Prop :=
  ∀ s : State, s.pt.mode = .starting →
    if s.pt.startTime + 500000 ≤ s.now then
      ∃ u, exec .listenEnd s = .next (finish s u)
        ∧ u.still = ({ s with pt := { s.pt with mode := .normal } } : State).still
        ∧ u.li.tx.filter (fun g => g.cls == .trip) = s.li.tx.filter (fun g => g.cls == .trip)
        ∧ (∀ z, s.participates z = false → u.zone z = s.zone z)
        ∧ ∀ z, s.participates z = true → (s.zone z).state = .dark →
          (u.zone z).epoch = ((allStations.filterMap fun n =>
              if (s.peer n).fresh = .fresh ∧ (s.peer n).mode ≠ some .starting then
                ((s.peer n).block? z).bind ZoneBlock.epoch
              else none).foldl (fun acc e => match acc with
                | none => some e
                | some h => if serialNewer e h = true then some e else some h) (s.zone z).epoch)
          ∧ ((∀ n, ¬ s.reportsTrip z n) →
            (u.zone z).state =
              (if s.esd = true then .dark
              else if s.peerReports z .lit = true ∧ s.flameView z = true then .lit
              else if s.peerReports z .ready = true then .ready
              else .dark)
            ∧ (u.zone z).firstOut = (s.zone z).firstOut ∧ (u.zone z).snapshot = (s.zone z).snapshot)
          ∧ ∀ n, s.reportsTrip z n → (∀ m, m < n → ¬ s.reportsTrip z m) →
            (u.zone z).state = .tripped
            ∧ (u.zone z).tripHold = .running (s.now + 250000 * s.zoneParam z ZoneCfg.tripHold)
            ∧ (∃ ep e, (u.zone z).epoch = some ep ∧ e = CauseEntry.mk .peerTrip n none none s.stamp ep none
              ∧ (u.zone z).firstOut = some (match (s.zone z).firstOut with
                | none => ⟨e, [], 0⟩
                | some fo => if fo.later.length < 4 then { fo with later := fo.later ++ [e] }
                  else { fo with dropped := min (fo.dropped + 1) 255 })
              ∧ (u.zone z).snapshot = some ⟨s.stamp, ep, .peerTrip, (s.demand z).dEff, (s.firing z).air,
                (s.ownFuels z).map fun c => ⟨c, (s.chan c).state, (s.chan c).alloc, (s.chan c).actual,
                  (s.chan c).setpoint, (s.chan c).feedPt.feedValue⟩⟩)
            ∧ ∀ c, s.ownFuel z c = true → (u.chan c).shutReleased = false
              ∧ (TripCause.zoneTrip.reaches (s.chan c).state = true →
                (u.chan c).state = .tripped ∧ (u.chan c).cause = some .zoneTrip)
    else exec .listenEnd s = .next s

/-! ### The field port and the channels -/

/-- FIELD_RECORD_FAIL discards the record and hunts from the byte after its sync byte: without a further sync byte it is
left hunting, else in the record of the first one whose record has not failed too. With a gap above 1 ms before the
last byte no record reaches over it: a whole record that passes before the gap is left standing, and behind it, as
without one, the receiver is left at the late byte (how it holds the bytes: log 28, DEDUCED, the model's).
COMMAND_SEND puts the first waiting record on a free port, starts the 200 ms window of its command and keeps the port
busy for the record's nine bytes, and does nothing on a busy port or without a waiting record (03 R44, 11 R202; 196
bit times: log 2). The bytes after a sync byte of a whole sample or reply record whose CRC checks make its command
with the fields in their places, and a command record's nine bytes are the sync byte, kind 2, channel, tag, code,
value and CRC (11 R202). -/
def Obligations.FieldPort : Prop :=
  (∀ (got : List Byte) (s : State), (b8 0xC3 ∉ got → ∀ gap : Bool, gap = true ∨ framingFails got = true →
        exec (.fieldRecordFail got gap) s = .next { s with ce := { s.ce with fieldRx := .hunting } })
      ∧ ∀ skip rest, got = skip ++ b8 0xC3 :: rest → b8 0xC3 ∉ skip → holdsFailure rest = false →
        framingFails got = true →
        exec (.fieldRecordFail got false) s = .next { s with ce := { s.ce with fieldRx := .inRecord rest } })
    ∧ (∀ (skip rest tail : List Byte) (late : Byte) (s : State), b8 0xC3 ∉ skip →
        (holdsRecord rest = false → b8 0xC3 ∉ rest →
          exec (.fieldRecordFail (skip ++ b8 0xC3 :: rest ++ [late]) true) s = .next { s with ce := { s.ce with
            fieldRx := if late = b8 0xC3 then .inRecord [] else .hunting } })
        ∧ (holdsRecord rest = true → exec (.fieldRecordFail (skip ++ b8 0xC3 :: rest ++ [late]) true) s
            = .next { s with ce := { s.ce with fieldRx := .beforeGap rest late } })
        ∧ (rest = rest.take 6 ++ tail → (∀ a b, tail = a ++ b8 0xC3 :: b → holdsRecord b = false) →
          (FieldRx.beforeGap rest late).behind 6 = if late = b8 0xC3 then .inRecord [] else .hunting))
    ∧ (∀ s : State, s.now < s.ce.busyUntil ∨ s.ce.waiting = [] → exec .commandSend s = .next s)
    ∧ (∀ (s : State) (r : CmdRecord) (rest : List CmdRecord), s.ce.busyUntil ≤ s.now → s.ce.waiting = r :: rest →
        ∃ t, exec .commandSend s = .next t
          ∧ t.ce.onPort = some r ∧ t.ce.waiting = rest ∧ t.ce.busyUntil = s.now + 196
          ∧ t.chan r.chan = { s.chan r.chan with inFlight := (s.chan r.chan).inFlight.map fun fl =>
              if fl.tag = r.tag then { fl with window := some (s.now + 50000) } else fl }
          ∧ (∀ d, d ≠ r.chan → t.chan d = s.chan d)
          ∧ t = { s with ce := t.ce } ∧ t.ce.flames = s.ce.flames ∧ t.ce.clinker = s.ce.clinker
          ∧ t.ce.silenceSince = s.ce.silenceSince ∧ t.ce.fieldRx = s.ce.fieldRx)
    ∧ (∀ (src q v1 v0 ql e1 e0 : Byte),
        recordCommand ([1, src, q, v1, v0, ql, e1, e0] ++ wordBytes [crc16 [1, src, q, v1, v0, ql, e1, e0]])
          = some (.sampleRecord src q (wordOf v1 v0) ql (wordOf e1 e0)))
    ∧ (∀ (c tag code : Byte),
        recordCommand ([3, c, tag, code] ++ wordBytes [crc16 [3, c, tag, code]]) = some (.actuatorReply c tag code))
    ∧ ∀ r : CmdRecord, r.bytes = [0xC3, 2, b8 r.chan.val, r.tag,
        (match r.cmd with
          | .setFeed _ => 1
          | .setFlow _ => 2
          | .igniter _ => 3)] ++ wordBytes [w16 r.cmd.value, crc16 r.body]

/-- SAMPLE_RECORD restarts the silence clock. A record of no configured point does nothing else to the still part; a GOOD
or UNCERTAIN sample makes its point CURRENT with the clamped value; a BAD one holds a CURRENT point for 3000 ms,
substitutes one without a value and leaves the others; no other point changes (03 R39, R40, 11 R202).
SAMPLE_HOLD_EXPIRY substitutes a HELD point at the end of its hold; FIELD_PORT_SILENT, 2000 ms after the last sample
record, treats every configured point as having received a BAD sample, sets GAP, and FIELD_PORT_SILENT is true (03
R40, R43; 09 R172). A FEED_ACTUAL sample integrates the channel's mass and energy, a FLOW_ACTUAL sample the fan's
volume, over the clamped elapsed time, at the sample's value, else the value held, else the setpoint, and then
ESTIMATED is set; a GOOD or UNCERTAIN FEED_ACTUAL sample gives the actual heat (03 R42, R47; 09 R169, R170). A
FEEDER_FAULT sample that shows a fault trips a channel in PROVING, RUNNING, LIMITED or STOPPING, one without leaves
its state (03 R57, R58). A CLINKER_TEMP sample gives T_out, a good one adds to the shift's temperature figures, and
the high-temperature clock runs or stops with CLINKER_TEMP_HIGH false as T_out lies above T_lim by more than 50 or
not (06 R125, R126; 09 R172). -/
def Obligations.SamplesTaken : Prop :=
  (∀ (src q : Byte) (v : Word) (ql : Byte) (el : Word) (s : State), s.configured = true →
    (s.matchPoint src q = none → ∃ t, exec (.sampleRecord src q v ql el) s = .next t
      ∧ t.still = ({ s with ce := { s.ce with silenceSince := s.now, fieldRx := .hunting } } : State).still)
    ∧ ∀ p, s.matchPoint src q = some p → ∃ t, exec (.sampleRecord src q v ql el) s = .next t
      ∧ t.ce.silenceSince = s.now ∧ t.ce.fieldRx = .hunting
      ∧ (∀ p', p' ≠ p → t.point p' = s.point p')
      ∧ (ql.toNat ≤ 1 → t.point p = ⟨.current, some (sampleValue p v), none,
          if ql.toNat = 1 then min ((s.point p).uncertain + 1) 65535 else (s.point p).uncertain⟩)
      ∧ (2 ≤ ql.toNat → t.point p = match (s.point p).cond with
          | .current => { s.point p with cond := .held, hold := some (s.now + 750000) }
          | .noValue => { s.point p with cond := .substituted }
          | .held => s.point p
          | .substituted => s.point p))
    ∧ (∀ (p : PointId) (s : State) (h : Nat), (s.point p).cond = .held → (s.point p).hold = some h →
      if h ≤ s.now then ∃ t, exec (.sampleHoldExpiry p) s = .next t
        ∧ t.still = (s.mapPoint p fun x => { x with cond := .substituted, hold := none }).still
      else exec (.sampleHoldExpiry p) s = .next s)
    ∧ (∀ s : State, s.configured = true → s.cond idFieldSilent = false → s.ce.silenceSince + 500000 ≤ s.now →
        ∃ u, exec .fieldPortSilent s = .next (finish s u)
          ∧ u.cond idFieldSilent = true ∧ u.sr.gap = true
          ∧ ∀ p, u.point p = if p ∈ s.allPoints then
              match (s.point p).cond with
              | .current => { s.point p with cond := .held, hold := some (s.now + 750000) }
              | .noValue => { s.point p with cond := .substituted }
              | .held => s.point p
              | .substituted => s.point p
            else s.point p)
    ∧ (∀ (s : State) (src ql : Byte) (v el : Word) (c : Chan) (f : FuelCfg) (rate e : Nat), s.configured = true →
      s.fuel? c = some f → src.toNat = c.val → e = min el.toNat 2000 →
      rate = (if ql.toNat ≤ 1 then v.toNat
        else if (s.chan c).feedPt.cond = .current ∨ (s.chan c).feedPt.cond = .held then (s.chan c).feedPt.last.getD 0
        else (s.chan c).setpoint) →
      ∃ u, exec (.sampleRecord src 1 v ql el) s = .next (finish s u)
        ∧ (u.acct c).mass = min ((s.acct c).mass + ((s.acct c).massRem + rate * e) / 3600000) 4294967295
        ∧ (u.acct c).lifeMass
            = ((s.acct c).lifeMass + ((s.acct c).massRem + rate * e) / 3600000) % 281474976710656
        ∧ (u.acct c).massRem = ((s.acct c).massRem + rate * e) % 3600000
        ∧ (u.acct c).energy
            = min ((s.acct c).energy + ((s.acct c).energyRem + rate * e * f.ncv) / 3600000000) 4294967295
        ∧ (u.acct c).lifeEnergy
            = ((s.acct c).lifeEnergy + ((s.acct c).energyRem + rate * e * f.ncv) / 3600000000) % 281474976710656
        ∧ (u.acct c).energyRem = ((s.acct c).energyRem + rate * e * f.ncv) % 3600000000
        ∧ (u.acct c).estimated = ((s.acct c).estimated || decide (2 ≤ ql.toNat ∧
            (s.chan c).feedPt.cond ≠ .current ∧ (s.chan c).feedPt.cond ≠ .held))
        ∧ (u.chan c).actual = (if ql.toNat ≤ 1 then min ((2 * (v.toNat * f.ncv) + 36000) / 72000) 65535
            else (s.chan c).actual)
        ∧ ∀ d, d ≠ c → u.acct d = s.acct d ∧ u.chan d = s.chan d)
    ∧ (∀ (s : State) (src ql : Byte) (v el : Word) (c : Chan) (f : FanCfg) (rate e : Nat), s.configured = true →
      s.fan? c = some f → src.toNat = c.val → e = min el.toNat 2000 →
      rate = (if ql.toNat ≤ 1 then v.toNat
        else if (s.chan c).flowPt.cond = .current ∨ (s.chan c).flowPt.cond = .held then (s.chan c).flowPt.last.getD 0
        else (s.chan c).setpoint) →
      ∃ u, exec (.sampleRecord src 2 v ql el) s = .next (finish s u)
        ∧ (u.acct c).mass = min ((s.acct c).mass + ((s.acct c).massRem + rate * e) / 3600000) 4294967295
        ∧ (u.acct c).lifeMass
            = ((s.acct c).lifeMass + ((s.acct c).massRem + rate * e) / 3600000) % 281474976710656
        ∧ (u.acct c).massRem = ((s.acct c).massRem + rate * e) % 3600000
        ∧ (u.acct c).estimated = ((s.acct c).estimated || decide (2 ≤ ql.toNat ∧
            (s.chan c).flowPt.cond ≠ .current ∧ (s.chan c).flowPt.cond ≠ .held))
        ∧ ∀ d, d ≠ c → u.acct d = s.acct d ∧ u.chan d = s.chan d)
    ∧ (∀ (s : State) (src ql : Byte) (v el : Word) (c : Chan) (f : FuelCfg), s.configured = true →
      s.fuel? c = some f → src.toNat = c.val → ql.toNat ≤ 1 →
      ∃ u, exec (.sampleRecord src 5 v ql el) s = .next (finish s u)
        ∧ (v ≠ 0 → TripCause.feederFault.reaches (s.chan c).state = true →
            (u.chan c).state = (if s.locksOut c f .feederFault = true then .lockedOut else .tripped)
            ∧ (u.chan c).cause = some .feederFault
            ∧ (u.chan c).history = some ⟨.feederFault, s.runClock, s.stamp⟩
            ∧ (u.chan c).shutReleased = false ∧ (u.chan c).setpoint = 0 ∧ (u.chan c).alloc = 0
            ∧ (u.chan c).proof = none ∧ (u.chan c).track = none
            ∧ ((s.chan c).inFlight = none →
                (u.chan c).inFlight = some ⟨.setFeed 0, (s.chan c).tagCtr, 1, 0, none⟩)
            ∧ (∀ fl, (s.chan c).inFlight = some fl →
                (u.chan c).inFlight = some fl ∧ (u.chan c).queued = some (.setFeed 0))
            ∧ (u.acct c).count = min ((s.acct c).count + 1) 65535)
        ∧ (v = 0 ∨ TripCause.feederFault.reaches (s.chan c).state = false →
            u.chan c = { s.chan c with faultPt := u.point (.fault c) } ∧ u.acct c = s.acct c)
        ∧ ∀ d, d ≠ c → u.chan d = s.chan d)
    ∧ ∀ (s : State) (ql : Byte) (v el : Word) (temp : Nat), s.clinkerPresent = true →
      temp = (if v.toInt < 0 then 0 else min v.toNat 1500) →
      ∃ u, exec (.sampleRecord 32 7 v ql el) s = .next (finish s u)
        ∧ u.ce.chans = s.ce.chans
        ∧ (ql.toNat ≤ 1 → u.tOut = some temp ∧ u.sr.tempMax = some (match s.sr.tempMax with
              | none => temp
              | some x => max x temp)
          ∧ (s.sr.tempSum + temp < 281474976710656 → u.sr.tempSum = s.sr.tempSum + temp)
          ∧ (s.sr.tempCount + 1 < 4294967296 → u.sr.tempCount = s.sr.tempCount + 1))
        ∧ (2 ≤ ql.toNat → u.tOut = s.tOut ∧ u.sr.tempSum = s.sr.tempSum ∧ u.sr.tempCount = s.sr.tempCount
          ∧ u.sr.tempMax = s.sr.tempMax)
        ∧ ((∃ x, u.tOut = some x ∧ s.tLim + 50 < x) → u.cond idClinkerHigh = s.cond idClinkerHigh
          ∧ u.cr.highClock = (if s.cr.highClock = none ∧ s.cond idClinkerHigh = false then some (s.now + 15000000)
            else s.cr.highClock))
        ∧ ((∀ x, u.tOut = some x → x ≤ s.tLim + 50) → u.cond idClinkerHigh = false ∧ u.cr.highClock = none)

/-- ACTUATOR_REPLY. A reply that matches no command in flight, or carries a code outside 1 to 3, does nothing but leave
the receiver behind its record (the receiver's place: log 28, DEDUCED, the model's); BUSY moves the window 250 ms on,
up to four times (none is moved, and none started, while the record still waits for the port; that such a reply is
taken at all is the model's choice, log 44); DONE ends the command: the pending one is sent next under the tag
counter's value, and an IGNITER sets the commanded state. DONE of the IGNITER on that the igniter proof in progress
ordered, in a zone READY or LIT, releases SHUT and sends SET_FEED Fmin; with the view proven the proof passes, the
channel runs and a READY zone is LIT. An IGNITER on of an ended proof releases nothing (03 R44, R45; 04 R71, R73).
FAILED, or the fifth BUSY, at the first attempt sends the same command again under a new tag with ACTUATOR_SLOW true;
at the second attempt it trips a fuel channel in OFF, PROVING, RUNNING, LIMITED or STOPPING and faults a fan (03 R45,
R46). -/
def Obligations.RepliesMatched : Prop :=
  ∀ (s : State) (c : Chan) (tag code : Byte), s.configured = true →
    ((∀ fl, (s.chan c).inFlight = some fl → fl.tag ≠ tag) →
      exec (.actuatorReply (b8 c.val) tag code) s = .next { s with ce := { s.ce with
        fieldRx := s.ce.fieldRx.behind 6 } })
    ∧ ∀ fl, (s.chan c).inFlight = some fl → fl.tag = tag →
      (code ≠ 1 → code ≠ 2 → code ≠ 3 → exec (.actuatorReply (b8 c.val) tag code) s = .next (finish s
        { s with ce := { s.ce with fieldRx := s.ce.fieldRx.behind 6 } }))
      ∧ (code = 2 → fl.busy < 4 → ∃ u, exec (.actuatorReply (b8 c.val) tag code) s = .next (finish s u)
        ∧ u.chan c = { s.chan c with inFlight := some { fl with
            busy := fl.busy + 1, window := fl.window.map fun w => w + 62500 } }
        ∧ ∀ d, d ≠ c → u.chan d = s.chan d)
      ∧ (code = 1 → (∀ on, fl.cmd ≠ .igniter on) → (s.chan c).queued = none → (s.chan c).igniterOff = false →
          (s.chan c).feedDue = false → ∃ u, exec (.actuatorReply (b8 c.val) tag code) s = .next (finish s u)
            ∧ u.chan c = { s.chan c with inFlight := none } ∧ ∀ d, d ≠ c → u.chan d = s.chan d)
      ∧ (∀ cmd, code = 1 → (∀ on, fl.cmd ≠ .igniter on) → (s.chan c).queued = some cmd →
          ∃ u, exec (.actuatorReply (b8 c.val) tag code) s = .next (finish s u)
            ∧ u.chan c = { s.chan c with
                inFlight := some ⟨cmd, (s.chan c).tagCtr, 1, 0, none⟩
                queued := none
                proof := if cmd = .igniter true then (s.chan c).proof.map fun p => { p with sent := true }
                  else (s.chan c).proof
                tagCtr := (s.chan c).tagCtr + 1 }
            ∧ ∀ d, d ≠ c → u.chan d = s.chan d)
      ∧ (code = 1 → fl.cmd = .igniter false → (s.chan c).queued = none → (s.chan c).igniterOff = false →
          (s.chan c).feedDue = false → ∃ u, exec (.actuatorReply (b8 c.val) tag code) s = .next (finish s u)
            ∧ u.chan c = { s.chan c with igniter := false, inFlight := none } ∧ ∀ d, d ≠ c → u.chan d = s.chan d)
      ∧ (∀ f w, code = 1 → fl.cmd = .igniter true → s.fuel? c = some f →
          (s.chan c).proof = some ⟨true, true, false, w⟩ →
          (s.zone f.zone).state = .ready ∨ (s.zone f.zone).state = .lit →
          ∃ u, exec (.actuatorReply (b8 c.val) tag code) s = .next (finish s u)
            ∧ (u.chan c).igniter = true ∧ (u.chan c).shutReleased = true
            ∧ (∀ d, d ≠ c → u.chan d = s.chan d)
            ∧ ((s.zone f.zone).view = false → (u.chan c).state = (s.chan c).state
                ∧ (u.chan c).proof = some ⟨true, true, true, w⟩ ∧ u.zs = s.zs
                ∧ ((s.chan c).queued = none → (s.chan c).igniterOff = false → (s.chan c).feedDue = false →
                    (u.chan c).inFlight = some ⟨.setFeed f.fmin, (s.chan c).tagCtr, 1, 0, none⟩))
            ∧ ((s.zone f.zone).view = true → (u.chan c).proof = none
                ∧ (u.chan c).state = (if s.pt.mode = .isolated then .limited else .running)
                ∧ (u.chan c).alloc = (s.chan c).hmin ∧ (u.zone f.zone).state = .lit))
      ∧ (code = 1 → fl.cmd = .igniter true → (∀ p, (s.chan c).proof = some p → p.sent = false) →
          ∃ u, exec (.actuatorReply (b8 c.val) tag code) s = .next (finish s u)
            ∧ (u.chan c).igniter = true ∧ (u.chan c).shutReleased = (s.chan c).shutReleased
            ∧ (u.chan c).state = (s.chan c).state ∧ u.zs = s.zs ∧ ∀ d, d ≠ c → u.chan d = s.chan d)
      ∧ (code = 3 ∨ (code = 2 ∧ 4 ≤ fl.busy) → fl.attempt = 1 →
          ∃ u, exec (.actuatorReply (b8 c.val) tag code) s = .next (finish s u)
          ∧ u.cond (idActuatorSlow c) = true
          ∧ u.chan c = { s.chan c with
              slowSince := some s.now
              inFlight := some ⟨fl.cmd, (s.chan c).tagCtr, 2, 0, none⟩
              tagCtr := (s.chan c).tagCtr + 1 }
          ∧ ∀ d, d ≠ c → u.chan d = s.chan d)
      ∧ (code = 3 ∨ (code = 2 ∧ 4 ≤ fl.busy) → fl.attempt ≠ 1 →
          (∀ f, s.fuel? c = some f → ∃ u, exec (.actuatorReply (b8 c.val) tag code) s = .next (finish s u)
            ∧ u.cond (idActuatorSlow c) = true ∧ (∀ d, d ≠ c → u.chan d = s.chan d)
            ∧ (TripCause.actuatorFailure.reaches (s.chan c).state = true →
                (u.chan c).state = (if s.locksOut c f .actuatorFailure = true then .lockedOut else .tripped)
                ∧ (u.chan c).cause = some .actuatorFailure ∧ (u.chan c).shutReleased = false
                ∧ (u.chan c).inFlight = some ⟨.setFeed 0, (s.chan c).tagCtr, 1, 0, none⟩)
            ∧ (TripCause.actuatorFailure.reaches (s.chan c).state = false → (u.chan c).state = (s.chan c).state
                ∧ (u.chan c).cause = (s.chan c).cause ∧ (u.chan c).shutReleased = (s.chan c).shutReleased))
          ∧ ∀ f, s.fan? c = some f → ∃ u, exec (.actuatorReply (b8 c.val) tag code) s = .next (finish s u)
            ∧ (u.chan c).state = .fanFault ∧ (u.chan c).inFlight = none ∧ (u.chan c).queued = none
            ∧ ∀ d, d ≠ c → u.chan d = s.chan d)

/-- REPLY_WINDOW_EXPIRY at the second attempt: a fuel channel in OFF, PROVING, RUNNING, LIMITED or STOPPING is
TRIPPED with cause ACTUATOR_FAILURE, or LOCKED_OUT when the history holds that cause within the lockout window, with
its SHUT asserted and no setpoint; a fan is in FAN_FAULT; the trip or fault is counted (03 R46, R57, R58, R61;
09 R171). -/
def Obligations.WindowExpiryTrips : Prop :=
  (∀ (s : State) (c : Chan) (fl : InFlight) (w : Nat) (f : FuelCfg), s.configured = true →
      (s.chan c).inFlight = some fl → fl.window = some w → w ≤ s.now → fl.attempt ≠ 1 → s.fuel? c = some f →
      TripCause.actuatorFailure.reaches (s.chan c).state = true →
      ∃ u, exec (.replyWindowExpiry c) s = .next (finish s u)
        ∧ (u.chan c).state = (if s.locksOut c f .actuatorFailure = true then .lockedOut else .tripped)
        ∧ (u.chan c).cause = some .actuatorFailure
        ∧ (u.chan c).history = some ⟨.actuatorFailure, s.runClock, s.stamp⟩
        ∧ (u.chan c).shutReleased = false ∧ (u.chan c).setpoint = 0 ∧ (u.chan c).alloc = 0
        ∧ (u.chan c).proof = none ∧ (u.chan c).track = none
        ∧ (u.chan c).inFlight = some ⟨.setFeed 0, (s.chan c).tagCtr, 1, 0, none⟩
        ∧ (u.acct c).count = min ((s.acct c).count + 1) 65535
        ∧ ∀ d, d ≠ c → u.chan d = s.chan d)
    ∧ ∀ (s : State) (c : Chan) (fl : InFlight) (w : Nat) (f : FanCfg), s.configured = true →
      (s.chan c).inFlight = some fl → fl.window = some w → w ≤ s.now → fl.attempt ≠ 1 → s.fan? c = some f →
      (s.chan c).state ≠ .fanFault →
      ∃ u, exec (.replyWindowExpiry c) s = .next (finish s u)
        ∧ (u.chan c).state = .fanFault ∧ (u.chan c).setpoint = (s.chan c).setpoint
        ∧ (u.chan c).inFlight = none ∧ (u.chan c).queued = none
        ∧ u.cond (idFanFault c) = true
        ∧ (u.acct c).count = min ((s.acct c).count + 1) 65535
        ∧ ∀ d, d ≠ c → u.chan d = s.chan d

/-- RAMP_STEP moves the feed setpoint toward the target by at most the ramp and issues SET_FEED with it; the clock
runs on until the target is reached; the step that reaches Fmin in STOPPING takes the channel to OFF with SHUT
asserted (03 R49, R55). That the clock's next moment is `t` plus 1 s, counted from the step's own moment also when the
step is taken late, is the model's choice (log 24). UNLOCKED_CLOCK_EXPIRY and ACQUIRING_CLOCK_EXPIRY make
FEED_DEVIATION true and lower Hmax_eff to the actual heat, within [Hmin, Hmax] (03 R51, R52). A GOOD or UNCERTAIN
FEED_ACTUAL sample moves the tracking by its deviation `dev`: in ACQUIRING and while not LOCKED the fifth sample within
20 per mille in a row gives TRACKING with LOCKED true, while LOCKED the third outside in a row ends it; the in-band flag
says whether `dev` is within 80 in ACQUIRING and 20 in TRACKING (03 R50). While FEED_DEVIATION is true such a sample
derates the channel again, to the actual heat it gives, unless it makes the tracking LOCKED, which ends the derating and
FEED_DEVIATION (03 R52). In a feed proof such a sample of at least half Fmin makes the channel RUNNING, LIMITED in
ISOLATED, at Hmin (04 R72); that this sample is not evaluated by the tracking that starts is the model's choice (log
30). -/
def Obligations.ChannelClocks : Prop :=
  (∀ (s : State) (c : Chan) (f : FuelCfg) (t sp : Nat), s.fuel? c = some f → (s.chan c).rampNext = some t → t ≤ s.now →
      sp = (if (s.chan c).setpoint ≤ (s.chan c).target then min ((s.chan c).setpoint + f.ramp) (s.chan c).target
        else max ((s.chan c).setpoint - f.ramp) (s.chan c).target) →
      ∃ u, exec (.rampStep c) s = .next (finish s u)
        ∧ (∀ d, d ≠ c → u.chan d = s.chan d)
        ∧ (¬ ((s.chan c).state = .stopping ∧ sp = f.fmin) →
            (u.chan c).setpoint = sp ∧ (u.chan c).state = (s.chan c).state
              ∧ (u.chan c).rampNext = (if sp = (s.chan c).target then none else some (t + 250000))
              ∧ ((s.chan c).inFlight = none →
                  (u.chan c).inFlight = some ⟨.setFeed sp, (s.chan c).tagCtr, 1, 0, none⟩))
        ∧ ((s.chan c).state = .stopping → sp = f.fmin →
            (u.chan c).state = .off ∧ (u.chan c).shutReleased = false ∧ (u.chan c).setpoint = 0
              ∧ (u.chan c).alloc = 0))
    ∧ (∀ (s : State) (c : Chan) (f : FuelCfg) (x : Instr), s.configured = true → s.fuel? c = some f →
      (x = .unlockedClockExpiry c ∧ (∃ d, (s.chan c).unlockedClock = some d ∧ d ≤ s.now))
        ∨ (x = .acquiringClockExpiry c ∧ (∃ d, (s.chan c).acquiringClock = some d ∧ d ≤ s.now)) →
      ∃ u, exec x s = .next (finish s u)
        ∧ u.cond (idFeedDeviation c) = true
        ∧ (u.chan c).hmaxEff = min (s.chan c).hmax (max (s.chan c).hmin (s.chan c).actual)
        ∧ (u.chan c).state = (s.chan c).state ∧ (u.chan c).shutReleased = (s.chan c).shutReleased
        ∧ ((s.chan c).state = .running →
            ((s.chan c).alloc ≤ (u.chan c).hmaxEff → (u.chan c).alloc = (s.chan c).alloc)
            ∧ ((u.chan c).hmaxEff ≤ (s.chan c).alloc → (u.chan c).alloc = (u.chan c).hmaxEff))
        ∧ ∀ d, d ≠ c → u.chan d = s.chan d)
    ∧ (∀ (s : State) (src ql : Byte) (v el : Word) (c : Chan) (f : FuelCfg) (k : Tracking) (dev : Nat),
      s.configured = true → s.fuel? c = some f → src.toNat = c.val → ql.toNat ≤ 1 → (s.chan c).proof = none →
      (s.chan c).track = some k → s.cond (idFeedDeviation c) = false →
      dev = ((v.toNat - (s.chan c).setpoint) + ((s.chan c).setpoint - v.toNat)) * 1000
        / max (s.chan c).setpoint (max f.fmin 1) →
      ∃ u, exec (.sampleRecord src 1 v ql el) s = .next (finish s u)
        ∧ (u.chan c).hmaxEff = (if k.locked = false ∧ dev ≤ 20 ∧ 5 ≤ k.within + 1 then (s.chan c).hmax
            else (s.chan c).hmaxEff)
        ∧ ∃ k', (u.chan c).track = some k' ∧ k'.lastDev = some dev
          ∧ k'.inBand = decide (dev ≤ if k'.tracking = true then 20 else 80)
          ∧ (20 < dev → (k.tracking = false ∨ k.locked = false → k' = { k with within := 0, lastDev := some dev })
            ∧ (k.tracking = true → k.locked = true → k' = if 3 ≤ k.outside + 1
                then { k with locked := false, outside := 0, lastDev := some dev }
                else { k with outside := k.outside + 1, lastDev := some dev }))
          ∧ (dev ≤ 20 → (k.tracking = true → k.locked = true → k' = { k with outside := 0, lastDev := some dev })
            ∧ (k.tracking = true → k.locked = false → k' = if 5 ≤ k.within + 1
                then { k with locked := true, within := 0, lastDev := some dev }
                else { k with within := k.within + 1, lastDev := some dev })
            ∧ (k.tracking = false → k' = if 5 ≤ k.within + 1 then ⟨true, true, 0, 0, some dev⟩
                else { k with within := k.within + 1, lastDev := some dev })))
    ∧ (∀ (s : State) (src ql : Byte) (v el : Word) (c : Chan) (f : FuelCfg) (k : Tracking) (dev heat : Nat),
      s.configured = true → s.fuel? c = some f → src.toNat = c.val → ql.toNat ≤ 1 → (s.chan c).proof = none →
      (s.chan c).track = some k → s.cond (idFeedDeviation c) = true →
      dev = ((v.toNat - (s.chan c).setpoint) + ((s.chan c).setpoint - v.toNat)) * 1000
        / max (s.chan c).setpoint (max f.fmin 1) →
      heat = min ((2 * (v.toNat * f.ncv) + 36000) / 72000) 65535 →
      ∃ u, exec (.sampleRecord src 1 v ql el) s = .next (finish s u)
        ∧ (¬ (k.locked = false ∧ dev ≤ 20 ∧ 5 ≤ k.within + 1) → u.cond (idFeedDeviation c) = true
          ∧ (u.chan c).hmaxEff = min (s.chan c).hmax (max (s.chan c).hmin heat)
          ∧ ((s.chan c).state = .running →
            ((s.chan c).alloc ≤ (u.chan c).hmaxEff → (u.chan c).alloc = (s.chan c).alloc)
            ∧ ((u.chan c).hmaxEff < (s.chan c).alloc → (u.chan c).alloc = (u.chan c).hmaxEff
              ∧ (u.chan c).target = feedOf f (u.chan c).hmaxEff)))
        ∧ (k.locked = false → dev ≤ 20 → 5 ≤ k.within + 1 → u.cond (idFeedDeviation c) = false
          ∧ (u.chan c).hmaxEff = (s.chan c).hmax ∧ (u.chan c).alloc = (s.chan c).alloc
          ∧ (u.chan c).unlockedClock = none ∧ (u.chan c).acquiringClock = none)
        ∧ (u.chan c).state = (s.chan c).state ∧ ∀ d, d ≠ c → u.chan d = s.chan d)
    ∧ ∀ (s : State) (src ql : Byte) (v el : Word) (c : Chan) (f : FuelCfg) (p : Proof),
      s.configured = true → s.fuel? c = some f → src.toNat = c.val → ql.toNat ≤ 1 → (s.chan c).proof = some p →
      p.igniter = false → (s.chan c).state = .proving → (s.chan c).track = none →
      s.cond (idFeedDeviation c) = false →
      ∃ u, exec (.sampleRecord src 1 v ql el) s = .next (finish s u)
        ∧ (f.fmin ≤ 2 * v.toNat → (u.chan c).proof = none
          ∧ (u.chan c).state = (if s.pt.mode = .isolated then .limited else .running)
          ∧ (u.chan c).alloc = (s.chan c).hmin
          ∧ (u.chan c).target = (if s.pt.mode = .isolated then f.fmin else feedOf f (s.chan c).hmin)
          ∧ (u.chan c).track = some ⟨false, false, 0, 0, none⟩
          ∧ (u.chan c).acquiringClock = some (s.now + 15000000) ∧ (u.chan c).unlockedClock = none)
        ∧ (2 * v.toNat < f.fmin → (u.chan c).proof = some p ∧ (u.chan c).state = .proving)
        ∧ u.zs = s.zs ∧ (u.chan c).shutReleased = (s.chan c).shutReleased ∧ ∀ d, d ≠ c → u.chan d = s.chan d

/-- CHANNEL_START of a fuel channel in OFF, in NORMAL, with the first-out record of its zone clear and no feeder
fault: in a READY zone with the igniter flag, PROVING with an igniter proof, SHUT asserted and IGNITER on issued; in
a LIT zone without the flame-lost mark, PROVING with a feed proof, SHUT released and SET_FEED Fmin issued; the
answer is OK (03 R54; 04 R71, R72). CHANNEL_START of a usable fuel channel is refused, in this order: BUSY in
STOPPING, STATE in another state than OFF and in another mode than NORMAL, FIRST_OUT_PENDING, PERMISSIVE when the
zone is neither LIT nor READY with the igniter flag; of an UNUSED channel or a number above 7 BAD_ARGUMENT, of an
unusable one STATE; a refusal changes nothing but the answer (03 R38, R54; 10 R186). -/
def Obligations.FuelStarts : Prop :=
  (∀ (s : State) (w : Word) (c : Chan) (f : FuelCfg), s.configured = true → s.serves 4 [w] → w.toNat = c.val →
    s.fuel? c = some f → (s.chan c).state = .off → (s.chan c).inFlight = none → s.pt.mode = .normal →
    (s.zone f.zone).firstOut = none → (s.chan c).faultPt.faulted = false →
    ((s.zone f.zone).state = .ready → f.igniter = true → ∃ u, exec (.channelStart w) s = .next (finish s u)
      ∧ (u.chan c).state = .proving ∧ (u.chan c).shutReleased = (s.chan c).shutReleased
      ∧ (u.chan c).setpoint = f.fmin ∧ (u.chan c).alloc = (s.chan c).hmin
      ∧ (u.chan c).proof = some ⟨true, true, false, s.now + 250000 * f.proving⟩
      ∧ (u.chan c).inFlight = some ⟨.igniter true, (s.chan c).tagCtr, 1, 0, none⟩
      ∧ (∀ d, d ≠ c → u.chan d = s.chan d) ∧ u.sp.buffer = .ready ⟨4, .ok, 0, []⟩ ∧ u.zs = s.zs)
    ∧ ((s.zone f.zone).state = .lit → (s.zone f.zone).flameLost = false →
      ∃ u, exec (.channelStart w) s = .next (finish s u)
      ∧ (u.chan c).state = .proving ∧ (u.chan c).shutReleased = true
      ∧ (u.chan c).setpoint = f.fmin ∧ (u.chan c).alloc = (s.chan c).hmin
      ∧ (u.chan c).proof = some ⟨false, false, true, s.now + 250000 * f.proving⟩
      ∧ (u.chan c).inFlight = some ⟨.setFeed f.fmin, (s.chan c).tagCtr, 1, 0, none⟩
      ∧ (∀ d, d ≠ c → u.chan d = s.chan d) ∧ u.sp.buffer = .ready ⟨4, .ok, 0, []⟩ ∧ u.zs = s.zs))
    ∧ (∀ (s : State) (w : Word), s.serves 4 [w] →
    (8 ≤ w.toNat → exec (.channelStart w) s = .next (s.refuse 4 .badArgument))
    ∧ ∀ c : Chan, w.toNat = c.val →
      (s.chanCfg c = .unused → exec (.channelStart w) s = .next (s.refuse 4 .badArgument))
      ∧ (∀ f, s.chanCfg c = .fuel f → f.ncv = 0 → exec (.channelStart w) s = .next (s.refuse 4 .state))
      ∧ ∀ f, s.fuel? c = some f →
        ((s.chan c).state = .stopping → exec (.channelStart w) s = .next (s.refuse 4 .busy))
        ∧ ((s.chan c).state ≠ .stopping → (s.chan c).state ≠ .off ∨ s.pt.mode ≠ .normal →
            exec (.channelStart w) s = .next (s.refuse 4 .state))
        ∧ ((s.chan c).state = .off → s.pt.mode = .normal → (s.zone f.zone).firstOut ≠ none →
            exec (.channelStart w) s = .next (s.refuse 4 .firstOutPending))
        ∧ ((s.chan c).state = .off → s.pt.mode = .normal → (s.zone f.zone).firstOut = none →
            (s.zone f.zone).state ≠ .lit → ¬ ((s.zone f.zone).state = .ready ∧ f.igniter = true) →
            exec (.channelStart w) s = .next (s.refuse 4 .permissive)))

/-- CHANNEL_STOP of a usable fuel channel: PROVING, or RUNNING or LIMITED with its setpoint at Fmin or, with the ramp
clock stopped, at most one ramp above it, is OFF with SHUT asserted, setpoint and allocation 0; RUNNING or LIMITED is
STOPPING with target Fmin when its setpoint is more than one ramp above Fmin, or differs from it with the ramp clock
running; every other state, STOPPING, TRIPPED and LOCKED_OUT among them, is refused STATE. A fan is OFF with setpoint 0,
and refused STATE in OFF. An UNUSED channel or a number above 7 is refused BAD_ARGUMENT, an unusable one STATE. A
refusal changes nothing but the answer (03 R38, R49, R55, R60). -/
def Obligations.StopCommands : Prop :=
  (∀ (s : State) (w : Word), s.serves 5 [w] →
      (8 ≤ w.toNat → exec (.channelStop w) s = .next (s.refuse 5 .badArgument))
      ∧ ∀ c : Chan, w.toNat = c.val →
        (s.chanCfg c = .unused → exec (.channelStop w) s = .next (s.refuse 5 .badArgument))
        ∧ (∀ f, s.chanCfg c = .fuel f → f.ncv = 0 → exec (.channelStop w) s = .next (s.refuse 5 .state))
        ∧ (∀ f, s.fuel? c = some f → (s.chan c).state ≠ .proving → (s.chan c).state ≠ .running →
            (s.chan c).state ≠ .limited → exec (.channelStop w) s = .next (s.refuse 5 .state)))
  ∧ ∀ (s : State) (w : Word) (c : Chan), s.configured = true → s.serves 5 [w] → w.toNat = c.val →
    (∀ f, s.fuel? c = some f →
      ((s.chan c).state = .proving
          ∨ (((s.chan c).state = .running ∨ (s.chan c).state = .limited)
            ∧ ((s.chan c).setpoint = f.fmin ∨ ((s.chan c).rampNext = none ∧ f.fmin ≤ (s.chan c).setpoint
              ∧ (s.chan c).setpoint ≤ f.fmin + f.ramp))) →
        ∃ u, exec (.channelStop w) s = .next (finish s u)
          ∧ (u.chan c).state = .off ∧ (u.chan c).shutReleased = false ∧ (u.chan c).setpoint = 0
          ∧ (u.chan c).alloc = 0 ∧ (u.chan c).proof = none ∧ (u.chan c).track = none
          ∧ (∀ d, d ≠ c → u.chan d = s.chan d) ∧ u.sp.buffer = .ready ⟨5, .ok, 0, []⟩)
      ∧ ((s.chan c).state = .running ∨ (s.chan c).state = .limited →
          f.fmin + f.ramp < (s.chan c).setpoint ∨ ((s.chan c).rampNext ≠ none ∧ (s.chan c).setpoint ≠ f.fmin) →
        ∃ u, exec (.channelStop w) s = .next (finish s u)
          ∧ (u.chan c).state = .stopping ∧ (u.chan c).target = f.fmin ∧ (u.chan c).alloc = (s.chan c).hmin
          ∧ (u.chan c).shutReleased = (s.chan c).shutReleased
          ∧ (∀ d, d ≠ c → u.chan d = s.chan d) ∧ u.sp.buffer = .ready ⟨5, .ok, 0, []⟩))
    ∧ ∀ f, s.fan? c = some f →
      ((s.chan c).state ≠ .off → ∃ u, exec (.channelStop w) s = .next (finish s u)
        ∧ (u.chan c).state = .off ∧ (u.chan c).setpoint = 0 ∧ (u.chan c).startClock = none
        ∧ (u.chan c).lowFlowClock = none
        ∧ (∀ d, d ≠ c → u.chan d = s.chan d) ∧ u.sp.buffer = .ready ⟨5, .ok, 0, []⟩)
      ∧ ((s.chan c).state = .off → exec (.channelStop w) s = .next (s.refuse 5 .state))

/-- RESET_TRIP of a usable fuel channel: TRIPPED, in a zone that is not TRIPPED and with a cause that counts as
cleared, it enters OFF without a cause and with its repeat history kept; otherwise it is refused STATE.
RELEASE_LOCKOUT: LOCKED_OUT, in a DARK zone, it enters OFF without a cause and with its repeat history cleared;
otherwise it is refused STATE. Both in every configured mode. Of a number above 7 and of an UNUSED channel both are
refused BAD_ARGUMENT, of an unusable one STATE, and RELEASE_LOCKOUT of a fan STATE. A refusal changes nothing but the
answer (03 R38, R59, R60). -/
def Obligations.TripsReset : Prop :=
  (∀ (s : State) (w : Word) (c : Chan) (f : FuelCfg), s.configured = true → s.serves 6 [w] → w.toNat = c.val →
      s.fuel? c = some f →
      ((s.chan c).state = .tripped → (s.zone f.zone).state ≠ .tripped → s.cleared c f →
        ∃ u, exec (.resetTrip w) s = .next (finish s u)
          ∧ (u.chan c).state = .off ∧ (u.chan c).cause = none ∧ (u.chan c).history = (s.chan c).history
          ∧ (∀ d, d ≠ c → u.chan d = s.chan d) ∧ u.cond (idChannelTrip c) = false
          ∧ u.sp.buffer = .ready ⟨6, .ok, 0, []⟩)
      ∧ ((s.chan c).state ≠ .tripped ∨ (s.zone f.zone).state = .tripped ∨ ¬ s.cleared c f →
        exec (.resetTrip w) s = .next (s.refuse 6 .state)))
    ∧ (∀ (s : State) (w : Word) (c : Chan) (f : FuelCfg), s.configured = true → s.serves 7 [w] → w.toNat = c.val →
      s.fuel? c = some f →
      ((s.chan c).state = .lockedOut → (s.zone f.zone).state = .dark →
        ∃ u, exec (.releaseLockout w) s = .next (finish s u)
          ∧ (u.chan c).state = .off ∧ (u.chan c).cause = none ∧ (u.chan c).history = none
          ∧ (∀ d, d ≠ c → u.chan d = s.chan d) ∧ u.cond (idChannelLockout c) = false
          ∧ u.sp.buffer = .ready ⟨7, .ok, 0, []⟩)
      ∧ ((s.chan c).state ≠ .lockedOut ∨ (s.zone f.zone).state ≠ .dark →
        exec (.releaseLockout w) s = .next (s.refuse 7 .state)))
    ∧ ∀ (s : State) (w : Word) (x : Instr) (code : Nat), s.serves code [w] →
      (x = .resetTrip w ∧ code = 6) ∨ (x = .releaseLockout w ∧ code = 7) →
      (8 ≤ w.toNat → exec x s = .next (s.refuse code .badArgument))
      ∧ ∀ c : Chan, w.toNat = c.val →
        (s.chanCfg c = .unused → exec x s = .next (s.refuse code .badArgument))
        ∧ (∀ f, s.chanCfg c = .fuel f → f.ncv = 0 → exec x s = .next (s.refuse code .state))
        ∧ ∀ f, s.fan? c = some f → code = 7 → exec x s = .next (s.refuse code .state)

/-- CHANNEL_START of an OFF fan, and RESET_TRIP of a fan in FAN_FAULT, make it STARTING with setpoint Fmin and its 30 s
clock; that it is STARTING then whatever FLOW_ACTUAL value is in use is the model's choice (log 38). In another
state, or in mode STARTING, the request is refused STATE and changes nothing but the answer. A FLOW_ACTUAL sample,
GOOD or UNCERTAIN, of at least half Fmin makes a STARTING fan RUNNING at Fmin, a FIXED one at its base, and in mode
STARTING adopts an OFF fan as RUNNING at the sample's flow without a command (03 R60, R62; 06 R116); that a fan is
adopted once in a listen at most is the model's reading (log 16, DEDUCED). FAN_START_CLOCK_EXPIRY and
FAN_LOW_FLOW_EXPIRY make it FAN_FAULT with its setpoint held and the fault counted (03 R60, R61; 09 R171). -/
def Obligations.FansStartAndFail : Prop :=
  (∀ (s : State) (w : Word) (c : Chan) (f : FanCfg) (x : Instr) (code : Nat), s.configured = true →
      s.serves code [w] → w.toNat = c.val → s.fan? c = some f → s.decides = true →
      (x = .channelStart w ∧ code = 4 ∧ (s.chan c).state = .off)
        ∨ (x = .resetTrip w ∧ code = 6 ∧ (s.chan c).state = .fanFault) →
      ∃ u, exec x s = .next (finish s u)
        ∧ (u.chan c).state = .starting ∧ (u.chan c).setpoint = f.fmin
        ∧ (u.chan c).startClock = some (s.now + 7500000)
        ∧ ((s.chan c).inFlight = none →
            (u.chan c).inFlight = some ⟨.setFlow f.fmin, (s.chan c).tagCtr, 1, 0, none⟩)
        ∧ (∀ d, d ≠ c → u.chan d = s.chan d) ∧ u.sp.buffer = .ready ⟨b8 code, .ok, 0, []⟩)
    ∧ (∀ (s : State) (w : Word) (c : Chan) (f : FanCfg), w.toNat = c.val → s.fan? c = some f →
      (s.serves 4 [w] → (s.chan c).state ≠ .off ∨ s.decides = false →
        exec (.channelStart w) s = .next (s.refuse 4 .state))
      ∧ (s.serves 6 [w] → (s.chan c).state ≠ .fanFault ∨ s.decides = false →
        exec (.resetTrip w) s = .next (s.refuse 6 .state)))
    ∧ (∀ (s : State) (src ql : Byte) (v el : Word) (c : Chan) (f : FanCfg), s.configured = true →
      s.fan? c = some f → src.toNat = c.val → ql.toNat ≤ 1 →
      ∃ u, exec (.sampleRecord src 2 v ql el) s = .next (finish s u)
        ∧ ((s.chan c).state = .starting → f.fmin ≤ 2 * v.toNat →
            (u.chan c).state = .running ∧ (u.chan c).startClock = none
            ∧ (f.role = .cooler → (u.chan c).setpoint = f.fmin ∧ (u.chan c).inFlight = (s.chan c).inFlight)
            ∧ (f.role = .fixed → (u.chan c).setpoint = clampNat f.fbase f.fmin f.fmax
              ∧ ((s.chan c).inFlight = none → clampNat f.fbase f.fmin f.fmax ≠ f.fmin →
                (u.chan c).inFlight
                  = some ⟨.setFlow (clampNat f.fbase f.fmin f.fmax), (s.chan c).tagCtr, 1, 0, none⟩)))
        ∧ (s.pt.mode = .starting → (s.chan c).state = .off → (s.chan c).adopted = false → f.fmin ≤ 2 * v.toNat →
            (u.chan c).state = .running ∧ (u.chan c).setpoint = v.toNat ∧ (u.chan c).adopted = true
            ∧ (u.chan c).inFlight = (s.chan c).inFlight ∧ (u.chan c).queued = (s.chan c).queued)
        ∧ (2 * v.toNat < f.fmin ∨ ((s.chan c).state ≠ .starting
              ∧ ¬ (s.pt.mode = .starting ∧ (s.chan c).state = .off ∧ (s.chan c).adopted = false)) →
            u.chan c = { s.chan c with flowPt := u.point (.flow c) })
        ∧ ∀ d, d ≠ c → u.chan d = s.chan d)
    ∧ ∀ (s : State) (c : Chan) (x : Instr), s.configured = true →
      (x = .fanStartClockExpiry c ∧ (s.chan c).state = .starting
          ∧ (∃ d, (s.chan c).startClock = some d ∧ d ≤ s.now))
        ∨ (x = .fanLowFlowExpiry c ∧ (s.chan c).state = .running
          ∧ (∃ d, (s.chan c).lowFlowClock = some d ∧ d ≤ s.now)) →
      ∃ u, exec x s = .next (finish s u)
        ∧ (u.chan c).state = .fanFault ∧ (u.chan c).setpoint = (s.chan c).setpoint
        ∧ (u.chan c).startClock = none ∧ (u.chan c).lowFlowClock = none
        ∧ u.cond (idFanFault c) = true ∧ (u.acct c).count = min ((s.acct c).count + 1) 65535
        ∧ ∀ d, d ≠ c → u.chan d = s.chan d

/-- What follows an event leaves a channel that is neither PROVING nor open nor in a proof as the event left it, but
for the reply window of its command and a fan's low-flow clock (log 8). -/
def Obligations.ShutChannelsStay : Prop :=
  ∀ (s u : State) (c : Chan), (u.chan c).shutReleased = false → (u.chan c).state ≠ .proving →
    (u.chan c).proof = none →
    ∃ (w : InFlight → Option Nat) (l : Option Nat), (finish s u).chan c = { u.chan c with
      inFlight := (u.chan c).inFlight.map fun fl => { fl with window := w fl }
      lowFlowClock := l }

/-! ### The zones -/

/-- ZONE_PURGE of a participating DARK zone with a clear first-out record and the purge permissive, in NORMAL or
ISOLATED: PURGING with the purge timer running, PURGE_ABORTED false, answer OK. It is refused BAD_ARGUMENT for a zone
that does not participate, then STATE, then FIRST_OUT_PENDING, then PERMISSIVE (04 R64, R66, R67). ZONE_RESET of a
participating zone: in DARK the first-out record is cleared and the answer is OK, in any other state it is refused
STATE, and nothing else changes; of a zone that does not participate it is refused BAD_ARGUMENT (04 R64, R79). -/
def Obligations.ZoneRequests : Prop :=
  (∀ (s : State) (w : Word), s.configured = true → s.serves 8 [w] →
    ((∀ z : Zone, w.toNat = z.val → s.participates z = false) →
      exec (.zonePurge w) s = .next (s.refuse 8 .badArgument))
    ∧ ∀ z : Zone, w.toNat = z.val → s.participates z = true →
      (s.pt.mode = .starting ∨ (s.zone z).state ≠ .dark → exec (.zonePurge w) s = .next (s.refuse 8 .state))
      ∧ (s.pt.mode ≠ .starting → (s.zone z).state = .dark → (s.zone z).firstOut ≠ none →
          exec (.zonePurge w) s = .next (s.refuse 8 .firstOutPending))
      ∧ (s.pt.mode ≠ .starting → (s.zone z).state = .dark → (s.zone z).firstOut = none →
          ¬ (s.fuelClosed z = true ∧ s.esd = false ∧ s.zoneParam z ZoneCfg.purgeAir ≤ (s.firing z).air.supply) →
          exec (.zonePurge w) s = .next (s.refuse 8 .permissive))
      ∧ (s.pt.mode ≠ .starting → (s.zone z).state = .dark → (s.zone z).firstOut = none → s.fuelClosed z = true →
          s.esd = false → s.zoneParam z ZoneCfg.purgeAir ≤ (s.firing z).air.supply →
          ∃ u, exec (.zonePurge w) s = .next (finish s u)
            ∧ (u.zone z).state = .purging
            ∧ (u.zone z).purgeTimer = some (s.now + 250000 * s.zoneParam z ZoneCfg.purgeTime)
            ∧ (∀ y, y ≠ z → u.zone y = s.zone y) ∧ u.cond (idPurgeAborted z) = false
            ∧ u.sp.notices.zoneState = true ∧ u.sp.buffer = .ready ⟨8, .ok, 0, []⟩))
    ∧ ∀ (s : State) (w : Word), s.serves 9 [w] →
      ((∀ z : Zone, w.toNat = z.val → s.participates z = false) →
        exec (.zoneReset w) s = .next (s.refuse 9 .badArgument))
      ∧ ∀ z : Zone, w.toNat = z.val → s.participates z = true → exec (.zoneReset w) s = .next
        (if (s.zone z).state = .dark then (s.mapZone z fun r => { r with firstOut := none }).ok 9
        else s.refuse 9 .state)

/-- PURGE_TIMER_EXPIRY makes a PURGING zone READY with its ready window running; READY_WINDOW_EXPIRY makes a READY zone
DARK and closes its fuel channels; TRIP_HOLD_EXPIRY makes a TRIPPED zone DARK if every own fuel valve is closed and
otherwise marks the hold expired, and the VALVE_CLOSED sample that closes the last own valve then makes the zone
DARK; PROVING_WINDOW_EXPIRY trips the channel with cause LIGHT_OFF_FAIL (04 R68, R70 to R72, R86). -/
def Obligations.ZoneTimers : Prop :=
  (∀ (s : State) (z : Zone) (d : Nat), (s.zone z).state = .purging → (s.zone z).purgeTimer = some d → d ≤ s.now →
      ∃ u, exec (.purgeTimerExpiry z) s = .next (finish s u)
        ∧ (u.zone z).state = .ready
        ∧ (u.zone z).readyTimer = some (s.now + 250000 * s.zoneParam z ZoneCfg.readyWindow)
        ∧ (u.zone z).purgeTimer = none ∧ (∀ y, y ≠ z → u.zone y = s.zone y) ∧ u.ce.chans = s.ce.chans)
    ∧ (∀ (s : State) (z : Zone) (d : Nat), (s.zone z).state = .ready → (s.zone z).readyTimer = some d → d ≤ s.now →
      ∃ u, exec (.readyWindowExpiry z) s = .next (finish s u)
        ∧ (u.zone z).state = .dark ∧ (u.zone z).readyTimer = none ∧ (∀ y, y ≠ z → u.zone y = s.zone y)
        ∧ (∀ c, s.ownFuel z c = true → (u.chan c).shutReleased = false)
        ∧ (∀ c, s.ownFuel z c = true → (s.chan c).shutReleased = true ∨ (s.chan c).state = .proving →
            (u.chan c).state = .off)
        ∧ ∀ c, s.ownFuel z c = false → u.chan c = s.chan c)
    ∧ (∀ (s : State) (z : Zone) (d : Nat), (s.zone z).state = .tripped → (s.zone z).tripHold = .running d →
      d ≤ s.now → ∃ u, exec (.tripHoldExpiry z) s = .next (finish s u)
        ∧ (∀ y, y ≠ z → u.zone y = s.zone y)
        ∧ (s.valvesClosed z = true → (u.zone z).state = .dark ∧ (u.zone z).tripHold = .stopped)
        ∧ (s.valvesClosed z = false → u = s.mapZone z fun r => { r with tripHold := .expired }))
    ∧ (∀ (s : State) (src ql : Byte) (v el : Word) (c : Chan) (f : FuelCfg), s.configured = true →
      s.fuel? c = some f → src.toNat = c.val → ql.toNat ≤ 1 →
      ∃ u, exec (.sampleRecord src 4 v ql el) s = .next (finish s u)
        ∧ ((s.zone f.zone).state = .tripped → (s.zone f.zone).tripHold = .expired → v ≠ 0 →
            (∀ d, d ≠ c → s.ownFuel f.zone d = true → (s.chan d).valvePt.closed = true) →
            (u.zone f.zone).state = .dark ∧ (u.zone f.zone).tripHold = .stopped
            ∧ u.cond (idZoneTrip f.zone) = false ∧ ∀ y, y ≠ f.zone → u.zone y = s.zone y)
        ∧ ((s.zone f.zone).state ≠ .tripped ∨ (s.zone f.zone).tripHold ≠ .expired ∨ v = 0
            ∨ (∃ d, d ≠ c ∧ s.ownFuel f.zone d = true ∧ (s.chan d).valvePt.closed = false) → u.zs = s.zs))
    ∧ ∀ (s : State) (c : Chan) (f : FuelCfg) (p : Proof), s.configured = true → s.fuel? c = some f →
      (s.chan c).proof = some p → (s.chan c).state = .proving → p.window ≤ s.now →
      ∃ u, exec (.provingWindowExpiry c) s = .next (finish s u)
        ∧ (u.chan c).state = (if s.locksOut c f .lightOffFail = true then .lockedOut else .tripped)
        ∧ (u.chan c).cause = some .lightOffFail ∧ (u.chan c).shutReleased = false ∧ (u.chan c).proof = none
        ∧ (u.chan c).setpoint = 0 ∧ (u.acct c).count = min ((s.acct c).count + 1) 65535
        ∧ ∀ d, d ≠ c → u.chan d = s.chan d

/-- FLAME_FAILURE_EXPIRY of a LIT zone with an open own channel, AIR_FAILURE_EXPIRY of a LIT zone, and ZONE_TRIP of a
zone in PURGING, READY or LIT are local trips. The zone is TRIPPED under the next epoch with its trip hold running. A
cause entry joins the first-out record: FLAME_FAILURE with the lowest open own channel, AIR_FAILURE with the supply,
HOST_TRIP, each with the own station as origin, the present time and the new epoch. The trip snapshot holds the time,
the epoch, the cause, D_eff, the balance and the own fuel channels as they stood. With a queue of at most 12 frames,
one in send at most, a TRIP frame with the zone, the epoch, the cause and the channel waits. Every own fuel channel
of the zone is shut, those in OFF, PROVING, RUNNING, LIMITED or STOPPING are TRIPPED with cause ZONE_TRIP; the
station's zone trips are counted. ZONE_TRIP of a zone that does not participate is refused BAD_ARGUMENT (04 R64, R75,
R77, R79, R81, R84, R85; 03 R57; 09 R171). -/
def Obligations.LocalTrips : Prop :=
  (∀ (s : State) (w : Word), s.serves 10 [w] → (∀ z : Zone, w.toNat = z.val → s.participates z = false) →
    exec (.zoneTrip w) s = .next (s.refuse 10 .badArgument))
  ∧ ∀ (s : State) (z : Zone) (x : Instr) (cause : ZoneCause) (ch : Option Chan) (value : Option Nat) (ep : Word)
      (e : CauseEntry),
    (x = .flameFailureExpiry z ∧ (s.zone z).state = .lit ∧ (∃ d, (s.zone z).flameTimer = some d ∧ d ≤ s.now)
        ∧ cause = .flameFailure ∧ value = none
        ∧ ∃ c, ch = some c ∧ s.ownFuel z c = true ∧ (s.chan c).shutReleased = true
          ∧ ∀ d, d < c → s.ownFuel z d = true → (s.chan d).shutReleased = false)
      ∨ (x = .airFailureExpiry z ∧ (s.zone z).state = .lit ∧ (∃ d, (s.zone z).airClock = some d ∧ d ≤ s.now)
        ∧ cause = .airFailure ∧ ch = none ∧ value = some (s.firing z).air.supply)
      ∨ ((∃ w, x = .zoneTrip w ∧ w.toNat = z.val ∧ s.serves 10 [w]) ∧ s.participates z = true
        ∧ ((s.zone z).state = .purging ∨ (s.zone z).state = .ready ∨ (s.zone z).state = .lit)
        ∧ cause = .hostTrip ∧ ch = none ∧ value = none) →
    ep = (match (s.zone z).epoch with
      | none => 1
      | some h => h + 1) →
    e = ⟨cause, s.ownStation, ch, none, s.stamp, ep, value⟩ →
    ∃ u, exec x s = .next (finish s u)
      ∧ (u.zone z).state = .tripped
      ∧ (u.zone z).epoch = some ep
      ∧ (u.zone z).tripHold = .running (s.now + 250000 * s.zoneParam z ZoneCfg.tripHold)
      ∧ (u.zone z).firstOut = some (match (s.zone z).firstOut with
          | none => ⟨e, [], 0⟩
          | some fo => if fo.later.length < 4 then { fo with later := fo.later ++ [e] }
            else { fo with dropped := min (fo.dropped + 1) 255 })
      ∧ (u.zone z).snapshot = some ⟨s.stamp, ep, cause, (s.demand z).dEff, (s.firing z).air,
          (s.ownFuels z).map fun c => ⟨c, (s.chan c).state, (s.chan c).alloc, (s.chan c).actual, (s.chan c).setpoint,
            (s.chan c).feedPt.feedValue⟩⟩
      ∧ (s.pt.mode ≠ .unconfigured → s.li.tx.length ≤ 12 → s.li.tx.countP TxFrame.inSend ≤ 1 →
          (∀ g ∈ s.li.tx, g.cls = .trip → (tripZoneByte g).toNat < 4) →
          ∃ g ∈ u.li.tx, g.cls = .trip ∧ g.inSend = false ∧ g.payload = (TripMsg.mk z ep cause ch).words)
      ∧ (∀ y, y ≠ z → u.zone y = s.zone y)
      ∧ (∀ c, s.ownFuel z c = true → (u.chan c).shutReleased = false)
      ∧ (∀ c, s.ownFuel z c = true → TripCause.zoneTrip.reaches (s.chan c).state = true →
          (u.chan c).state = .tripped ∧ (u.chan c).cause = some .zoneTrip)
      ∧ (∀ c, s.ownFuel z c = false → u.chan c = s.chan c)
      ∧ u.sr.zoneTrips = min (s.sr.zoneTrips + 1) 65535
      ∧ ((∃ w, x = .zoneTrip w) → u.sp.buffer = .ready ⟨10, .ok, 0, []⟩)

/-- A FLAME sample that makes the flame view of a zone proven, in NORMAL or ISOLATED: LIT stops its flame timer and drops
the flame-lost mark, and a running timer makes a flicker, kept with the two before it, with FLAME_UNSTABLE by their
age; in READY and LIT each own igniter proof with SHUT released passes, its channel runs at Hmin and IGNITER off is
sent or pending; READY becomes LIT with such a channel or a running one, DARK with ESD_N released when a FRESH peer
reports LIT. One that ends the view leaves READY, TRIPPED and DARK, and makes LIT DARK if the fuel-closed test holds,
else starts its flame timer (04 R65, R69 to R71, R74, R76). FLAME_FAILURE_EXPIRY of a LIT zone without an open own
channel: DARK if the fuel-closed test holds, else the flame-lost mark is set and the timer stops; FLICKER_EXPIRY ends
FLAME_UNSTABLE when the oldest of three flickers is 60 s old; ZONE_TRIP in DARK or TRIPPED is refused STATE (04 R74,
R75, R79). -/
def Obligations.FlameTimers : Prop :=
  (∀ (s : State) (z : Zone) (src ql : Byte) (v el : Word), s.configured = true → s.decides = true →
      s.hasScanner z = true → src.toNat = 16 + z.val → ql.toNat ≤ 1 →
      ∃ t, exec (.sampleRecord src 6 v ql el) s = .next t
        ∧ (v ≠ 0 → (s.zone z).view = false → (t.zone z).view = true
          ∧ ((s.zone z).state = .lit → (t.zone z).state = .lit ∧ (t.zone z).flameTimer = none
            ∧ (t.zone z).flameLost = false
            ∧ ((s.zone z).flameTimer = none → (t.zone z).flickers = (s.zone z).flickers
              ∧ t.cond (idFlameUnstable z) = s.cond (idFlameUnstable z))
            ∧ ((s.zone z).flameTimer ≠ none →
              (t.zone z).flickers = (⟨s.now, s.stamp⟩ :: (s.zone z).flickers).take 3
              ∧ (t.cond (idFlameUnstable z) = true
                  ↔ ∃ x, (s.zone z).flickers[1]? = some x ∧ s.now ≤ x.moment + 15000000)))
          ∧ ((s.zone z).state = .ready → ((t.zone z).state = .lit ↔ s.zoneRuns z = true
              ∨ ∃ c p, s.ownFuel z c = true ∧ (s.chan c).proof = some p ∧ p.igniter = true ∧ p.released = true)
            ∧ ((t.zone z).state ≠ .lit → (t.zone z).state = .ready))
          ∧ ((s.zone z).state = .dark →
              ((t.zone z).state = if s.peerReports z .lit = true ∧ s.esd = false then .lit else .dark))
          ∧ ((s.zone z).state = .ready ∨ (s.zone z).state = .lit → ∀ c p, s.ownFuel z c = true →
            (s.chan c).proof = some p → p.igniter = true → p.released = true →
            (t.chan c).proof = none ∧ (t.chan c).state = (if s.pt.mode = .isolated then .limited else .running)
              ∧ (t.chan c).alloc = (s.chan c).hmin
              ∧ ((t.chan c).queued = some (.igniter false)
                ∨ ∃ fl, (t.chan c).inFlight = some fl ∧ fl.cmd = .igniter false)))
        ∧ (v = 0 → (s.zone z).view = true → (∀ n, (s.peer n).showsFlame z = false) → (t.zone z).view = false
          ∧ ((s.zone z).state = .lit →
            (s.fuelClosed z = true → (t.zone z).state = .dark)
            ∧ (s.fuelClosed z = false → (t.zone z).state = .lit
              ∧ (t.zone z).flameTimer = some (s.now + 250 * s.zoneParam z ZoneCfg.flameResponse)))
          ∧ ((s.zone z).state = .ready ∨ (s.zone z).state = .tripped ∨ (s.zone z).state = .dark →
            (t.zone z).state = (s.zone z).state)))
    ∧ (∀ (s : State) (z : Zone) (d : Nat), (s.zone z).state = .lit → (s.zone z).flameTimer = some d → d ≤ s.now →
      s.ownFuelOpen z = false →
      (s.fuelClosed z = true → ∃ u, exec (.flameFailureExpiry z) s = .next (finish s u)
        ∧ (u.zone z).state = .dark ∧ ∀ y, y ≠ z → u.zone y = s.zone y)
      ∧ (s.fuelClosed z = false → exec (.flameFailureExpiry z) s = .next (finish s
          (s.mapZone z fun r => { r with flameTimer := none, flameLost := true }))))
    ∧ (∀ (s : State) (z : Zone) (a b d : Flicker), s.configured = true → s.cond (idFlameUnstable z) = true →
      (s.zone z).flickers = [a, b, d] → d.moment + 15000000 ≤ s.now →
      ∃ u, exec (.flickerExpiry z) s = .next (finish s u) ∧ u.cond (idFlameUnstable z) = false ∧ u.plant = s.plant)
    ∧ ∀ (s : State) (w : Word) (z : Zone), s.serves 10 [w] → w.toNat = z.val → s.participates z = true →
      (s.zone z).state = .dark ∨ (s.zone z).state = .tripped → exec (.zoneTrip w) s = .next (s.refuse 10 .state)

/-- ESD_ASSERTION in NORMAL or ISOLATED trips the participating zones in PURGING, READY and LIT, each under its next
epoch with cause TRIP_INPUT and the own station as origin, and leaves a DARK or TRIPPED zone, and a zone that does
not participate, as it is; its own fuel channels are shut, and each trip is counted (04 R78, R81, R84; 09 R171; the
premise on the count is an invariant, O59). In another mode, or with the pin asserted already, nothing but the pin
changes; ESD_RELEASE changes the pin alone (04 R78). -/
def Obligations.EsdTrips : Prop :=
  (∀ s : State, s.esd = false → s.decides = true → ∃ u, exec .esdAssertion s = .next (finish s u) ∧ u.esd = true
      ∧ (finish s u).esd = true
      ∧ (∀ z, s.participates z = false → u.zone z = s.zone z)
      ∧ ∀ z, s.participates z = true →
        ((s.zone z).state.trippable = false → u.zone z = s.zone z
            ∧ ((finish s u).zone z).state = (s.zone z).state)
        ∧ ((s.zone z).state.trippable = true → (u.zone z).state = .tripped
            ∧ ((finish s u).zone z).state = .tripped
            ∧ (u.zone z).epoch = some (match (s.zone z).epoch with
                | none => 1
                | some h => h + 1)
            ∧ (u.zone z).tripHold = .running (s.now + 250000 * s.zoneParam z ZoneCfg.tripHold)
            ∧ ((s.zone z).firstOut = none → ∃ ep, (u.zone z).epoch = some ep
              ∧ (u.zone z).firstOut = some ⟨⟨.tripInput, s.ownStation, none, none, s.stamp, ep, none⟩, [], 0⟩)
            ∧ ∀ c, s.ownFuel z c = true → (u.chan c).shutReleased = false)
      ∧ (s.sr.zoneTrips ≤ 65535 → u.sr.zoneTrips = min (s.sr.zoneTrips
          + allZones.countP fun z => s.participates z && (s.zone z).state.trippable) 65535))
    ∧ (∀ s : State, s.esd = false → s.decides = false → exec .esdAssertion s = .next { s with esd := true })
    ∧ (∀ s : State, s.esd = true → exec .esdAssertion s = .next s)
    ∧ ∀ s : State, exec .esdRelease s = .next { s with esd := false }

/-- TRIP_TAKEN in NORMAL or ISOLATED of a TRIP for a participating zone: a newer epoch trips a zone in PURGING, READY or
LIT as a peer trip: the zone is TRIPPED with its first-out record holding PEER_TRIP with the frame's origin, cause
and channel, its trip hold runs, the trip snapshot is taken, its own fuel channels are shut, no TRIP frame joins or
leaves the transmit queue and no trip is counted; in DARK and TRIPPED it is kept as the zone's epoch. The entry joins
a first-out record that is set, as a later one or counted as dropped; in DARK a clear record stays clear. An epoch
that is not newer changes nothing but the queue. A TRIP that fails its checks, for a zone that does not participate,
or in another mode only leaves the queue (04 R80, R82, R84, R85). -/
def Obligations.PeerTrips : Prop :=
  (∀ (s : State) (f : RxFrame), s.heads .trip f →
      parseTrip f.payload = none ∨ (∃ m, parseTrip f.payload = some m
        ∧ (s.decides = false ∨ s.participates m.zone = false)) →
      exec .tripTaken s = .next { s with li := { s.li with rx := s.li.rx.tail } })
    ∧ ∀ (s : State) (f : RxFrame) (m : TripMsg), s.heads .trip f → parseTrip f.payload = some m → s.decides = true →
    s.participates m.zone = true →
    ∃ u, exec .tripTaken s = .next (finish s u)
      ∧ u.still = ({ s with li := { s.li with rx := s.li.rx.tail } } : State).still
      ∧ u.li.tx.filter (fun g => g.cls == .trip) = s.li.tx.filter (fun g => g.cls == .trip)
      ∧ (∀ y, y ≠ m.zone → u.zone y = s.zone y)
      ∧ ((∃ h, (s.zone m.zone).epoch = some h ∧ serialNewer m.epoch h = false) →
          u = { s with li := { s.li with rx := s.li.rx.tail } })
      ∧ ((∀ h, (s.zone m.zone).epoch = some h → serialNewer m.epoch h = true) →
          (u.zone m.zone).epoch = some m.epoch
            ∧ ((s.zone m.zone).state.trippable = true →
                (u.zone m.zone).state = .tripped ∧ (u.zone m.zone).firstOut ≠ none
                  ∧ ((s.zone m.zone).firstOut = none → (u.zone m.zone).firstOut
                    = some ⟨⟨.peerTrip, f.origin, m.channel, some m.cause, s.stamp, m.epoch, none⟩, [], 0⟩)
                  ∧ (u.zone m.zone).tripHold = .running (s.now + 250000 * s.zoneParam m.zone ZoneCfg.tripHold)
                  ∧ (u.zone m.zone).snapshot = some ⟨s.stamp, m.epoch, .peerTrip, (s.demand m.zone).dEff,
                      (s.firing m.zone).air, (s.ownFuels m.zone).map fun c => ⟨c, (s.chan c).state, (s.chan c).alloc,
                        (s.chan c).actual, (s.chan c).setpoint, (s.chan c).feedPt.feedValue⟩⟩
                  ∧ ∀ c, s.ownFuel m.zone c = true → (u.chan c).shutReleased = false)
            ∧ (∀ fo e, (s.zone m.zone).firstOut = some fo →
                e = CauseEntry.mk .peerTrip f.origin m.channel (some m.cause) s.stamp m.epoch none →
                (u.zone m.zone).firstOut = some (if fo.later.length < 4 then { fo with later := fo.later ++ [e] }
                  else { fo with dropped := min (fo.dropped + 1) 255 }))
            ∧ ((s.zone m.zone).state = .tripped → (s.zone m.zone).firstOut = none → (u.zone m.zone).firstOut
                = some ⟨⟨.peerTrip, f.origin, m.channel, some m.cause, s.stamp, m.epoch, none⟩, [], 0⟩)
            ∧ ((s.zone m.zone).state = .dark → (s.zone m.zone).firstOut = none → (u.zone m.zone).firstOut = none)
            ∧ ((s.zone m.zone).state.trippable = false → (u.zone m.zone).state = (s.zone m.zone).state
                ∧ (u.zone m.zone).tripHold = (s.zone m.zone).tripHold
                ∧ (u.zone m.zone).snapshot = (s.zone m.zone).snapshot ∧ u.ce = s.ce))

/-! ### Demand and allocation -/

/-- SET_DEMAND in NORMAL or ISOLATED: the target is clamped to the zone's maximum heat, set under the next epoch with
this station as setter, answered OK or CLAMPED with the target set, and takes effect at once on an unknown record; in
STARTING it is refused STATE, a zone above 3 BAD_ARGUMENT (05 R91, R95). A DEMAND frame of the new demand is offered: it
replaces the waiting DEMAND of the zone or joins a queue with a free place, and the unannounced mark is clear; a full
queue without a waiting frame of the zone or of lower priority refuses it, and the mark is set (01 R11, R12; 05 R92). -/
def Obligations.DemandSet : Prop :=
  ∀ (s : State) (wz wt : Word), s.serves 3 [wz, wt] →
    (4 ≤ wz.toNat → exec (.setDemand wz wt) s = .next (s.refuse 3 .badArgument))
    ∧ ∀ z : Zone, wz.toNat = z.val →
      (s.pt.mode = .starting → exec (.setDemand wz wt) s = .next (s.refuse 3 .state))
      ∧ (s.pt.mode ≠ .starting → ∃ t, exec (.setDemand wz wt) s = .next t
          ∧ (t.demand z).known = some ⟨min wt.toNat (s.zoneParam z ZoneCfg.maxHeat),
              (match (s.demand z).known with
                | none => 1
                | some d => d.epoch + 1), s.ownStation⟩
          ∧ ((s.demand z).known = none → (t.demand z).slewClock = none
              ∧ (t.demand z).dEff = min wt.toNat (s.zoneParam z ZoneCfg.maxHeat))
          ∧ ((s.demand z).known ≠ none → (t.demand z).dEff = (s.demand z).dEff)
          ∧ (∀ y, y ≠ z → (t.demand y).known = (s.demand y).known ∧ (t.demand y).dEff = (s.demand y).dEff)
          ∧ t.sp.buffer = .ready ⟨3,
              (if wt.toNat ≤ s.zoneParam z ZoneCfg.maxHeat then .ok else .clamped),
              w16 (min wt.toNat (s.zoneParam z ZoneCfg.maxHeat)), []⟩
          ∧ ∀ d, (t.demand z).known = some d → ∃ u, t = finish s u
            ∧ (s.li.tx.length < 12 ∨ s.li.tx.any (replaceable .demand (demandWords z d)) = true →
                (u.demand z).unannounced = false ∧ u.li.seqs.get 3 = s.li.seqs.get 3 + 1
                  ∧ ∃ g ∈ u.li.tx, g.cls = .demand ∧ g.inSend = false ∧ g.payload = demandWords z d
                    ∧ g.seq = s.li.seqs.get 3)
            ∧ (12 ≤ s.li.tx.length → s.li.tx.any (replaceable .demand (demandWords z d)) = false →
                (∀ g ∈ s.li.tx, g.inSend = true ∨ g.cls.code ≤ 3) →
                (u.demand z).unannounced = true ∧ u.li.tx = s.li.tx))

/-- DEMAND_TAKEN: a demand is adopted exactly when the record is unknown, or its epoch is serially newer, or the epochs
are equal and its setter is higher; adopted it becomes the record's and clears the unannounced mark; otherwise the
record stays; a frame that fails its checks only leaves the queue (05 R93, R94). DEMAND_SLEW_STEP moves D_eff toward
the goal by the lesser of the zone's slew and the remaining difference; the clock stops when they are equal and else
runs one second on; before its second the step does nothing (05 R95). That the clock's next moment is `t` plus 1 s
also when the step is taken late is the model's choice (log 24). -/
def Obligations.DemandFollowed : Prop :=
  (∀ (s : State) (f : RxFrame), s.heads .demand f → parseDemand f.payload = none →
    exec .demandTaken s = .next { s with li := { s.li with rx := s.li.rx.tail } })
  ∧ (∀ (s : State) (f : RxFrame) (z : Zone) (d : Demand), s.heads .demand f → parseDemand f.payload = some (z, d) →
    ∃ u, exec .demandTaken s = .next (finish s u)
      ∧ u.li.rx = s.li.rx.tail
      ∧ ((match (s.demand z).known with
            | none => True
            | some h => serialNewer d.epoch h.epoch = true ∨ (d.epoch = h.epoch ∧ h.setter < d.setter)) →
          (u.demand z).known = some d ∧ (u.demand z).unannounced = false
            ∧ ((s.demand z).known = none → (u.demand z).dEff = min d.target (s.zoneParam z ZoneCfg.maxHeat)))
      ∧ (¬ (match (s.demand z).known with
            | none => True
            | some h => serialNewer d.epoch h.epoch = true ∨ (d.epoch = h.epoch ∧ h.setter < d.setter)) →
          u = { s with li := { s.li with rx := s.li.rx.tail } })
      ∧ ∀ y, y ≠ z → u.demand y = s.demand y)
    ∧ (∀ (s : State) (z : Zone) (d : Demand) (t goal slew : Nat), (s.demand z).known = some d →
    (s.demand z).slewClock = some t → goal = min d.target (s.zoneParam z ZoneCfg.maxHeat) →
    slew = s.zoneParam z ZoneCfg.slew →
    exec (.demandSlewStep z) s = .next
      (if t ≤ s.now then
        s.mapDemand z fun r => { r with
          dEff := if r.dEff ≤ goal then r.dEff + min slew (goal - r.dEff) else r.dEff - min slew (r.dEff - goal)
          slewClock :=
            if (if r.dEff ≤ goal then r.dEff + min slew (goal - r.dEff) else r.dEff - min slew (r.dEff - goal)) = goal
            then none else some (t + 250000) }
      else s))

/-- PASS_PERIOD of a passable zone starts a pass from the present snapshot, or marks one owed if a pass is in progress;
PASS_COMPLETION gives the balance record the pass's results and its count, holds the shortfall, and ends the pass;
each own RUNNING channel that was allocatable holds its allocation clamped into [Hmin, Hmax_eff], and a change of it
sets the feed target; other channels stay (03 R48; 05 R98). With a pass owed the completion starts it from the
snapshot then taken. A zone that leaves LIT abandons its pass, clears its balance but for the supply and the count,
and its completion is without effect, also in a zone that is LIT again (05 R97, R112; the latter: log 20, DEDUCED,
the model's). DEMAND_UNREACHABLE_EXPIRY makes DEMAND_UNREACHABLE true (05 R96 to R98, R109, R111; 06 R120). -/
def Obligations.PassesRun : Prop :=
  (∀ (s : State) (z : Zone) (d : Nat), (s.firing z).period = some d → d ≤ s.now → s.passable z = true →
      ((s.firing z).pass = none → exec (.passPeriod z) s = .next (s.mapFiring z fun x => { x with
        pass := some ⟨s.passInput z, false⟩, period := some (s.now + 125000) }))
      ∧ ((s.firing z).pass ≠ none → exec (.passPeriod z) s = .next (s.mapFiring z fun x => { x with
        period := none, dirty := true })))
    ∧ (∀ (s : State) (z : Zone) (p : PassInput), (s.firing z).pass = some ⟨p, true⟩
        ∨ ((s.firing z).pass = some ⟨p, false⟩ ∧ (s.zone z).state ≠ .lit) →
      exec (.passCompletion z) s = .next (finish s (s.mapFiring z fun x => { x with pass := none, dirty := false })))
    ∧ (∀ (s : State) (z : Zone) (w : Word), s.serves 10 [w] → w.toNat = z.val → s.participates z = true →
      (s.zone z).state = .lit → s.configured = true → ∃ u, exec (.zoneTrip w) s = .next (finish s u)
        ∧ u.firing z = ⟨{ AirBalance.initial with
              supply := (s.firing z).air.supply, passCount := (s.firing z).air.passCount },
            none, none, false, (s.firing z).pass.map fun p => { p with doomed := true }⟩
        ∧ u.cr.held.get z = 0 ∧ u.cond (idAirShort z) = false ∧ u.cond (idDemandUnreachable z) = false
        ∧ ∀ y, y ≠ z → u.firing y = s.firing y)
    ∧ (∀ (s : State) (z : Zone) (p : PassInput), (s.firing z).pass = some ⟨p, false⟩ → (s.zone z).state = .lit →
      ∃ u, exec (.passCompletion z) s = .next (finish s u)
        ∧ ((s.firing z).dirty = false → (u.firing z).pass = none
          ∧ (u.firing z).period = (s.firing z).period)
        ∧ ((s.firing z).dirty = true → (u.firing z).pass = some ⟨u.passInput z, false⟩
          ∧ (u.firing z).period = some (s.now + 125000))
        ∧ (u.firing z).dirty = false
        ∧ (u.firing z).air = p.balance p.run ((s.firing z).air.passCount + 1)
        ∧ u.cr.held.get z = (p.balance p.run ((s.firing z).air.passCount + 1)).shortfall
        ∧ (∀ y, y ≠ z → u.firing y = s.firing y) ∧ u.still = s.still
        ∧ (∀ a ∈ p.run.allocs, s.isOwn a.member.station = true → (s.chan a.member.chan).state = .running →
            (∀ b ∈ p.run.allocs, s.isOwn b.member.station = true → b.member.chan = a.member.chan → b = a) →
            ∀ f, s.fuel? a.member.chan = some f →
            (u.chan a.member.chan).alloc
                = (if a.heat < (s.chan a.member.chan).hmin then (s.chan a.member.chan).hmin
                  else if (s.chan a.member.chan).hmaxEff < a.heat then (s.chan a.member.chan).hmaxEff else a.heat)
              ∧ ((u.chan a.member.chan).alloc ≠ (s.chan a.member.chan).alloc →
                  (u.chan a.member.chan).target = feedOf f (u.chan a.member.chan).alloc))
        ∧ ∀ c, (s.chan c).state ≠ .running
            ∨ (∀ a ∈ p.run.allocs, s.isOwn a.member.station = true → a.member.chan ≠ c) → u.chan c = s.chan c)
    ∧ ∀ (s : State) (z : Zone) (d : Nat), s.configured = true → (s.firing z).unmetClock = some d → d ≤ s.now →
      ∃ u, exec (.demandUnreachableExpiry z) s = .next (finish s u)
        ∧ u.cond (idDemandUnreachable z) = true
        ∧ u.plant = (s.mapFiring z fun x => { x with unmetClock := none }).plant

/-- A division gives each member floor(g x span / sum) and the units that remain one each to the members with span
above 0 in order; the shares sum to the grant and none exceeds its span; the members of a pass stand in ascending
(station, channel) order (05 R104). -/
def Obligations.DivisionExact : Prop :=
  (∀ (g : Nat) (spans : List Nat), g ≤ spans.sum →
      (divide g spans).length = spans.length ∧ (divide g spans).sum = g
        ∧ ∀ i x share, spans[i]? = some x → (divide g spans)[i]? = some share →
          share ≤ x ∧ share = g * x / spans.sum +
            if 0 < x ∧ (spans.take i).countP (fun y => decide (0 < y)) < g - (spans.map fun y => g * y / spans.sum).sum
            then 1 else 0)
    ∧ ∀ (s : State) (z : Zone), (s.passInput z).allocatable.Pairwise fun a b =>
        a.station < b.station ∨ (a.station = b.station ∧ a.chan < b.chan)

/-- In every pass the heat granted above Hmin to the non-trim allocatable channels is at most D_eff - MinHeat, and 0
where that is negative (05 R105). In a pass that is not AIR_SHORT the exact air of the non-trim allocatable channels
at their allocations and of the fixed ones is at most the supply, with or without a trim channel (05 R106); without
one that is all the air of the pass. The trim channel is allocated its target, D_eff less the actual heats of the
others within [Hmin, Hmax_eff], or, where the air cap lies below the target, the cap but at least Hmin (05 R107).
Every allocation of a pass lies between its channel's Hmin and Hmax_eff (05 R102 to R107). -/
def Obligations.AllocationBounds : Prop :=
  (∀ p : PassInput, ((p.run.allocs.filter fun a => decide (p.trim ≠ some a.member)).map fun a =>
      a.heat - a.member.hmin).sum ≤ p.dEff - p.minHeat)
    ∧ (∀ p : PassInput, p.isShort = false →
      ((p.run.allocs.filter fun a => decide (p.trim ≠ some a.member)).map fun a =>
          a.heat * a.member.airFactor * p.lambda).sum
        + (p.fixed.map fun m => m.counted * m.airFactor * p.lambda).sum ≤ p.supply * 1000000)
    ∧ (∀ p : PassInput, p.isShort = false → p.trim = none → p.allocatedAir p.run ≤ p.supplyMicro)
    ∧ (∀ (p : PassInput) (t : Member) (others : List Member) (target cap : Int), p.isShort = false →
      p.trim = some t → t.hmin ≤ t.hmaxEff →
      others = (p.allocatable.filter fun m => decide ((m.station, m.chan) ≠ (t.station, t.chan))) ++ p.fixed →
      target = max (t.hmin : Int) (min (t.hmaxEff : Int) ((p.dEff : Int) - (others.map Member.actual).sum)) →
      cap = ((p.supply * 1000000 : Nat) - ((others.map fun m => m.actual * m.airFactor * p.lambda).sum : Nat) : Int)
        / (t.airFactor * p.lambda : Nat) →
      ∃ a ∈ p.run.allocs, a.member = t
        ∧ (a.heat : Int) = (if target ≤ cap then target else max (t.hmin : Int) cap)
        ∧ (cap < target → p.run.airLimited = true))
    ∧ ∀ p : PassInput, (∀ m ∈ p.allocatable, m.hmin ≤ m.hmaxEff) →
      ∀ a ∈ p.run.allocs, a.member ∈ p.allocatable ∧ a.member.hmin ≤ a.heat ∧ a.heat ≤ a.member.hmaxEff

/-! ### The cooler -/

/-- A bed pressure sample at a COOLER fan in RUNNING, in NORMAL or ISOLATED, of any quality, P being the value in use
after it: with L = D_eff x 1000 / D_nom clamped to [300, 1200], F1 = round(F_base x L / 1000), F2 = F1 + G_bed x
(P - P_ref) / 100 toward zero, F3 = F2 + ceil(held shortfall x pull / 1000), F4 = F3 + G_t x (T_out - T_lim) when T_out
is present and above T_lim, F5 = F4 clamped to [F_min, F_max], the setpoint moves toward F5 by at most max(1,
floor(slew x e / 1000)), unless it is frozen with P below P_low; the terms are kept, and SET_FLOW is issued exactly
when the setpoint changes (06 R117 to R122, R124). -/
def Obligations.BedSampleMovesFan : Prop :=
  ∀ (s : State) (src ql : Byte) (v el : Word) (c : Chan) (f : FanCfg) (l p e prev f5 lim new : Nat)
      (f1 f2 f3 f4 : Int),
    s.configured = true → s.fan? c = some f → src.toNat = c.val → f.role = .cooler →
    (s.chan c).state = .running → s.decides = true → f.fmin ≤ f.fmax →
    p = (if ql.toNat ≤ 1 then (if v.toNat < 32768 then min v.toNat 20000 else 0)
      else (s.chan c).bedPt.last.getD f.pRef) →
    e = min el.toNat 2000 → prev = (s.chan c).setpoint →
    l = min 1200 (max 300 ((s.demand f.loadZone).dEff * 1000 / s.zoneParam f.loadZone ZoneCfg.nominalHeat)) →
    f1 = ((2 * (f.fbase * l) + 1000) / 2000 : Nat) →
    f2 = f1 + Int.tdiv ((f.gBed : Int) * ((p : Int) - f.pRef)) 100 →
    f3 = f2 + ((s.cr.held.get f.zone * f.pull + 999) / 1000 : Nat) →
    f4 = f3 + (match s.tOut with
      | some t => if s.tLim < t then (f.gT : Int) * ((t : Int) - s.tLim) else 0
      | none => 0) →
    (f5 : Int) = min (f.fmax : Int) (max (f.fmin : Int) f4) →
    lim = max 1 (f.slew * e / 1000) →
    new = (if (s.reg c).frozen = true ∧ p < f.pLow then prev
      else if prev ≤ f5 then min (prev + lim) f5 else max (prev - lim) f5) →
    ∃ u, exec (.sampleRecord src 3 v ql el) s = .next (finish s u)
      ∧ (u.chan c).setpoint = new
      ∧ (u.reg c).last = some ⟨l, f1, f2, f3, f4, f5, e, lim⟩
      ∧ (u.reg c).slewLimited = decide (lim < (f5 - prev) + (prev - f5))
      ∧ (new = prev → (u.chan c).inFlight = (s.chan c).inFlight ∧ (u.chan c).queued = (s.chan c).queued)
      ∧ (new ≠ prev → (s.chan c).inFlight = none →
          (u.chan c).inFlight = some ⟨.setFlow new, (s.chan c).tagCtr, 1, 0, none⟩)
      ∧ (new ≠ prev → (s.chan c).inFlight ≠ none →
          (u.chan c).inFlight = (s.chan c).inFlight ∧ (u.chan c).queued = some (.setFlow new))
      ∧ (u.chan c).state = .running ∧ ∀ d, d ≠ c → u.chan d = s.chan d

/-- BLOW_THROUGH_EXPIRY of a running clock makes BED_PRESSURE_LOW true and freezes a COOLER fan;
CLINKER_TEMP_HIGH_EXPIRY makes CLINKER_TEMP_HIGH true; a clock that has not run out does nothing (06 R123, R124,
R126). -/
def Obligations.CoolerClocks : Prop :=
  (∀ (s : State) (c : Chan) (f : FanCfg) (d : Nat), s.configured = true → s.fan? c = some f →
      (s.reg c).blowClock = some d →
      if d ≤ s.now then ∃ u, exec (.blowThroughExpiry c) s = .next (finish s u)
        ∧ u.cond (idBedLow c) = true ∧ (u.reg c).frozen = decide (f.role = .cooler) ∧ (u.reg c).blowClock = none
        ∧ (∀ b, b ≠ c → u.reg b = s.reg b) ∧ u.ce = s.ce ∧ u.still = s.still
      else exec (.blowThroughExpiry c) s = .next s)
    ∧ ∀ (s : State) (d : Nat), s.configured = true → s.cr.highClock = some d →
      if d ≤ s.now then ∃ u, exec .clinkerTempHighExpiry s = .next (finish s u)
        ∧ u.cond idClinkerHigh = true ∧ u.cr = { s.cr with highClock := none } ∧ u.ce = s.ce ∧ u.still = s.still
      else exec .clinkerTempHighExpiry s = .next s

/-! ### Alarms and the floor view -/

/-- Writes of a condition. RISE. Of an id not listed, of priority 1 or with a place free: the entry stands at the tail,
ACTIVE_UNACK, with the counter's next value that no entry holds, the present time and the value capped at 65535 (log
13, DEDUCED); the raise is counted and ALARM_CHANGED set. Of an id not listed, of priority 2 or 3 with 27 listed: the
entry of the lowest rank, the oldest of its rank, leaves (a CLEARED_UNACK of priority 3; for priority 2 also one of
priority 2; an ACTIVE_ACKED of priority 3), joins the pending set if its condition is true, and the new entry stands
at the tail; without a candidate the id joins the pending set, LIST_FULL is true and the list stays. Of a
CLEARED_UNACK entry: it is raised again at the tail with a new sequence by the same rule. FALL. Of an id not listed:
it is not pending, the list stays. ACTIVE_UNACK becomes CLEARED_UNACK with the present time as its clear time, in its
position. ACTIVE_ACKED is removed, and if that frees a place the first pending id, priority 2 before 3, then
ascending, is raised at the tail, with the value that its condition rose with (log 13). A write of a SHELVED id's
condition leaves the list. No other entry and no other condition changes (07 R133 to R136, R142 to R144, R147, R148).
-/
def Obligations.AlarmRaised : Prop :=
  (∀ (s : State) (id : AlarmId) (v : Option Nat), s.AlarmSound → s.configured = true → s.cond id = false →
    s.al.entry? id = none → alarmPriority id = 1 ∨ s.al.lowCount < 27 →
    ∃ seq, seq ∉ s.al.list.map AlarmEntry.seq
      ∧ (s.al.counter + 1 ∉ s.al.list.map AlarmEntry.seq → seq = s.al.counter + 1)
      ∧ (s.setCond id true v).al.list
          = s.al.list ++ [⟨id, .activeUnack, seq, s.stamp, none, v.map fun n => min n 65535, none⟩]
      ∧ (s.setCond id true v).al.counter = seq
      ∧ (s.setCond id true v).cond id = true
      ∧ ((s.setCond id true v).alarm id).lastSeq = some seq
      ∧ ((s.setCond id true v).alarm id).shiftRaises = min ((s.alarm id).shiftRaises + 1) 255
      ∧ (s.setCond id true v).sp.notices.alarmChanged = true
      ∧ (alarmPriority id = 1 → (s.setCond id true v).sp.notices.p1Raised = true)
      ∧ (s.setCond id true v).plant = s.plant)
    ∧ (∀ (s : State) (id : AlarmId) (v : Option Nat) (u : State), s.AlarmSound → s.configured = true →
      s.cond id = false → u = s.setCond id true v →
      (s.al.entry? id = none → alarmPriority id ≠ 1 → s.al.lowCount = 27 →
        (∀ (a b : List AlarmEntry) (d : AlarmEntry), s.al.list = a ++ d :: b →
          d.displaceRank (alarmPriority id) < 3 →
          (∀ x ∈ a, d.displaceRank (alarmPriority id) < x.displaceRank (alarmPriority id)) →
          (∀ x ∈ b, d.displaceRank (alarmPriority id) ≤ x.displaceRank (alarmPriority id)) →
          ∃ seq, seq ∉ (a ++ b).map AlarmEntry.seq
            ∧ (s.al.counter + 1 ∉ (a ++ b).map AlarmEntry.seq → seq = s.al.counter + 1) ∧ u.al.counter = seq
            ∧ u.al.list = a ++ b ++ [⟨id, .activeUnack, seq, s.stamp, none, v.map fun n => min n 65535, none⟩]
            ∧ (u.alarm d.id).waiting = s.cond d.id)
        ∧ ((∀ x ∈ s.al.list, x.displaceRank (alarmPriority id) = 3) →
          u.al.list = s.al.list ∧ u.al.counter = s.al.counter ∧ (u.alarm id).waiting = true ∧ u.listFull = true))
      ∧ (∀ e, s.al.entry? id = some e →
        (e.state = .clearedUnack → ∃ seq, u.al.counter = seq
          ∧ seq ∉ (s.al.list.filter fun x => decide (x.id ≠ id)).map AlarmEntry.seq
          ∧ (s.al.counter + 1 ∉ (s.al.list.filter fun x => decide (x.id ≠ id)).map AlarmEntry.seq →
            seq = s.al.counter + 1)
          ∧ u.al.list = (s.al.list.filter fun x => decide (x.id ≠ id))
            ++ [⟨id, .activeUnack, seq, s.stamp, none, v.map fun n => min n 65535, none⟩])
        ∧ (e.state = .shelved → u.al = { s.al with recs := u.al.recs }))
      ∧ u.cond id = true ∧ (∀ q, q ≠ id → u.cond q = s.cond q) ∧ u.plant = s.plant)
    ∧ ∀ (s : State) (id : AlarmId) (v : Option Nat) (u : State), s.AlarmSound → s.configured = true →
      s.cond id = true → u = s.setCond id false v →
      (s.al.entry? id = none → u.al.list = s.al.list ∧ (u.alarm id).waiting = false)
      ∧ (∀ e, s.al.entry? id = some e →
        (e.state = .activeUnack → u.al.list = s.al.list.map fun x =>
          if x.id = id then { x with state := .clearedUnack, clearTime := some s.stamp } else x)
        ∧ (e.state = .activeAcked →
          (alarmPriority id = 1 ∨ (∀ q, (s.alarm q).waiting = false) →
            u.al.list = s.al.list.filter fun x => decide (x.id ≠ id))
          ∧ ∀ p, alarmPriority id ≠ 1 → (s.alarm p).waiting = true →
            (∀ q, (s.alarm q).waiting = true → q ≠ p → alarmPriority p < alarmPriority q
              ∨ (alarmPriority p = alarmPriority q ∧ p < q)) →
            ∃ seq, u.al.list = (s.al.list.filter fun x => decide (x.id ≠ id))
                ++ [⟨p, .activeUnack, seq, s.stamp, none, (s.alarm p).condValue.map fun n => min n 65535, none⟩]
              ∧ seq ∉ (s.al.list.filter fun x => decide (x.id ≠ id)).map AlarmEntry.seq
              ∧ u.al.counter = seq ∧ (u.alarm p).waiting = false
              ∧ ∀ q, q ≠ p → (u.alarm q).waiting = (s.alarm q).waiting)
        ∧ (e.state = .shelved → u.al = { s.al with recs := u.al.recs }))
      ∧ u.cond id = false ∧ (∀ q, q ≠ id → u.cond q = s.cond q) ∧ u.plant = s.plant

/-- An acknowledgement of the own list, by ACK_ALARM of the own number or by ACK_TAKEN: an id not listed, or a sequence
that its entry does not hold, is refused STALE; ACTIVE_UNACK becomes ACTIVE_ACKED in its position; CLEARED_UNACK is
removed, and the others stay; ACTIVE_ACKED is OK without a change; SHELVED is refused STATE; an ACK frame acts in the
same way without an answer (`State.acks`; 07 R138, R139). ACK_ALARM with an id above 113 or a station number outside
1 to 16 is refused BAD_ARGUMENT (07 R138). ACK_ALARM for an alarm of another station: ORIGIN_LOST unless the record
is FRESH or STALE, STALE without a mirror of that sequence, STATE for a SHELVED one, OK at once for an acknowledged
one; otherwise an ACK is offered and the answer is QUEUE_FULL only if it is refused (08 R159, R160). -/
def Obligations.AlarmsAcknowledged : Prop :=
  (∀ (s : State) (o w seq : Word), s.serves 11 [o, w, seq] →
      (stationOf o.toNat = none → exec (.ackAlarm o w seq) s = .next (finish s (s.refuse 11 .badArgument)))
      ∧ ∀ n, stationOf o.toNat = some n →
        (114 ≤ w.toNat → exec (.ackAlarm o w seq) s = .next (finish s (s.refuse 11 .badArgument)))
        ∧ (s.isOwn n = true → ∀ id : AlarmId, w.toNat = id.val → ∃ v r, s.acks id seq v r
            ∧ exec (.ackAlarm o w seq) s = .next (finish s (match r with
              | none => v.ok 11
              | some x => v.refuse 11 x))))
    ∧ (∀ (s : State) (f : RxFrame), s.heads .ack f →
      (f.payload.length ≠ 2 → exec .ackTaken s = .next { s with li := { s.li with rx := s.li.rx.tail } })
      ∧ ∀ w seq, f.payload = [w, seq] →
        (114 ≤ (loByte w).toNat →
          exec .ackTaken s = .next (finish s { s with li := { s.li with rx := s.li.rx.tail } }))
        ∧ ∀ id : AlarmId, (loByte w).toNat = id.val → ∃ v r,
          ({ s with li := { s.li with rx := s.li.rx.tail } } : State).acks id seq v r
            ∧ exec .ackTaken s = .next (finish s v))
    ∧ (∀ (s : State) (o w seq : Word) (n : Station) (id : AlarmId), s.serves 11 [o, w, seq] → stationOf o.toNat = some n →
    s.isOwn n = false → w.toNat = id.val →
    ∃ u r, exec (.ackAlarm o w seq) s = .next (finish s u)
      ∧ u.sp.buffer = .ready ⟨11, r, 0, []⟩
      ∧ (((s.peer n).fresh = .absent ∨ (s.peer n).fresh = .expired) → r = .refused .originLost ∧ u.li = s.li)
      ∧ ((s.peer n).fresh = .fresh ∨ (s.peer n).fresh = .stale →
          (s.fv.mirror? n id = none → r = .refused .stale ∧ u.li = s.li)
          ∧ ∀ m, s.fv.mirror? n id = some m →
            (m.seq ≠ seq → r = .refused .stale ∧ u.li = s.li)
            ∧ (m.seq = seq → m.state = .shelved → r = .refused .state ∧ u.li = s.li)
            ∧ (m.seq = seq → m.state = .activeAcked → r = .ok ∧ u.li = s.li)
            ∧ (m.seq = seq → m.state = .activeUnack ∨ m.state = .clearedUnack →
                u.li = (s.offer .ack (ackWords n id seq) 0 0).1.li
                  ∧ r = if (s.offer .ack (ackWords n id seq) 0 0).2 = .refused then .refused .queueFull else .ok)))

/-- SHELVE of a listed entry of priority 2 or 3 makes it SHELVED in its position until the clamped duration has run,
answered OK or CLAMPED with the minutes; of priority 1 or an id above 113 it is refused BAD_ARGUMENT, of an id not
listed STATE. SHELVE_EXPIRY and UNSHELVE of a shelved entry raise it again while its condition is true and remove it
otherwise; UNSHELVE of an id above 113 is refused BAD_ARGUMENT, of one not listed or not shelved STATE (07 R140,
R141). -/
def Obligations.Shelving : Prop :=
  (∀ (s : State) (w m : Word), s.serves 12 [w, m] →
      (114 ≤ w.toNat → exec (.shelve w m) s = .next (s.refuse 12 .badArgument))
      ∧ ∀ id : AlarmId, w.toNat = id.val →
        (alarmPriority id = 1 → exec (.shelve w m) s = .next (s.refuse 12 .badArgument))
        ∧ (alarmPriority id ≠ 1 → s.al.entry? id = none → exec (.shelve w m) s = .next (s.refuse 12 .state))
        ∧ (alarmPriority id ≠ 1 → s.al.entry? id ≠ none → ∃ u, exec (.shelve w m) s = .next (finish s u)
            ∧ u.al.list = s.al.list.map (fun x => if x.id = id then { x with
                state := .shelved
                shelveEnd := some (s.now + 250000 * (60 * min 480 (max 1 m.toNat))) } else x)
            ∧ u.sp.buffer = .ready ⟨12, (if 1 ≤ m.toNat ∧ m.toNat ≤ 480 then .ok else .clamped),
                w16 (min 480 (max 1 m.toNat)), []⟩
            ∧ u.still = (s.reply 12 (if 1 ≤ m.toNat ∧ m.toNat ≤ 480 then .ok else .clamped)
                (w16 (min 480 (max 1 m.toNat))) []).still))
    ∧ (∀ (s : State) (w : Word), s.serves 13 [w] →
      (114 ≤ w.toNat → exec (.unshelve w) s = .next (s.refuse 13 .badArgument))
      ∧ ∀ id : AlarmId, w.toNat = id.val → (∀ e, s.al.entry? id = some e → e.state ≠ .shelved) →
        exec (.unshelve w) s = .next (s.refuse 13 .state))
    ∧ ∀ (s : State) (id : AlarmId) (e : AlarmEntry) (x : Instr), s.AlarmSound → s.configured = true →
      s.al.entry? id = some e → e.state = .shelved →
      (x = .shelveExpiry id ∧ (∃ d, e.shelveEnd = some d ∧ d ≤ s.now))
        ∨ (∃ w : Word, x = .unshelve w ∧ w.toNat = id.val ∧ s.serves 13 [w]) →
      ∃ u, exec x s = .next (finish s u)
        ∧ (s.cond id = true → ∃ e', u.al.entry? id = some e' ∧ e'.state = .activeUnack
            ∧ u.al.list.getLast? = some e' ∧ e'.shelveEnd = none)
        ∧ (s.cond id = false → u.al.entry? id = none ∧ (u.alarm id).lastSeq = (s.alarm id).lastSeq)
        ∧ ((∃ w : Word, x = .unshelve w) → u.sp.buffer = .ready ⟨13, .ok, 0, []⟩)

/-- ALERT_TAKEN of an ALERT that passes the checks, from an origin whose record is not ABSENT. A report of a state is
judged new, newer, current, behind or older against the mirror held: new is entered at the tail of a view with room,
newer takes the sequence, the state and the raise time, current the state, behind and older leave them. REMOVED takes
away a mirror of the same or an older sequence. In a full view a new one takes the place of the oldest mirror of lower
priority, entered at the tail, with VIEW_FULL as it stands (the flag: log 29, DEDUCED, the model's); without such a
mirror it is turned away and VIEW_FULL is true. Any other ALERT only leaves the queue (08 R151 to R153). -/
def Obligations.AlertsMirrored : Prop :=
  ∀ (s : State) (f : RxFrame), s.heads .alert f →
    (parseAlert f.payload = none → exec .alertTaken s = .next { s with li := { s.li with rx := s.li.rx.tail } })
    ∧ ∀ m, parseAlert f.payload = some m →
      (m.priority ≠ alarmPriority m.id ∨ (s.peer f.origin).fresh = .absent →
        exec .alertTaken s = .next { s with li := { s.li with rx := s.li.rx.tail } })
      ∧ (m.priority = alarmPriority m.id → (s.peer f.origin).fresh ≠ .absent →
        ∃ t, exec .alertTaken s = .next t ∧ t.li = { s.li with rx := s.li.rx.tail }
          ∧ (∀ st, m.state = some st → s.fv.mirror? f.origin m.id = none → s.fv.view.length < 64 →
              t.fv.view = s.fv.view ++ [⟨f.origin, m.id, st, m.seq, m.time, true,
                decide ((s.peer f.origin).fresh = .expired)⟩])
          ∧ (∀ st, m.state = some st → s.fv.mirror? f.origin m.id = none → 64 ≤ s.fv.view.length →
              (∀ (a b : List Mirror) (x : Mirror), s.fv.view = a ++ x :: b → alarmPriority m.id < alarmPriority x.id →
                (∀ y ∈ a, alarmPriority y.id ≤ alarmPriority m.id) →
                t.fv.view = a ++ b ++ [⟨f.origin, m.id, st, m.seq, m.time, true,
                  decide ((s.peer f.origin).fresh = .expired)⟩] ∧ t.fv.full = s.fv.full)
              ∧ ((∀ y ∈ s.fv.view, alarmPriority y.id ≤ alarmPriority m.id) →
                t.fv.view = s.fv.view ∧ t.fv.full = true))
          ∧ (∀ st x, m.state = some st → s.fv.mirror? f.origin m.id = some x → s.ViewSound →
              ∃ y, t.fv.mirror? f.origin m.id = some y
                ∧ (serialNewer m.seq x.seq = true → y.seq = m.seq ∧ y.state = st ∧ y.raiseTime = m.time)
                ∧ (m.seq = x.seq → x.state.stage ≤ st.stage → y.seq = x.seq ∧ y.state = st)
                ∧ (m.seq = x.seq → st.stage < x.state.stage → y.seq = x.seq ∧ y.state = x.state)
                ∧ (m.seq ≠ x.seq → serialNewer m.seq x.seq = false → y = x))
          ∧ (∀ x, m.state = none → s.fv.mirror? f.origin m.id = some x →
              (m.seq = x.seq ∨ serialNewer m.seq x.seq = true → t.fv.mirror? f.origin m.id = none)
              ∧ (m.seq ≠ x.seq → serialNewer m.seq x.seq = false → t.fv = s.fv)))

/-! ### Shift totals -/

/-- TIME_BASE_TICK moves the time base one second on, over midnight into the next day, and marks a shift boundary reached
by running (the mark `boundaryDue`, and that the second left is not judged, are the model's choice, log 9, 46);
RUNNING_SECOND adds one second of running time and keeps the remainder (09 R163, R166, R168, R171).
CRYSTAL_CHECK_FAIL of a passing crystal, or of one that has not passed 2000 ms after power-on, leaves the time base
not valid and the clock lost; CRYSTAL_CHECK_PASS of another crystal than a passing one ends the clock loss if the
time has been set since; CLOCK_LOST follows (09 R163, R164). The guards, when the two commands act and from which
moment the 1000 ms of a pass are counted, are the model's choice (log 18). -/
def Obligations.TimeBaseKept : Prop :=
  ((∀ s : State, s.sr.sec < 86400 → ∃ t, exec .timeBaseTick s = .next t
      ∧ t.sr.sec = (s.sr.sec + 1) % 86400
      ∧ t.sr.day = (if s.sr.sec = 86399 then s.sr.day + 1 else s.sr.day)
      ∧ t.sr.boundaryDue = (s.sr.boundaryDue || match s.config with
          | some cfg => decide (t.sr.sec = cfg.b0 * 60 ∨ t.sr.sec = cfg.b1 * 60 ∨ t.sr.sec = cfg.b2 * 60)
          | none => false)
      ∧ t = { s with sr := { s.sr with sec := t.sr.sec, day := t.sr.day, boundaryDue := t.sr.boundaryDue } })
    ∧ ∀ (s : State) (c : Chan), 250000 ≤ (s.acct c).remainder s.now →
      ∃ t, exec (.runningSecond c) s = .next t
        ∧ (t.acct c).run = min ((s.acct c).run + 1) 4294967295
        ∧ (t.acct c).lifeRun = ((s.acct c).lifeRun + 1) % 281474976710656
        ∧ (t.acct c).remainder s.now + 250000 = (s.acct c).remainder s.now
        ∧ (t.acct c).mass = (s.acct c).mass ∧ (t.acct c).energy = (s.acct c).energy
        ∧ (∀ d, d ≠ c → t.acct d = s.acct d) ∧ t = { s with sr := { s.sr with accts := t.sr.accts } })
    ∧ ((∀ s : State, s.configured = true →
      s.sr.crystal = .passing ∨ (s.sr.crystal = .waiting ∧ s.sr.crystalSince + 500000 ≤ s.now) →
      ∃ u, exec .crystalCheckFail s = .next (finish s u)
        ∧ u.sr.crystal = .failed ∧ u.sr.valid = false ∧ u.sr.clockLost = true ∧ u.cond idClockLost = true
        ∧ u.sr.day = s.sr.day ∧ u.sr.sec = s.sr.sec ∧ u.sr.shift = s.sr.shift
        ∧ u.sr.crystalSince = (if s.sr.crystal = .passing then s.now else s.sr.crystalSince))
    ∧ ∀ s : State, s.configured = true → s.sr.crystal ≠ .passing → s.sr.crystalSince + 250000 ≤ s.now →
      ∃ u, exec .crystalCheckPass s = .next (finish s u)
        ∧ u.sr.crystal = .passing ∧ u.sr.clockLost = (s.sr.clockLost && !s.sr.setSinceFail)
        ∧ u.cond idClockLost = (s.sr.clockLost && !s.sr.setSinceFail)
        ∧ u.sr.valid = s.sr.valid ∧ u.sr.day = s.sr.day ∧ u.sr.sec = s.sr.sec)

/-- SHIFT_BOUNDARY acts on the model's mark of a boundary reached by running, and clears it (the mark: log 9, the
model's choice). With the time valid and the number known it closes the shift: its record joins the ring first with
closure kind CLOCK, the shift totals and counts are zeroed, the ESTIMATED and INCOMPLETE marks are clear and GAP stands
only while FIELD_PORT_SILENT is true, lifetime totals and remainders are kept, the next shift has the clock's number,
SHIFT_CLOSED is set. With the number unknown the number is set without a close; with
the time not valid nothing is closed and the number is unchanged (09 R166, R167, R172, R173, R176, R177). -/
def Obligations.BoundaryCloses : Prop :=
  ∀ (s : State) (cfg : Config), s.config = some cfg → s.sr.boundaryDue = true →
    (s.sr.valid = false → ∃ u, exec .shiftBoundary s = .next (finish s u)
      ∧ u = { s with sr := { s.sr with boundaryDue := false } })
    ∧ ∀ k : Word, s.sr.valid = true →
    k = (if cfg.b2 * 60 ≤ s.sr.sec then 3 * s.sr.day + 2 else if cfg.b1 * 60 ≤ s.sr.sec then 3 * s.sr.day + 1
      else if cfg.b0 * 60 ≤ s.sr.sec then 3 * s.sr.day else 3 * s.sr.day - 1) →
    ∃ u, exec .shiftBoundary s = .next (finish s u) ∧ u.sr.boundaryDue = false ∧ u.sr.shift = some k
      ∧ (s.sr.shift = none → u.sr.ring = s.sr.ring)
      ∧ ∀ n, s.sr.shift = some n →
        (∃ r, u.sr.ring.map (fun x => { x with unannounced := false })
            = ((r :: s.sr.ring).take 8).map (fun x => { x with unannounced := false })
          ∧ r.number = n ∧ r.kind = .clock ∧ r.ended = s.stamp ∧ r.start = s.sr.shiftStart
          ∧ r.zoneTrips = s.sr.zoneTrips ∧ r.p1 = s.al.p1 ∧ r.incomplete = s.sr.incomplete
          ∧ r.estimated = s.sr.estimated ∧ r.gap = s.sr.gap)
        ∧ (∀ c, (u.acct c).mass = 0 ∧ (u.acct c).energy = 0 ∧ (u.acct c).run = 0 ∧ (u.acct c).count = 0
            ∧ (u.acct c).estimated = false
            ∧ (u.acct c).lifeMass = (s.acct c).lifeMass ∧ (u.acct c).lifeEnergy = (s.acct c).lifeEnergy
            ∧ (u.acct c).massRem = (s.acct c).massRem ∧ (u.acct c).energyRem = (s.acct c).energyRem)
        ∧ u.sr.zoneTrips = 0 ∧ u.sr.tempCount = 0 ∧ u.sr.incomplete = false ∧ u.sr.shiftStart = s.stamp
        ∧ u.sr.estimated = false ∧ u.sr.gap = s.cond idFieldSilent
        ∧ u.al.p1 = 0 ∧ u.al.p2 = 0 ∧ u.al.p3 = 0 ∧ u.sp.notices.shiftClosed = true

/-- SET_TIME with a second above 86399 is refused BAD_ARGUMENT; otherwise it is answered OK, the time base takes the day
and the second, is valid and marked as ever valid, and the boundary mark is clear (the mark, `boundaryDue`, and that
it is clear also at a boundary second, are the model's choice, log 9, 46); the clock-lost state ends if the crystal
passes. A known shift number that is not the clock's number of the new time gets a TIME_SET close under that number;
any other makes no close; the number becomes the clock's (09 R164, R165, R167, R174). -/
def Obligations.TimeSet : Prop :=
  ∀ (s : State) (cfg : Config) (day hi lo : Word) (sec : Nat) (k : Word), s.config = some cfg →
    s.serves 14 [day, hi, lo] → sec = (hi.toNat % 2) * 65536 + lo.toNat →
    k = (if cfg.b2 * 60 ≤ sec then 3 * day + 2 else if cfg.b1 * 60 ≤ sec then 3 * day + 1
      else if cfg.b0 * 60 ≤ sec then 3 * day else 3 * day - 1) →
    (86400 ≤ sec → exec (.setTime day hi lo) s = .next (s.refuse 14 .badArgument))
    ∧ (sec < 86400 → ∃ u, exec (.setTime day hi lo) s = .next (finish s u)
        ∧ u.sr.day = day ∧ u.sr.sec = sec ∧ u.sr.valid = true ∧ u.sr.everValid = true ∧ u.sr.boundaryDue = false
        ∧ u.sr.clockLost = (s.sr.clockLost && !decide (s.sr.crystal = .passing))
        ∧ u.sr.shift = some k
        ∧ (s.sr.shift = none ∨ s.sr.shift = some k →
            u.sr.ring.map (fun x => { x with unannounced := false })
              = s.sr.ring.map (fun x => { x with unannounced := false }))
        ∧ (∀ n, s.sr.shift = some n → n ≠ k → ∃ r, u.sr.ring.map (fun x => { x with unannounced := false })
              = ((r :: s.sr.ring).take 8).map (fun x => { x with unannounced := false })
            ∧ r.number = n ∧ r.kind = .timeSet ∧ u.sr.zoneTrips = 0)
        ∧ u.sp.buffer = .ready ⟨14, .ok, 0, []⟩)

/-- SHIFT_TAKEN: a frame that fails the checks only leaves the queue. A valid one closes the own shift with kind PEER
when the time is not valid and the own number is unknown, equal or serially older: the record takes the frame's
number and is marked GAP when it skips numbers, and the next number is the frame's plus 1. Whatever the close, the
frame is filed in the floor summary: in the slot of its number if one is held; else a slot for it is created while
fewer than 4 are held; with 4 held it takes the place of the oldest if its number is serially newer than that, and is
discarded otherwise; that the last slot is the oldest, also among numbers 32768 or more apart, is the model's choice
(log 33). No other slot changes (09 R175, R176, R179 to R181). -/
def Obligations.ShiftsTaken : Prop :=
  ∀ (s : State) (f : RxFrame), s.heads .shift f →
    (parseShift f.origin f.payload = none →
      exec .shiftTaken s = .next { s with li := { s.li with rx := s.li.rx.tail } })
    ∧ ∀ m, parseShift f.origin f.payload = some m → ∃ u, exec .shiftTaken s = .next (finish s u)
      ∧ u.li.rx = s.li.rx.tail
      ∧ (s.sr.valid = true → u.sr.shift = s.sr.shift ∧ u.sr.ring = s.sr.ring)
      ∧ (s.sr.valid = false → (s.sr.shift = none ∨ s.sr.shift = some m.number
            ∨ ∃ n, s.sr.shift = some n ∧ serialNewer m.number n = true) →
          u.sr.shift = some (m.number + 1)
            ∧ ∃ r rest, u.sr.ring = r :: rest ∧ r.kind = .peer ∧ r.number = m.number
              ∧ r.gap = (s.sr.gap || match s.sr.shift with
                | none => false
                | some n => decide (n ≠ m.number))
              ∧ r.incomplete = s.sr.incomplete ∧ r.ended = s.stamp)
      ∧ (s.sr.valid = false → (∀ n, s.sr.shift = some n → m.number ≠ n ∧ serialNewer m.number n = false) →
          s.sr.shift ≠ none → u.sr.shift = s.sr.shift ∧ u.sr.ring = s.sr.ring)
      ∧ ((∃ sl ∈ s.sr.summary, sl.number = m.number) ∨ s.sr.summary.length < 4 →
          (∃ sl ∈ u.sr.summary, sl.number = m.number ∧ m.summary ∈ sl.entries)
            ∧ ∀ x ∈ s.sr.summary, x.number ≠ m.number → x ∈ u.sr.summary)
      ∧ (∀ old o, s.sr.summary = old ++ [o] → 4 ≤ s.sr.summary.length →
          (∀ sl ∈ s.sr.summary, sl.number ≠ m.number) →
          (serialNewer m.number o.number = true →
            (∃ sl ∈ u.sr.summary, sl.number = m.number ∧ m.summary ∈ sl.entries) ∧ ∀ x ∈ old, x ∈ u.sr.summary)
          ∧ (serialNewer m.number o.number = false → u.sr.summary = s.sr.summary))
      ∧ ∀ x ∈ u.sr.summary, x.number ≠ m.number → x ∈ s.sr.summary

/-! ### The station port -/

/-- A transaction that finds the buffer EMPTY or READY shifts out the EMPTY header or the answer, one that finds it
IN_WORK shifts out NOT_READY and takes no request; ANSWER_DELIVERED empties the buffer; at TRANSACTION_END a taken
request phase without a word changes nothing more, one cut short raises the port error count, a complete known
request is IN_WORK with the words beyond its count ignored, and an unknown code or a wrong count is refused
BAD_ARGUMENT (10 R183 to R186); that this refusal is given at TRANSACTION_END itself is the model's choice (log 17,
DEDUCED). The words shifted out are those of the response phase, then words of value 0 (10 R183). In UNCONFIGURED a
request in work that is neither LOAD_CONFIG nor a read is refused NOT_CONFIGURED and changes nothing but the answer
(10 R186). -/
def Obligations.Transactions : Prop :=
  (∀ (s : State) (x : Instr) (code : Nat) (args : List Word) (a b d : Word), s.pt.mode = .unconfigured →
    s.sp.buffer = .inWork (b8 code) args →
    (x, code, args) ∈ [(.setDemand a b, 3, [a, b]), (.channelStart a, 4, [a]), (.channelStop a, 5, [a]),
      (.resetTrip a, 6, [a]), (.releaseLockout a, 7, [a]), (.zonePurge a, 8, [a]), (.zoneReset a, 9, [a]),
      (.zoneTrip a, 10, [a]), (.ackAlarm a b d, 11, [a, b, d]), (.shelve a b, 12, [a, b]), (.unshelve a, 13, [a]),
      (.setTime a b d, 14, [a, b, d]), (.stationReset, 21, [])] →
    exec x s = .next (s.refuse code .notConfigured))
    ∧ (∀ s : State, s.sp.txn = .idle → exec .transactionStart s = .next { s with sp := { s.sp with
      txn := (match s.sp.buffer with
        | .empty => .requesting
        | .inWork _ _ => .discarding
        | .ready _ => .answering)
      out := (match s.sp.buffer with
        | .empty => [0x0000]
        | .inWork _ _ => [0x0100]
        | .ready a => a.words) } })
    ∧ (∀ (p : StationPort) (i : Nat), (∀ w, p.out[i]? = some w → p.shiftsOut i = w)
      ∧ (p.out.length ≤ i → p.shiftsOut i = 0))
    ∧ (∀ s : State, s.sp.txn = .answering → exec .answerDelivered s = .next { s with sp := { s.sp with
      txn := .requesting, buffer := .empty } })
    ∧ (∀ (s : State) (ws : List Word) (cut : Bool), s.sp.txn ≠ .requesting →
      exec (.transactionEnd ws cut) s = .next { s with sp := { s.sp with txn := .idle, out := [] } })
    ∧ ∀ (s : State) (ws : List Word) (cut : Bool), s.sp.txn = .requesting →
      (ws = [] → exec (.transactionEnd ws cut) s = .next { s with sp := { s.sp with
        txn := .idle, out := []
        portErrors := if cut = true then min (s.sp.portErrors + 1) 65535 else s.sp.portErrors } })
      ∧ ∀ h args, ws = h :: args →
        (args.length < (loByte h).toNat → exec (.transactionEnd ws cut) s = .next { s with sp := { s.sp with
          txn := .idle, out := [], portErrors := min (s.sp.portErrors + 1) 65535 } })
        ∧ ((loByte h).toNat ≤ args.length → requestArgs (hiByte h).toNat = some (loByte h).toNat →
          exec (.transactionEnd ws cut) s = .next { s with sp := { s.sp with
            txn := .idle, out := [], buffer := .inWork (hiByte h) (args.take (loByte h).toNat) } })
        ∧ ((loByte h).toNat ≤ args.length → requestArgs (hiByte h).toNat ≠ some (loByte h).toNat →
          exec (.transactionEnd ws cut) s = .next { s with sp := { s.sp with
            txn := .idle, out := [], buffer := .ready ⟨hiByte h, .refused .badArgument, 0, []⟩ } })

/-- LOAD_CONFIG in work: refused ALREADY_CONFIGURED in a configured mode, BAD_ARGUMENT for a structural error; else
the clamped record is held, the station enters STARTING with every peer ABSENT, a SNAP is offered, CONFIG_NEEDED is
removed, and the answer is OK, or CLAMPED with the number of fields clamped (02 R35; 10 R193 to R195). -/
def Obligations.ConfigLoaded : Prop :=
  ∀ (s : State) (ws : List Word), s.sp.buffer = .inWork 1 ws →
    (s.pt.mode ≠ .unconfigured → exec (.loadConfig ws) s = .next (s.refuse 1 .alreadyConfigured))
    ∧ (s.pt.mode = .unconfigured → structuralError ws = true →
        exec (.loadConfig ws) s = .next (s.refuse 1 .badArgument))
    ∧ (s.pt.mode = .unconfigured → structuralError ws = false → ∃ t, exec (.loadConfig ws) s = .next t
        ∧ t.config = some (acceptedConfig ws) ∧ t.pt.mode = .starting ∧ t.pt.startTime = s.now
        ∧ (∀ n, t.peer n = PeerRecord.absentRecord (cfgExpects (acceptedConfig ws) n))
        ∧ t.li.completionTime = s.now ∧ t.li.rxTime = s.now ∧ t.ce.silenceSince = s.now
        ∧ (∀ c f, (acceptedConfig ws).chans.get c = .fuel f → f.ncv ≠ 0 →
            (t.chan c).hmin = min ((2 * (f.fmin * f.ncv) + 36000) / 72000) 65535
              ∧ (t.chan c).hmax = min ((2 * (f.fmax * f.ncv) + 36000) / 72000) 65535)
        ∧ (∀ c f, (acceptedConfig ws).chans.get c = .fuel f → f.ncv = 0 → (t.chan c).state = .offUnusable)
        ∧ t.pt.lastOffer = s.now
        ∧ t.sp.notices.configNeeded = false
        ∧ t.sp.buffer = .ready ⟨1, (if clampedCount ws = 0 then .ok else .clamped), w16 (clampedCount ws), []⟩)

/-- Clamping brings every judged field of a record of 156 words into its range, leaves a field in range and every
other word alone, and so counts nothing a second time (10 R192, R194). -/
def Obligations.ConfigClamped : Prop :=
  ∀ ws : List Word, ws.length = 156 →
    (clampWords ws).length = 156 ∧ clampedCount (clampWords ws) = 0
      ∧ (∀ f ∈ numericFields ws, outOfRange ws f = true →
          wordAt (clampWords ws) f.1 = if wordAt ws f.1 < f.2.1 then f.2.1 else f.2.2)
      ∧ ∀ i, (∀ f ∈ numericFields ws, f.1 = i → outOfRange ws f = false) → wordAt (clampWords ws) i = wordAt ws i

/-- The reads answer OK with value 0 and change only the answer: READ_STATUS gives 16 words and empties the notice set,
READ_LINE_STATS the six counters and the two queue lengths in 14 words, READ_CONFIG the 156 words of the record held, or
station number 0; READ_CHANNEL, READ_ZONE and READ_PEER the record, and of a number outside the range they are refused
BAD_ARGUMENT, as is READ_CHANNEL of an UNUSED channel and READ_PEER of the own station (10 R188, R189; 11 R203). The
layout of the words, and that READ_CHANNEL in UNCONFIGURED gives two words 0, are the model's choice (log 11), and so is
that READ_STATUS gives the port error count in UNCONFIGURED too (log 40). -/
def Obligations.ReadsAnswer : Prop :=
  (∀ s : State, s.sp.buffer = .inWork 15 [] → ∃ ws, ws.length = 16 ∧ ws = s.statusWords
      ∧ exec .readStatus s = .next { s with sp := { s.sp with
          buffer := .ready ⟨15, .ok, 0, ws⟩, notices := Notices.none } }
      ∧ ws[0]? = some (w16 s.pt.mode.place) ∧ ws[2]? = some (w16 s.sp.notices.mask)
      ∧ ws[5]? = some (w16 s.al.list.length) ∧ ws[15]? = some (w16 s.sp.portErrors))
    ∧ (∀ s : State, s.sp.buffer = .inWork 20 [] → ∃ ws, ws.length = 14
      ∧ ws = [s.li.sent, s.li.collisions, s.li.discards, s.li.crcDrops, s.li.overruns, s.li.duplicates].flatMap
          (fun k => [w16 (k.toNat / 65536), w16 k.toNat]) ++ [w16 s.li.tx.length, w16 s.li.rx.length]
      ∧ exec .readLineStats s = .next { s with sp := { s.sp with buffer := .ready ⟨20, .ok, 0, ws⟩ } })
    ∧ (∀ s : State, s.sp.buffer = .inWork 2 [] →
      (∀ cfg, s.config = some cfg → (configWords cfg).length = 156
        ∧ exec .readConfig s = .next { s with sp := { s.sp with buffer := .ready ⟨2, .ok, 0, configWords cfg⟩ } })
      ∧ (s.config = none →
        exec .readConfig s = .next { s with sp := { s.sp with buffer := .ready ⟨2, .ok, 0, [0]⟩ } }))
    ∧ (∀ (s : State) (w : Word), s.sp.buffer = .inWork 16 [w] →
      (8 ≤ w.toNat → exec (.readChannel w) s = .next (s.refuse 16 .badArgument))
      ∧ ∀ c : Chan, w.toNat = c.val →
        (s.pt.mode = .unconfigured →
          exec (.readChannel w) s = .next { s with sp := { s.sp with buffer := .ready ⟨16, .ok, 0, [0, 0]⟩ } })
        ∧ (s.pt.mode ≠ .unconfigured →
          (s.chanCfg c = .unused → exec (.readChannel w) s = .next (s.refuse 16 .badArgument))
          ∧ (∀ f, s.chanCfg c = .fuel f → exec (.readChannel w) s = .next { s with sp := { s.sp with
              buffer := .ready ⟨16, .ok, 0, s.fuelWords c⟩ } })
          ∧ (∀ f, s.chanCfg c = .fan f → exec (.readChannel w) s = .next { s with sp := { s.sp with
              buffer := .ready ⟨16, .ok, 0, s.fanWords c f⟩ } })))
    ∧ (∀ (s : State) (w : Word), s.sp.buffer = .inWork 17 [w] →
      (4 ≤ w.toNat → exec (.readZone w) s = .next (s.refuse 17 .badArgument))
      ∧ ∀ z : Zone, w.toNat = z.val →
          exec (.readZone w) s = .next { s with sp := { s.sp with buffer := .ready ⟨17, .ok, 0, s.zoneWords z⟩ } }
          ∧ (s.zoneWords z)[0]? = some (if (s.demand z).known = none then 1 else 0))
    ∧ ∀ (s : State) (w : Word), s.sp.buffer = .inWork 18 [w] →
      (w.toNat = 0 ∨ 17 ≤ w.toNat → exec (.readPeer w) s = .next (s.refuse 18 .badArgument))
      ∧ ∀ n : Station, w.toNat = stationNumber n →
        (s.isOwn n = true → exec (.readPeer w) s = .next (s.refuse 18 .badArgument))
        ∧ (s.isOwn n = false →
            exec (.readPeer w) s = .next { s with sp := { s.sp with buffer := .ready ⟨18, .ok, 0, s.peerWords n⟩ } }
            ∧ (s.peerWords n)[0]? = some (w16 (s.peer n).fresh.place))

/-- READ_RUN: an unknown collection, a FLOOR_SUMMARY slot above 3, or a count of 0 or above 16 is refused
BAD_ARGUMENT; a start index at or beyond the collection's length is refused END; else the records from the start index
on are returned, as many as the lesser of the count and what is left, with that number in the value word, and nothing
else changes (10 R190; the layout of a record is the model's, log 11). -/
def Obligations.RunsRead : Prop :=
  ∀ (s : State) (k slot start count : Word), s.sp.buffer = .inWork 19 [k, slot, start, count] →
    (count.toNat = 0 ∨ 17 ≤ count.toNat ∨ k.toNat = 0 ∨ 5 ≤ k.toNat ∨ (k.toNat = 4 ∧ 4 ≤ slot.toNat) →
      exec (.readRun k slot start count) s = .next (s.refuse 19 .badArgument))
    ∧ (1 ≤ count.toNat → count.toNat ≤ 16 → ∀ records : List (List Word),
        (k.toNat = 1 ∧ records = s.al.list.map s.alarmWords)
          ∨ (k.toNat = 2 ∧ records = s.fv.view.map Mirror.words)
          ∨ (k.toNat = 3 ∧ records = s.sr.ring.map ShiftRecord.words)
          ∨ (k.toNat = 4 ∧ slot.toNat < 4 ∧ records = match s.sr.summary[slot.toNat]? with
              | some sl => sl.entries.map sl.record
              | none => []) →
        (records.length ≤ start.toNat → exec (.readRun k slot start count) s = .next (s.refuse 19 .ended))
        ∧ (start.toNat < records.length → exec (.readRun k slot start count) s = .next { s with sp := { s.sp with
            buffer := .ready ⟨19, .ok, w16 (min count.toNat (records.length - start.toNat)),
              ((records.drop start.toNat).take count.toNat).flatten⟩ } }))

/-! ### Invariants -/

/-- Every step keeps the bounds, the order and the coalescing of the line's queues (01 R9 to R12, R16, R19). -/
def Obligations.LineSoundKept : Prop :=
  ∀ s t : State, s.ModeSound → s.LineSound → step s = .next t → t.ModeSound ∧ t.LineSound

/-- Every step keeps the own alarm list sound (07 R133 to R136, R143, R144). -/
def Obligations.AlarmSoundKept : Prop :=
  ∀ s t : State, s.ModeSound → s.AlarmSound → step s = .next t → t.AlarmSound

/-- Every step keeps the bounds and the distinctness of the floor view, of the shift ring and of the floor summary, the
second of day in its range and the zone trip count at 65535 at most (08 R150, R153; 09 R163, R171, R177, R179). -/
def Obligations.StoresSoundKept : Prop :=
  ∀ s t : State, s.ViewSound → s.ShiftSound → step s = .next t → t.ViewSound ∧ t.ShiftSound

/-- Every step keeps the firing safe: a SHUT line is released only on a usable fuel channel whose zone is READY or
LIT, a zone that does not participate, and every zone before the listen ends, is DARK, and with ESD_N asserted no zone
is PURGING, READY or LIT and every SHUT line is asserted (03 R53; 04 R64, R78, R87). -/
def Obligations.FiringSafe : Prop :=
  ∀ s t : State, s.ModeSound → s.ZoneSound → s.ShutSound → step s = .next t →
    t.ZoneSound ∧ t.ShutSound ∧ (t.esd = true → ∀ c, (t.chan c).shutReleased = false)
end

