-- ==== Sys2Proof/Laws/State.lean ====
section
/-! SUPPORT. What each update of one block or of one record does to each field of the state: one lemma for each
field and update, true by definition. -/

namespace Sys2Proof.Machine

variable (s : State)

/-! ### Update of `li` -/

@[simp] theorem State.mapLi_pending (f : LineIf → LineIf) : (s.mapLi f).pending = s.pending := rfl
@[simp] theorem State.mapLi_now (f : LineIf → LineIf) : (s.mapLi f).now = s.now := rfl
@[simp] theorem State.mapLi_powerOn (f : LineIf → LineIf) : (s.mapLi f).powerOn = s.powerOn := rfl
@[simp] theorem State.mapLi_esd (f : LineIf → LineIf) : (s.mapLi f).esd = s.esd := rfl
@[simp] theorem State.mapLi_resetHeld (f : LineIf → LineIf) : (s.mapLi f).resetHeld = s.resetHeld := rfl
@[simp] theorem State.mapLi_config (f : LineIf → LineIf) : (s.mapLi f).config = s.config := rfl
@[simp] theorem State.mapLi_li (f : LineIf → LineIf) : (s.mapLi f).li = f s.li := rfl
@[simp] theorem State.mapLi_pt (f : LineIf → LineIf) : (s.mapLi f).pt = s.pt := rfl
@[simp] theorem State.mapLi_ce (f : LineIf → LineIf) : (s.mapLi f).ce = s.ce := rfl
@[simp] theorem State.mapLi_zs (f : LineIf → LineIf) : (s.mapLi f).zs = s.zs := rfl
@[simp] theorem State.mapLi_fa (f : LineIf → LineIf) : (s.mapLi f).fa = s.fa := rfl
@[simp] theorem State.mapLi_cr (f : LineIf → LineIf) : (s.mapLi f).cr = s.cr := rfl
@[simp] theorem State.mapLi_al (f : LineIf → LineIf) : (s.mapLi f).al = s.al := rfl
@[simp] theorem State.mapLi_fv (f : LineIf → LineIf) : (s.mapLi f).fv = s.fv := rfl
@[simp] theorem State.mapLi_sr (f : LineIf → LineIf) : (s.mapLi f).sr = s.sr := rfl
@[simp] theorem State.mapLi_sp (f : LineIf → LineIf) : (s.mapLi f).sp = s.sp := rfl

/-! ### Update of `pt` -/

@[simp] theorem State.mapPt_pending (f : PeerTable → PeerTable) : (s.mapPt f).pending = s.pending := rfl
@[simp] theorem State.mapPt_now (f : PeerTable → PeerTable) : (s.mapPt f).now = s.now := rfl
@[simp] theorem State.mapPt_powerOn (f : PeerTable → PeerTable) : (s.mapPt f).powerOn = s.powerOn := rfl
@[simp] theorem State.mapPt_esd (f : PeerTable → PeerTable) : (s.mapPt f).esd = s.esd := rfl
@[simp] theorem State.mapPt_resetHeld (f : PeerTable → PeerTable) : (s.mapPt f).resetHeld = s.resetHeld := rfl
@[simp] theorem State.mapPt_config (f : PeerTable → PeerTable) : (s.mapPt f).config = s.config := rfl
@[simp] theorem State.mapPt_li (f : PeerTable → PeerTable) : (s.mapPt f).li = s.li := rfl
@[simp] theorem State.mapPt_pt (f : PeerTable → PeerTable) : (s.mapPt f).pt = f s.pt := rfl
@[simp] theorem State.mapPt_ce (f : PeerTable → PeerTable) : (s.mapPt f).ce = s.ce := rfl
@[simp] theorem State.mapPt_zs (f : PeerTable → PeerTable) : (s.mapPt f).zs = s.zs := rfl
@[simp] theorem State.mapPt_fa (f : PeerTable → PeerTable) : (s.mapPt f).fa = s.fa := rfl
@[simp] theorem State.mapPt_cr (f : PeerTable → PeerTable) : (s.mapPt f).cr = s.cr := rfl
@[simp] theorem State.mapPt_al (f : PeerTable → PeerTable) : (s.mapPt f).al = s.al := rfl
@[simp] theorem State.mapPt_fv (f : PeerTable → PeerTable) : (s.mapPt f).fv = s.fv := rfl
@[simp] theorem State.mapPt_sr (f : PeerTable → PeerTable) : (s.mapPt f).sr = s.sr := rfl
@[simp] theorem State.mapPt_sp (f : PeerTable → PeerTable) : (s.mapPt f).sp = s.sp := rfl

/-! ### Update of `ce` -/

@[simp] theorem State.mapCe_pending (f : ChannelEngine → ChannelEngine) : (s.mapCe f).pending = s.pending := rfl
@[simp] theorem State.mapCe_now (f : ChannelEngine → ChannelEngine) : (s.mapCe f).now = s.now := rfl
@[simp] theorem State.mapCe_powerOn (f : ChannelEngine → ChannelEngine) : (s.mapCe f).powerOn = s.powerOn := rfl
@[simp] theorem State.mapCe_esd (f : ChannelEngine → ChannelEngine) : (s.mapCe f).esd = s.esd := rfl
@[simp] theorem State.mapCe_resetHeld (f : ChannelEngine → ChannelEngine) : (s.mapCe f).resetHeld = s.resetHeld := rfl
@[simp] theorem State.mapCe_config (f : ChannelEngine → ChannelEngine) : (s.mapCe f).config = s.config := rfl
@[simp] theorem State.mapCe_li (f : ChannelEngine → ChannelEngine) : (s.mapCe f).li = s.li := rfl
@[simp] theorem State.mapCe_pt (f : ChannelEngine → ChannelEngine) : (s.mapCe f).pt = s.pt := rfl
@[simp] theorem State.mapCe_ce (f : ChannelEngine → ChannelEngine) : (s.mapCe f).ce = f s.ce := rfl
@[simp] theorem State.mapCe_zs (f : ChannelEngine → ChannelEngine) : (s.mapCe f).zs = s.zs := rfl
@[simp] theorem State.mapCe_fa (f : ChannelEngine → ChannelEngine) : (s.mapCe f).fa = s.fa := rfl
@[simp] theorem State.mapCe_cr (f : ChannelEngine → ChannelEngine) : (s.mapCe f).cr = s.cr := rfl
@[simp] theorem State.mapCe_al (f : ChannelEngine → ChannelEngine) : (s.mapCe f).al = s.al := rfl
@[simp] theorem State.mapCe_fv (f : ChannelEngine → ChannelEngine) : (s.mapCe f).fv = s.fv := rfl
@[simp] theorem State.mapCe_sr (f : ChannelEngine → ChannelEngine) : (s.mapCe f).sr = s.sr := rfl
@[simp] theorem State.mapCe_sp (f : ChannelEngine → ChannelEngine) : (s.mapCe f).sp = s.sp := rfl

/-! ### Update of `zs` -/

@[simp] theorem State.mapZs_pending (f : ZoneSupervisor → ZoneSupervisor) : (s.mapZs f).pending = s.pending := rfl
@[simp] theorem State.mapZs_now (f : ZoneSupervisor → ZoneSupervisor) : (s.mapZs f).now = s.now := rfl
@[simp] theorem State.mapZs_powerOn (f : ZoneSupervisor → ZoneSupervisor) : (s.mapZs f).powerOn = s.powerOn := rfl
@[simp] theorem State.mapZs_esd (f : ZoneSupervisor → ZoneSupervisor) : (s.mapZs f).esd = s.esd := rfl
@[simp] theorem State.mapZs_resetHeld (f : ZoneSupervisor → ZoneSupervisor) : (s.mapZs f).resetHeld = s.resetHeld := rfl
@[simp] theorem State.mapZs_config (f : ZoneSupervisor → ZoneSupervisor) : (s.mapZs f).config = s.config := rfl
@[simp] theorem State.mapZs_li (f : ZoneSupervisor → ZoneSupervisor) : (s.mapZs f).li = s.li := rfl
@[simp] theorem State.mapZs_pt (f : ZoneSupervisor → ZoneSupervisor) : (s.mapZs f).pt = s.pt := rfl
@[simp] theorem State.mapZs_ce (f : ZoneSupervisor → ZoneSupervisor) : (s.mapZs f).ce = s.ce := rfl
@[simp] theorem State.mapZs_zs (f : ZoneSupervisor → ZoneSupervisor) : (s.mapZs f).zs = f s.zs := rfl
@[simp] theorem State.mapZs_fa (f : ZoneSupervisor → ZoneSupervisor) : (s.mapZs f).fa = s.fa := rfl
@[simp] theorem State.mapZs_cr (f : ZoneSupervisor → ZoneSupervisor) : (s.mapZs f).cr = s.cr := rfl
@[simp] theorem State.mapZs_al (f : ZoneSupervisor → ZoneSupervisor) : (s.mapZs f).al = s.al := rfl
@[simp] theorem State.mapZs_fv (f : ZoneSupervisor → ZoneSupervisor) : (s.mapZs f).fv = s.fv := rfl
@[simp] theorem State.mapZs_sr (f : ZoneSupervisor → ZoneSupervisor) : (s.mapZs f).sr = s.sr := rfl
@[simp] theorem State.mapZs_sp (f : ZoneSupervisor → ZoneSupervisor) : (s.mapZs f).sp = s.sp := rfl

/-! ### Update of `fa` -/

@[simp] theorem State.mapFa_pending (f : Allocator → Allocator) : (s.mapFa f).pending = s.pending := rfl
@[simp] theorem State.mapFa_now (f : Allocator → Allocator) : (s.mapFa f).now = s.now := rfl
@[simp] theorem State.mapFa_powerOn (f : Allocator → Allocator) : (s.mapFa f).powerOn = s.powerOn := rfl
@[simp] theorem State.mapFa_esd (f : Allocator → Allocator) : (s.mapFa f).esd = s.esd := rfl
@[simp] theorem State.mapFa_resetHeld (f : Allocator → Allocator) : (s.mapFa f).resetHeld = s.resetHeld := rfl
@[simp] theorem State.mapFa_config (f : Allocator → Allocator) : (s.mapFa f).config = s.config := rfl
@[simp] theorem State.mapFa_li (f : Allocator → Allocator) : (s.mapFa f).li = s.li := rfl
@[simp] theorem State.mapFa_pt (f : Allocator → Allocator) : (s.mapFa f).pt = s.pt := rfl
@[simp] theorem State.mapFa_ce (f : Allocator → Allocator) : (s.mapFa f).ce = s.ce := rfl
@[simp] theorem State.mapFa_zs (f : Allocator → Allocator) : (s.mapFa f).zs = s.zs := rfl
@[simp] theorem State.mapFa_fa (f : Allocator → Allocator) : (s.mapFa f).fa = f s.fa := rfl
@[simp] theorem State.mapFa_cr (f : Allocator → Allocator) : (s.mapFa f).cr = s.cr := rfl
@[simp] theorem State.mapFa_al (f : Allocator → Allocator) : (s.mapFa f).al = s.al := rfl
@[simp] theorem State.mapFa_fv (f : Allocator → Allocator) : (s.mapFa f).fv = s.fv := rfl
@[simp] theorem State.mapFa_sr (f : Allocator → Allocator) : (s.mapFa f).sr = s.sr := rfl
@[simp] theorem State.mapFa_sp (f : Allocator → Allocator) : (s.mapFa f).sp = s.sp := rfl

/-! ### Update of `cr` -/

@[simp] theorem State.mapCr_pending (f : Cooler → Cooler) : (s.mapCr f).pending = s.pending := rfl
@[simp] theorem State.mapCr_now (f : Cooler → Cooler) : (s.mapCr f).now = s.now := rfl
@[simp] theorem State.mapCr_powerOn (f : Cooler → Cooler) : (s.mapCr f).powerOn = s.powerOn := rfl
@[simp] theorem State.mapCr_esd (f : Cooler → Cooler) : (s.mapCr f).esd = s.esd := rfl
@[simp] theorem State.mapCr_resetHeld (f : Cooler → Cooler) : (s.mapCr f).resetHeld = s.resetHeld := rfl
@[simp] theorem State.mapCr_config (f : Cooler → Cooler) : (s.mapCr f).config = s.config := rfl
@[simp] theorem State.mapCr_li (f : Cooler → Cooler) : (s.mapCr f).li = s.li := rfl
@[simp] theorem State.mapCr_pt (f : Cooler → Cooler) : (s.mapCr f).pt = s.pt := rfl
@[simp] theorem State.mapCr_ce (f : Cooler → Cooler) : (s.mapCr f).ce = s.ce := rfl
@[simp] theorem State.mapCr_zs (f : Cooler → Cooler) : (s.mapCr f).zs = s.zs := rfl
@[simp] theorem State.mapCr_fa (f : Cooler → Cooler) : (s.mapCr f).fa = s.fa := rfl
@[simp] theorem State.mapCr_cr (f : Cooler → Cooler) : (s.mapCr f).cr = f s.cr := rfl
@[simp] theorem State.mapCr_al (f : Cooler → Cooler) : (s.mapCr f).al = s.al := rfl
@[simp] theorem State.mapCr_fv (f : Cooler → Cooler) : (s.mapCr f).fv = s.fv := rfl
@[simp] theorem State.mapCr_sr (f : Cooler → Cooler) : (s.mapCr f).sr = s.sr := rfl
@[simp] theorem State.mapCr_sp (f : Cooler → Cooler) : (s.mapCr f).sp = s.sp := rfl

/-! ### Update of `al` -/

@[simp] theorem State.mapAl_pending (f : AlarmList → AlarmList) : (s.mapAl f).pending = s.pending := rfl
@[simp] theorem State.mapAl_now (f : AlarmList → AlarmList) : (s.mapAl f).now = s.now := rfl
@[simp] theorem State.mapAl_powerOn (f : AlarmList → AlarmList) : (s.mapAl f).powerOn = s.powerOn := rfl
@[simp] theorem State.mapAl_esd (f : AlarmList → AlarmList) : (s.mapAl f).esd = s.esd := rfl
@[simp] theorem State.mapAl_resetHeld (f : AlarmList → AlarmList) : (s.mapAl f).resetHeld = s.resetHeld := rfl
@[simp] theorem State.mapAl_config (f : AlarmList → AlarmList) : (s.mapAl f).config = s.config := rfl
@[simp] theorem State.mapAl_li (f : AlarmList → AlarmList) : (s.mapAl f).li = s.li := rfl
@[simp] theorem State.mapAl_pt (f : AlarmList → AlarmList) : (s.mapAl f).pt = s.pt := rfl
@[simp] theorem State.mapAl_ce (f : AlarmList → AlarmList) : (s.mapAl f).ce = s.ce := rfl
@[simp] theorem State.mapAl_zs (f : AlarmList → AlarmList) : (s.mapAl f).zs = s.zs := rfl
@[simp] theorem State.mapAl_fa (f : AlarmList → AlarmList) : (s.mapAl f).fa = s.fa := rfl
@[simp] theorem State.mapAl_cr (f : AlarmList → AlarmList) : (s.mapAl f).cr = s.cr := rfl
@[simp] theorem State.mapAl_al (f : AlarmList → AlarmList) : (s.mapAl f).al = f s.al := rfl
@[simp] theorem State.mapAl_fv (f : AlarmList → AlarmList) : (s.mapAl f).fv = s.fv := rfl
@[simp] theorem State.mapAl_sr (f : AlarmList → AlarmList) : (s.mapAl f).sr = s.sr := rfl
@[simp] theorem State.mapAl_sp (f : AlarmList → AlarmList) : (s.mapAl f).sp = s.sp := rfl

/-! ### Update of `fv` -/

@[simp] theorem State.mapFv_pending (f : FloorView → FloorView) : (s.mapFv f).pending = s.pending := rfl
@[simp] theorem State.mapFv_now (f : FloorView → FloorView) : (s.mapFv f).now = s.now := rfl
@[simp] theorem State.mapFv_powerOn (f : FloorView → FloorView) : (s.mapFv f).powerOn = s.powerOn := rfl
@[simp] theorem State.mapFv_esd (f : FloorView → FloorView) : (s.mapFv f).esd = s.esd := rfl
@[simp] theorem State.mapFv_resetHeld (f : FloorView → FloorView) : (s.mapFv f).resetHeld = s.resetHeld := rfl
@[simp] theorem State.mapFv_config (f : FloorView → FloorView) : (s.mapFv f).config = s.config := rfl
@[simp] theorem State.mapFv_li (f : FloorView → FloorView) : (s.mapFv f).li = s.li := rfl
@[simp] theorem State.mapFv_pt (f : FloorView → FloorView) : (s.mapFv f).pt = s.pt := rfl
@[simp] theorem State.mapFv_ce (f : FloorView → FloorView) : (s.mapFv f).ce = s.ce := rfl
@[simp] theorem State.mapFv_zs (f : FloorView → FloorView) : (s.mapFv f).zs = s.zs := rfl
@[simp] theorem State.mapFv_fa (f : FloorView → FloorView) : (s.mapFv f).fa = s.fa := rfl
@[simp] theorem State.mapFv_cr (f : FloorView → FloorView) : (s.mapFv f).cr = s.cr := rfl
@[simp] theorem State.mapFv_al (f : FloorView → FloorView) : (s.mapFv f).al = s.al := rfl
@[simp] theorem State.mapFv_fv (f : FloorView → FloorView) : (s.mapFv f).fv = f s.fv := rfl
@[simp] theorem State.mapFv_sr (f : FloorView → FloorView) : (s.mapFv f).sr = s.sr := rfl
@[simp] theorem State.mapFv_sp (f : FloorView → FloorView) : (s.mapFv f).sp = s.sp := rfl

/-! ### Update of `sr` -/

@[simp] theorem State.mapSr_pending (f : ShiftStore → ShiftStore) : (s.mapSr f).pending = s.pending := rfl
@[simp] theorem State.mapSr_now (f : ShiftStore → ShiftStore) : (s.mapSr f).now = s.now := rfl
@[simp] theorem State.mapSr_powerOn (f : ShiftStore → ShiftStore) : (s.mapSr f).powerOn = s.powerOn := rfl
@[simp] theorem State.mapSr_esd (f : ShiftStore → ShiftStore) : (s.mapSr f).esd = s.esd := rfl
@[simp] theorem State.mapSr_resetHeld (f : ShiftStore → ShiftStore) : (s.mapSr f).resetHeld = s.resetHeld := rfl
@[simp] theorem State.mapSr_config (f : ShiftStore → ShiftStore) : (s.mapSr f).config = s.config := rfl
@[simp] theorem State.mapSr_li (f : ShiftStore → ShiftStore) : (s.mapSr f).li = s.li := rfl
@[simp] theorem State.mapSr_pt (f : ShiftStore → ShiftStore) : (s.mapSr f).pt = s.pt := rfl
@[simp] theorem State.mapSr_ce (f : ShiftStore → ShiftStore) : (s.mapSr f).ce = s.ce := rfl
@[simp] theorem State.mapSr_zs (f : ShiftStore → ShiftStore) : (s.mapSr f).zs = s.zs := rfl
@[simp] theorem State.mapSr_fa (f : ShiftStore → ShiftStore) : (s.mapSr f).fa = s.fa := rfl
@[simp] theorem State.mapSr_cr (f : ShiftStore → ShiftStore) : (s.mapSr f).cr = s.cr := rfl
@[simp] theorem State.mapSr_al (f : ShiftStore → ShiftStore) : (s.mapSr f).al = s.al := rfl
@[simp] theorem State.mapSr_fv (f : ShiftStore → ShiftStore) : (s.mapSr f).fv = s.fv := rfl
@[simp] theorem State.mapSr_sr (f : ShiftStore → ShiftStore) : (s.mapSr f).sr = f s.sr := rfl
@[simp] theorem State.mapSr_sp (f : ShiftStore → ShiftStore) : (s.mapSr f).sp = s.sp := rfl

/-! ### Update of `sp` -/

@[simp] theorem State.mapSp_pending (f : StationPort → StationPort) : (s.mapSp f).pending = s.pending := rfl
@[simp] theorem State.mapSp_now (f : StationPort → StationPort) : (s.mapSp f).now = s.now := rfl
@[simp] theorem State.mapSp_powerOn (f : StationPort → StationPort) : (s.mapSp f).powerOn = s.powerOn := rfl
@[simp] theorem State.mapSp_esd (f : StationPort → StationPort) : (s.mapSp f).esd = s.esd := rfl
@[simp] theorem State.mapSp_resetHeld (f : StationPort → StationPort) : (s.mapSp f).resetHeld = s.resetHeld := rfl
@[simp] theorem State.mapSp_config (f : StationPort → StationPort) : (s.mapSp f).config = s.config := rfl
@[simp] theorem State.mapSp_li (f : StationPort → StationPort) : (s.mapSp f).li = s.li := rfl
@[simp] theorem State.mapSp_pt (f : StationPort → StationPort) : (s.mapSp f).pt = s.pt := rfl
@[simp] theorem State.mapSp_ce (f : StationPort → StationPort) : (s.mapSp f).ce = s.ce := rfl
@[simp] theorem State.mapSp_zs (f : StationPort → StationPort) : (s.mapSp f).zs = s.zs := rfl
@[simp] theorem State.mapSp_fa (f : StationPort → StationPort) : (s.mapSp f).fa = s.fa := rfl
@[simp] theorem State.mapSp_cr (f : StationPort → StationPort) : (s.mapSp f).cr = s.cr := rfl
@[simp] theorem State.mapSp_al (f : StationPort → StationPort) : (s.mapSp f).al = s.al := rfl
@[simp] theorem State.mapSp_fv (f : StationPort → StationPort) : (s.mapSp f).fv = s.fv := rfl
@[simp] theorem State.mapSp_sr (f : StationPort → StationPort) : (s.mapSp f).sr = s.sr := rfl
@[simp] theorem State.mapSp_sp (f : StationPort → StationPort) : (s.mapSp f).sp = f s.sp := rfl

/-! ### Update of one `peer` -/

@[simp] theorem State.mapPeer_pending (i : Station) (f : PeerRecord → PeerRecord) : (s.mapPeer i f).pending = s.pending := rfl
@[simp] theorem State.mapPeer_now (i : Station) (f : PeerRecord → PeerRecord) : (s.mapPeer i f).now = s.now := rfl
@[simp] theorem State.mapPeer_powerOn (i : Station) (f : PeerRecord → PeerRecord) : (s.mapPeer i f).powerOn = s.powerOn := rfl
@[simp] theorem State.mapPeer_esd (i : Station) (f : PeerRecord → PeerRecord) : (s.mapPeer i f).esd = s.esd := rfl
@[simp] theorem State.mapPeer_resetHeld (i : Station) (f : PeerRecord → PeerRecord) : (s.mapPeer i f).resetHeld = s.resetHeld := rfl
@[simp] theorem State.mapPeer_config (i : Station) (f : PeerRecord → PeerRecord) : (s.mapPeer i f).config = s.config := rfl
@[simp] theorem State.mapPeer_li (i : Station) (f : PeerRecord → PeerRecord) : (s.mapPeer i f).li = s.li := rfl
theorem State.mapPeer_pt (i : Station) (f : PeerRecord → PeerRecord) :
    (s.mapPeer i f).pt = { s.pt with peers := upd s.pt.peers i (f (s.peer i)) } := rfl
@[simp] theorem State.mapPeer_ce (i : Station) (f : PeerRecord → PeerRecord) : (s.mapPeer i f).ce = s.ce := rfl
@[simp] theorem State.mapPeer_zs (i : Station) (f : PeerRecord → PeerRecord) : (s.mapPeer i f).zs = s.zs := rfl
@[simp] theorem State.mapPeer_fa (i : Station) (f : PeerRecord → PeerRecord) : (s.mapPeer i f).fa = s.fa := rfl
@[simp] theorem State.mapPeer_cr (i : Station) (f : PeerRecord → PeerRecord) : (s.mapPeer i f).cr = s.cr := rfl
@[simp] theorem State.mapPeer_al (i : Station) (f : PeerRecord → PeerRecord) : (s.mapPeer i f).al = s.al := rfl
@[simp] theorem State.mapPeer_fv (i : Station) (f : PeerRecord → PeerRecord) : (s.mapPeer i f).fv = s.fv := rfl
@[simp] theorem State.mapPeer_sr (i : Station) (f : PeerRecord → PeerRecord) : (s.mapPeer i f).sr = s.sr := rfl
@[simp] theorem State.mapPeer_sp (i : Station) (f : PeerRecord → PeerRecord) : (s.mapPeer i f).sp = s.sp := rfl

/-! ### Update of one `chan` -/

@[simp] theorem State.mapChan_pending (i : Chan) (f : Channel → Channel) : (s.mapChan i f).pending = s.pending := rfl
@[simp] theorem State.mapChan_now (i : Chan) (f : Channel → Channel) : (s.mapChan i f).now = s.now := rfl
@[simp] theorem State.mapChan_powerOn (i : Chan) (f : Channel → Channel) : (s.mapChan i f).powerOn = s.powerOn := rfl
@[simp] theorem State.mapChan_esd (i : Chan) (f : Channel → Channel) : (s.mapChan i f).esd = s.esd := rfl
@[simp] theorem State.mapChan_resetHeld (i : Chan) (f : Channel → Channel) : (s.mapChan i f).resetHeld = s.resetHeld := rfl
@[simp] theorem State.mapChan_config (i : Chan) (f : Channel → Channel) : (s.mapChan i f).config = s.config := rfl
@[simp] theorem State.mapChan_li (i : Chan) (f : Channel → Channel) : (s.mapChan i f).li = s.li := rfl
@[simp] theorem State.mapChan_pt (i : Chan) (f : Channel → Channel) : (s.mapChan i f).pt = s.pt := rfl
theorem State.mapChan_ce (i : Chan) (f : Channel → Channel) :
    (s.mapChan i f).ce = { s.ce with chans := upd s.ce.chans i (f (s.chan i)) } := rfl
@[simp] theorem State.mapChan_zs (i : Chan) (f : Channel → Channel) : (s.mapChan i f).zs = s.zs := rfl
@[simp] theorem State.mapChan_fa (i : Chan) (f : Channel → Channel) : (s.mapChan i f).fa = s.fa := rfl
@[simp] theorem State.mapChan_cr (i : Chan) (f : Channel → Channel) : (s.mapChan i f).cr = s.cr := rfl
@[simp] theorem State.mapChan_al (i : Chan) (f : Channel → Channel) : (s.mapChan i f).al = s.al := rfl
@[simp] theorem State.mapChan_fv (i : Chan) (f : Channel → Channel) : (s.mapChan i f).fv = s.fv := rfl
@[simp] theorem State.mapChan_sr (i : Chan) (f : Channel → Channel) : (s.mapChan i f).sr = s.sr := rfl
@[simp] theorem State.mapChan_sp (i : Chan) (f : Channel → Channel) : (s.mapChan i f).sp = s.sp := rfl

/-! ### Update of one `zone` -/

@[simp] theorem State.mapZone_pending (i : Zone) (f : ZoneRec → ZoneRec) : (s.mapZone i f).pending = s.pending := rfl
@[simp] theorem State.mapZone_now (i : Zone) (f : ZoneRec → ZoneRec) : (s.mapZone i f).now = s.now := rfl
@[simp] theorem State.mapZone_powerOn (i : Zone) (f : ZoneRec → ZoneRec) : (s.mapZone i f).powerOn = s.powerOn := rfl
@[simp] theorem State.mapZone_esd (i : Zone) (f : ZoneRec → ZoneRec) : (s.mapZone i f).esd = s.esd := rfl
@[simp] theorem State.mapZone_resetHeld (i : Zone) (f : ZoneRec → ZoneRec) : (s.mapZone i f).resetHeld = s.resetHeld := rfl
@[simp] theorem State.mapZone_config (i : Zone) (f : ZoneRec → ZoneRec) : (s.mapZone i f).config = s.config := rfl
@[simp] theorem State.mapZone_li (i : Zone) (f : ZoneRec → ZoneRec) : (s.mapZone i f).li = s.li := rfl
@[simp] theorem State.mapZone_pt (i : Zone) (f : ZoneRec → ZoneRec) : (s.mapZone i f).pt = s.pt := rfl
@[simp] theorem State.mapZone_ce (i : Zone) (f : ZoneRec → ZoneRec) : (s.mapZone i f).ce = s.ce := rfl
theorem State.mapZone_zs (i : Zone) (f : ZoneRec → ZoneRec) :
    (s.mapZone i f).zs = { s.zs with zones := upd s.zs.zones i (f (s.zone i)) } := rfl
@[simp] theorem State.mapZone_fa (i : Zone) (f : ZoneRec → ZoneRec) : (s.mapZone i f).fa = s.fa := rfl
@[simp] theorem State.mapZone_cr (i : Zone) (f : ZoneRec → ZoneRec) : (s.mapZone i f).cr = s.cr := rfl
@[simp] theorem State.mapZone_al (i : Zone) (f : ZoneRec → ZoneRec) : (s.mapZone i f).al = s.al := rfl
@[simp] theorem State.mapZone_fv (i : Zone) (f : ZoneRec → ZoneRec) : (s.mapZone i f).fv = s.fv := rfl
@[simp] theorem State.mapZone_sr (i : Zone) (f : ZoneRec → ZoneRec) : (s.mapZone i f).sr = s.sr := rfl
@[simp] theorem State.mapZone_sp (i : Zone) (f : ZoneRec → ZoneRec) : (s.mapZone i f).sp = s.sp := rfl

/-! ### Update of one `demand` -/

@[simp] theorem State.mapDemand_pending (i : Zone) (f : DemandRecord → DemandRecord) : (s.mapDemand i f).pending = s.pending := rfl
@[simp] theorem State.mapDemand_now (i : Zone) (f : DemandRecord → DemandRecord) : (s.mapDemand i f).now = s.now := rfl
@[simp] theorem State.mapDemand_powerOn (i : Zone) (f : DemandRecord → DemandRecord) : (s.mapDemand i f).powerOn = s.powerOn := rfl
@[simp] theorem State.mapDemand_esd (i : Zone) (f : DemandRecord → DemandRecord) : (s.mapDemand i f).esd = s.esd := rfl
@[simp] theorem State.mapDemand_resetHeld (i : Zone) (f : DemandRecord → DemandRecord) : (s.mapDemand i f).resetHeld = s.resetHeld := rfl
@[simp] theorem State.mapDemand_config (i : Zone) (f : DemandRecord → DemandRecord) : (s.mapDemand i f).config = s.config := rfl
@[simp] theorem State.mapDemand_li (i : Zone) (f : DemandRecord → DemandRecord) : (s.mapDemand i f).li = s.li := rfl
@[simp] theorem State.mapDemand_pt (i : Zone) (f : DemandRecord → DemandRecord) : (s.mapDemand i f).pt = s.pt := rfl
@[simp] theorem State.mapDemand_ce (i : Zone) (f : DemandRecord → DemandRecord) : (s.mapDemand i f).ce = s.ce := rfl
@[simp] theorem State.mapDemand_zs (i : Zone) (f : DemandRecord → DemandRecord) : (s.mapDemand i f).zs = s.zs := rfl
theorem State.mapDemand_fa (i : Zone) (f : DemandRecord → DemandRecord) :
    (s.mapDemand i f).fa = { s.fa with demands := upd s.fa.demands i (f (s.demand i)) } := rfl
@[simp] theorem State.mapDemand_cr (i : Zone) (f : DemandRecord → DemandRecord) : (s.mapDemand i f).cr = s.cr := rfl
@[simp] theorem State.mapDemand_al (i : Zone) (f : DemandRecord → DemandRecord) : (s.mapDemand i f).al = s.al := rfl
@[simp] theorem State.mapDemand_fv (i : Zone) (f : DemandRecord → DemandRecord) : (s.mapDemand i f).fv = s.fv := rfl
@[simp] theorem State.mapDemand_sr (i : Zone) (f : DemandRecord → DemandRecord) : (s.mapDemand i f).sr = s.sr := rfl
@[simp] theorem State.mapDemand_sp (i : Zone) (f : DemandRecord → DemandRecord) : (s.mapDemand i f).sp = s.sp := rfl

/-! ### Update of one `firing` -/

@[simp] theorem State.mapFiring_pending (i : Zone) (f : Firing → Firing) : (s.mapFiring i f).pending = s.pending := rfl
@[simp] theorem State.mapFiring_now (i : Zone) (f : Firing → Firing) : (s.mapFiring i f).now = s.now := rfl
@[simp] theorem State.mapFiring_powerOn (i : Zone) (f : Firing → Firing) : (s.mapFiring i f).powerOn = s.powerOn := rfl
@[simp] theorem State.mapFiring_esd (i : Zone) (f : Firing → Firing) : (s.mapFiring i f).esd = s.esd := rfl
@[simp] theorem State.mapFiring_resetHeld (i : Zone) (f : Firing → Firing) : (s.mapFiring i f).resetHeld = s.resetHeld := rfl
@[simp] theorem State.mapFiring_config (i : Zone) (f : Firing → Firing) : (s.mapFiring i f).config = s.config := rfl
@[simp] theorem State.mapFiring_li (i : Zone) (f : Firing → Firing) : (s.mapFiring i f).li = s.li := rfl
@[simp] theorem State.mapFiring_pt (i : Zone) (f : Firing → Firing) : (s.mapFiring i f).pt = s.pt := rfl
@[simp] theorem State.mapFiring_ce (i : Zone) (f : Firing → Firing) : (s.mapFiring i f).ce = s.ce := rfl
@[simp] theorem State.mapFiring_zs (i : Zone) (f : Firing → Firing) : (s.mapFiring i f).zs = s.zs := rfl
theorem State.mapFiring_fa (i : Zone) (f : Firing → Firing) :
    (s.mapFiring i f).fa = { s.fa with zones := upd s.fa.zones i (f (s.firing i)) } := rfl
@[simp] theorem State.mapFiring_cr (i : Zone) (f : Firing → Firing) : (s.mapFiring i f).cr = s.cr := rfl
@[simp] theorem State.mapFiring_al (i : Zone) (f : Firing → Firing) : (s.mapFiring i f).al = s.al := rfl
@[simp] theorem State.mapFiring_fv (i : Zone) (f : Firing → Firing) : (s.mapFiring i f).fv = s.fv := rfl
@[simp] theorem State.mapFiring_sr (i : Zone) (f : Firing → Firing) : (s.mapFiring i f).sr = s.sr := rfl
@[simp] theorem State.mapFiring_sp (i : Zone) (f : Firing → Firing) : (s.mapFiring i f).sp = s.sp := rfl

/-! ### Update of one `reg` -/

@[simp] theorem State.mapReg_pending (i : Chan) (f : Regulator → Regulator) : (s.mapReg i f).pending = s.pending := rfl
@[simp] theorem State.mapReg_now (i : Chan) (f : Regulator → Regulator) : (s.mapReg i f).now = s.now := rfl
@[simp] theorem State.mapReg_powerOn (i : Chan) (f : Regulator → Regulator) : (s.mapReg i f).powerOn = s.powerOn := rfl
@[simp] theorem State.mapReg_esd (i : Chan) (f : Regulator → Regulator) : (s.mapReg i f).esd = s.esd := rfl
@[simp] theorem State.mapReg_resetHeld (i : Chan) (f : Regulator → Regulator) : (s.mapReg i f).resetHeld = s.resetHeld := rfl
@[simp] theorem State.mapReg_config (i : Chan) (f : Regulator → Regulator) : (s.mapReg i f).config = s.config := rfl
@[simp] theorem State.mapReg_li (i : Chan) (f : Regulator → Regulator) : (s.mapReg i f).li = s.li := rfl
@[simp] theorem State.mapReg_pt (i : Chan) (f : Regulator → Regulator) : (s.mapReg i f).pt = s.pt := rfl
@[simp] theorem State.mapReg_ce (i : Chan) (f : Regulator → Regulator) : (s.mapReg i f).ce = s.ce := rfl
@[simp] theorem State.mapReg_zs (i : Chan) (f : Regulator → Regulator) : (s.mapReg i f).zs = s.zs := rfl
@[simp] theorem State.mapReg_fa (i : Chan) (f : Regulator → Regulator) : (s.mapReg i f).fa = s.fa := rfl
theorem State.mapReg_cr (i : Chan) (f : Regulator → Regulator) :
    (s.mapReg i f).cr = { s.cr with regs := upd s.cr.regs i (f (s.reg i)) } := rfl
@[simp] theorem State.mapReg_al (i : Chan) (f : Regulator → Regulator) : (s.mapReg i f).al = s.al := rfl
@[simp] theorem State.mapReg_fv (i : Chan) (f : Regulator → Regulator) : (s.mapReg i f).fv = s.fv := rfl
@[simp] theorem State.mapReg_sr (i : Chan) (f : Regulator → Regulator) : (s.mapReg i f).sr = s.sr := rfl
@[simp] theorem State.mapReg_sp (i : Chan) (f : Regulator → Regulator) : (s.mapReg i f).sp = s.sp := rfl

/-! ### Update of one `alarm` -/

@[simp] theorem State.mapAlarm_pending (i : AlarmId) (f : AlarmRec → AlarmRec) : (s.mapAlarm i f).pending = s.pending := rfl
@[simp] theorem State.mapAlarm_now (i : AlarmId) (f : AlarmRec → AlarmRec) : (s.mapAlarm i f).now = s.now := rfl
@[simp] theorem State.mapAlarm_powerOn (i : AlarmId) (f : AlarmRec → AlarmRec) : (s.mapAlarm i f).powerOn = s.powerOn := rfl
@[simp] theorem State.mapAlarm_esd (i : AlarmId) (f : AlarmRec → AlarmRec) : (s.mapAlarm i f).esd = s.esd := rfl
@[simp] theorem State.mapAlarm_resetHeld (i : AlarmId) (f : AlarmRec → AlarmRec) : (s.mapAlarm i f).resetHeld = s.resetHeld := rfl
@[simp] theorem State.mapAlarm_config (i : AlarmId) (f : AlarmRec → AlarmRec) : (s.mapAlarm i f).config = s.config := rfl
@[simp] theorem State.mapAlarm_li (i : AlarmId) (f : AlarmRec → AlarmRec) : (s.mapAlarm i f).li = s.li := rfl
@[simp] theorem State.mapAlarm_pt (i : AlarmId) (f : AlarmRec → AlarmRec) : (s.mapAlarm i f).pt = s.pt := rfl
@[simp] theorem State.mapAlarm_ce (i : AlarmId) (f : AlarmRec → AlarmRec) : (s.mapAlarm i f).ce = s.ce := rfl
@[simp] theorem State.mapAlarm_zs (i : AlarmId) (f : AlarmRec → AlarmRec) : (s.mapAlarm i f).zs = s.zs := rfl
@[simp] theorem State.mapAlarm_fa (i : AlarmId) (f : AlarmRec → AlarmRec) : (s.mapAlarm i f).fa = s.fa := rfl
@[simp] theorem State.mapAlarm_cr (i : AlarmId) (f : AlarmRec → AlarmRec) : (s.mapAlarm i f).cr = s.cr := rfl
theorem State.mapAlarm_al (i : AlarmId) (f : AlarmRec → AlarmRec) :
    (s.mapAlarm i f).al = { s.al with recs := upd s.al.recs i (f (s.alarm i)) } := rfl
@[simp] theorem State.mapAlarm_fv (i : AlarmId) (f : AlarmRec → AlarmRec) : (s.mapAlarm i f).fv = s.fv := rfl
@[simp] theorem State.mapAlarm_sr (i : AlarmId) (f : AlarmRec → AlarmRec) : (s.mapAlarm i f).sr = s.sr := rfl
@[simp] theorem State.mapAlarm_sp (i : AlarmId) (f : AlarmRec → AlarmRec) : (s.mapAlarm i f).sp = s.sp := rfl

/-! ### Update of one `rollCall` -/

@[simp] theorem State.mapRoll_pending (i : Station) (f : RollCall → RollCall) : (s.mapRoll i f).pending = s.pending := rfl
@[simp] theorem State.mapRoll_now (i : Station) (f : RollCall → RollCall) : (s.mapRoll i f).now = s.now := rfl
@[simp] theorem State.mapRoll_powerOn (i : Station) (f : RollCall → RollCall) : (s.mapRoll i f).powerOn = s.powerOn := rfl
@[simp] theorem State.mapRoll_esd (i : Station) (f : RollCall → RollCall) : (s.mapRoll i f).esd = s.esd := rfl
@[simp] theorem State.mapRoll_resetHeld (i : Station) (f : RollCall → RollCall) : (s.mapRoll i f).resetHeld = s.resetHeld := rfl
@[simp] theorem State.mapRoll_config (i : Station) (f : RollCall → RollCall) : (s.mapRoll i f).config = s.config := rfl
@[simp] theorem State.mapRoll_li (i : Station) (f : RollCall → RollCall) : (s.mapRoll i f).li = s.li := rfl
@[simp] theorem State.mapRoll_pt (i : Station) (f : RollCall → RollCall) : (s.mapRoll i f).pt = s.pt := rfl
@[simp] theorem State.mapRoll_ce (i : Station) (f : RollCall → RollCall) : (s.mapRoll i f).ce = s.ce := rfl
@[simp] theorem State.mapRoll_zs (i : Station) (f : RollCall → RollCall) : (s.mapRoll i f).zs = s.zs := rfl
@[simp] theorem State.mapRoll_fa (i : Station) (f : RollCall → RollCall) : (s.mapRoll i f).fa = s.fa := rfl
@[simp] theorem State.mapRoll_cr (i : Station) (f : RollCall → RollCall) : (s.mapRoll i f).cr = s.cr := rfl
@[simp] theorem State.mapRoll_al (i : Station) (f : RollCall → RollCall) : (s.mapRoll i f).al = s.al := rfl
theorem State.mapRoll_fv (i : Station) (f : RollCall → RollCall) :
    (s.mapRoll i f).fv = { s.fv with roll := upd s.fv.roll i (f (s.rollCall i)) } := rfl
@[simp] theorem State.mapRoll_sr (i : Station) (f : RollCall → RollCall) : (s.mapRoll i f).sr = s.sr := rfl
@[simp] theorem State.mapRoll_sp (i : Station) (f : RollCall → RollCall) : (s.mapRoll i f).sp = s.sp := rfl

/-! ### Update of one `acct` -/

@[simp] theorem State.mapAcct_pending (i : Chan) (f : Account → Account) : (s.mapAcct i f).pending = s.pending := rfl
@[simp] theorem State.mapAcct_now (i : Chan) (f : Account → Account) : (s.mapAcct i f).now = s.now := rfl
@[simp] theorem State.mapAcct_powerOn (i : Chan) (f : Account → Account) : (s.mapAcct i f).powerOn = s.powerOn := rfl
@[simp] theorem State.mapAcct_esd (i : Chan) (f : Account → Account) : (s.mapAcct i f).esd = s.esd := rfl
@[simp] theorem State.mapAcct_resetHeld (i : Chan) (f : Account → Account) : (s.mapAcct i f).resetHeld = s.resetHeld := rfl
@[simp] theorem State.mapAcct_config (i : Chan) (f : Account → Account) : (s.mapAcct i f).config = s.config := rfl
@[simp] theorem State.mapAcct_li (i : Chan) (f : Account → Account) : (s.mapAcct i f).li = s.li := rfl
@[simp] theorem State.mapAcct_pt (i : Chan) (f : Account → Account) : (s.mapAcct i f).pt = s.pt := rfl
@[simp] theorem State.mapAcct_ce (i : Chan) (f : Account → Account) : (s.mapAcct i f).ce = s.ce := rfl
@[simp] theorem State.mapAcct_zs (i : Chan) (f : Account → Account) : (s.mapAcct i f).zs = s.zs := rfl
@[simp] theorem State.mapAcct_fa (i : Chan) (f : Account → Account) : (s.mapAcct i f).fa = s.fa := rfl
@[simp] theorem State.mapAcct_cr (i : Chan) (f : Account → Account) : (s.mapAcct i f).cr = s.cr := rfl
@[simp] theorem State.mapAcct_al (i : Chan) (f : Account → Account) : (s.mapAcct i f).al = s.al := rfl
@[simp] theorem State.mapAcct_fv (i : Chan) (f : Account → Account) : (s.mapAcct i f).fv = s.fv := rfl
theorem State.mapAcct_sr (i : Chan) (f : Account → Account) :
    (s.mapAcct i f).sr = { s.sr with accts := upd s.sr.accts i (f (s.acct i)) } := rfl
@[simp] theorem State.mapAcct_sp (i : Chan) (f : Account → Account) : (s.mapAcct i f).sp = s.sp := rfl

/-! ### The notice set -/

@[simp] theorem State.notify_pending (k : Notice) : (s.notify k).pending = s.pending := rfl
@[simp] theorem State.notify_now (k : Notice) : (s.notify k).now = s.now := rfl
@[simp] theorem State.notify_powerOn (k : Notice) : (s.notify k).powerOn = s.powerOn := rfl
@[simp] theorem State.notify_esd (k : Notice) : (s.notify k).esd = s.esd := rfl
@[simp] theorem State.notify_resetHeld (k : Notice) : (s.notify k).resetHeld = s.resetHeld := rfl
@[simp] theorem State.notify_config (k : Notice) : (s.notify k).config = s.config := rfl
@[simp] theorem State.notify_li (k : Notice) : (s.notify k).li = s.li := rfl
@[simp] theorem State.notify_pt (k : Notice) : (s.notify k).pt = s.pt := rfl
@[simp] theorem State.notify_ce (k : Notice) : (s.notify k).ce = s.ce := rfl
@[simp] theorem State.notify_zs (k : Notice) : (s.notify k).zs = s.zs := rfl
@[simp] theorem State.notify_fa (k : Notice) : (s.notify k).fa = s.fa := rfl
@[simp] theorem State.notify_cr (k : Notice) : (s.notify k).cr = s.cr := rfl
@[simp] theorem State.notify_al (k : Notice) : (s.notify k).al = s.al := rfl
@[simp] theorem State.notify_fv (k : Notice) : (s.notify k).fv = s.fv := rfl
@[simp] theorem State.notify_sr (k : Notice) : (s.notify k).sr = s.sr := rfl

/-! ### Reading a written place -/

/-- Reading the place just written gives the value written. -/
@[simp] theorem upd_get_same {α : Type} {n : Nat} (v : Vector α n) (i : Fin n) (x : α) : (upd v i x).get i = x := by
  change (v.set i.val x i.isLt)[i.val] = x
  simp

/-- Writing one place leaves every other place as it was. -/
theorem upd_get_other {α : Type} {n : Nat} (v : Vector α n) {i j : Fin n} (x : α) (h : i ≠ j) :
    (upd v i x).get j = v.get j := by
  have h' : i.val ≠ j.val := fun e => h (Fin.ext e)
  change (v.set i.val x i.isLt)[j.val] = v[j.val]
  simp [h']

@[simp] theorem State.mapPeer_peer_same (i : Station) (f : PeerRecord → PeerRecord) : (s.mapPeer i f).peer i = f (s.peer i) := by
  simp [State.peer, State.mapPeer]

theorem State.mapPeer_peer_other (f : PeerRecord → PeerRecord) {i j : Station} (h : i ≠ j) : (s.mapPeer i f).peer j = s.peer j := by
  simp [State.peer, State.mapPeer, upd_get_other _ _ h]

@[simp] theorem State.mapChan_chan_same (i : Chan) (f : Channel → Channel) : (s.mapChan i f).chan i = f (s.chan i) := by
  simp [State.chan, State.mapChan]

theorem State.mapChan_chan_other (f : Channel → Channel) {i j : Chan} (h : i ≠ j) : (s.mapChan i f).chan j = s.chan j := by
  simp [State.chan, State.mapChan, upd_get_other _ _ h]

@[simp] theorem State.mapZone_zone_same (i : Zone) (f : ZoneRec → ZoneRec) : (s.mapZone i f).zone i = f (s.zone i) := by
  simp [State.zone, State.mapZone]

theorem State.mapZone_zone_other (f : ZoneRec → ZoneRec) {i j : Zone} (h : i ≠ j) : (s.mapZone i f).zone j = s.zone j := by
  simp [State.zone, State.mapZone, upd_get_other _ _ h]

@[simp] theorem State.mapDemand_demand_same (i : Zone) (f : DemandRecord → DemandRecord) : (s.mapDemand i f).demand i = f (s.demand i) := by
  simp [State.demand, State.mapDemand]

theorem State.mapDemand_demand_other (f : DemandRecord → DemandRecord) {i j : Zone} (h : i ≠ j) : (s.mapDemand i f).demand j = s.demand j := by
  simp [State.demand, State.mapDemand, upd_get_other _ _ h]

@[simp] theorem State.mapFiring_firing_same (i : Zone) (f : Firing → Firing) : (s.mapFiring i f).firing i = f (s.firing i) := by
  simp [State.firing, State.mapFiring]

theorem State.mapFiring_firing_other (f : Firing → Firing) {i j : Zone} (h : i ≠ j) : (s.mapFiring i f).firing j = s.firing j := by
  simp [State.firing, State.mapFiring, upd_get_other _ _ h]

@[simp] theorem State.mapReg_reg_same (i : Chan) (f : Regulator → Regulator) : (s.mapReg i f).reg i = f (s.reg i) := by
  simp [State.reg, State.mapReg]

theorem State.mapReg_reg_other (f : Regulator → Regulator) {i j : Chan} (h : i ≠ j) : (s.mapReg i f).reg j = s.reg j := by
  simp [State.reg, State.mapReg, upd_get_other _ _ h]

@[simp] theorem State.mapAlarm_alarm_same (i : AlarmId) (f : AlarmRec → AlarmRec) : (s.mapAlarm i f).alarm i = f (s.alarm i) := by
  simp [State.alarm, State.mapAlarm]

theorem State.mapAlarm_alarm_other (f : AlarmRec → AlarmRec) {i j : AlarmId} (h : i ≠ j) : (s.mapAlarm i f).alarm j = s.alarm j := by
  simp [State.alarm, State.mapAlarm, upd_get_other _ _ h]

@[simp] theorem State.mapRoll_rollCall_same (i : Station) (f : RollCall → RollCall) : (s.mapRoll i f).rollCall i = f (s.rollCall i) := by
  simp [State.rollCall, State.mapRoll]

theorem State.mapRoll_rollCall_other (f : RollCall → RollCall) {i j : Station} (h : i ≠ j) : (s.mapRoll i f).rollCall j = s.rollCall j := by
  simp [State.rollCall, State.mapRoll, upd_get_other _ _ h]

@[simp] theorem State.mapAcct_acct_same (i : Chan) (f : Account → Account) : (s.mapAcct i f).acct i = f (s.acct i) := by
  simp [State.acct, State.mapAcct]

theorem State.mapAcct_acct_other (f : Account → Account) {i j : Chan} (h : i ≠ j) : (s.mapAcct i f).acct j = s.acct j := by
  simp [State.acct, State.mapAcct, upd_get_other _ _ h]

end Sys2Proof.Machine
end

