-- ==== Sys2Proof/Laws/Follows.lean ====
section
/-! SUPPORT. What the operations that follow events are made of. A `Move` is one elementary change; `Moves` is a
sequence of them. Every shared operation is proved once to be a sequence of moves, so that whatever each move
keeps, every operation keeps: the still part among it. -/

namespace Sys2Proof.Machine

/-! ### Elementary changes -/

/-- One elementary change of a block. The change of a zone's state and the release of a SHUT line have
constructors of their own, with the guard under which the station makes them; `e` says whether a change of a
zone's state is among the changes. -/
inductive Move (e : Bool) : State → State → Prop
  | notify (s : State) (k : Notice) : Move e s (s.notify k)
  | offer (s : State) (cls : FrameClass) (p : List Word) (r k : Nat) (h : cls ≠ .trip) :
      Move e s (s.offer cls p r k).1
  | announce (s : State) (id : AlarmId) : Move e s (s.announce id)
  | cond (s : State) (id : AlarmId) (v : Bool) (x : Option Nat) : Move e s (s.setCond id v x)
  | snapTable (s : State) (i : Nat) (m : Bool) (t : Nat) (q : Published) :
      Move e s (s.mapPt fun p => { p with rollIndex := i, changeMark := m, lastOffer := t, published := q })
  | port (s : State) (w : List CmdRecord) (b : Nat) (r : Option CmdRecord) :
      Move e s (s.mapCe fun e => { e with waiting := w, busyUntil := b, onPort := r })
  | chan (s : State) (c : Chan) (f : Channel → Channel) (h : (f (s.chan c)).still = (s.chan c).still)
      (hs : (f (s.chan c)).shutReleased = true → (s.chan c).shutReleased = true) : Move e s (s.mapChan c f)
  | release (s : State) (c : Chan) (g : Channel → Channel) (f : FuelCfg) (h : (g (s.chan c)).still = (s.chan c).still)
      (hf : s.fuel? c = some f) (hz : (s.zone f.zone).state.firesFuel = true) : Move e s (s.mapChan c g)
  | acct (s : State) (c : Chan) (f : Account → Account) (h : (f (s.acct c)).still = (s.acct c).still) :
      Move e s (s.mapAcct c f)
  | zone (s : State) (z : Zone) (f : ZoneRec → ZoneRec) (h : (f (s.zone z)).state = (s.zone z).state) :
      Move e s (s.mapZone z f)
  | enter (s : State) (z : Zone) (st : ZoneState) (he : e = true)
      (h : st = .dark ∨ (s.zone z).state.trippable = true ∨
        (s.decides = true ∧ s.participates z = true ∧ (st = .tripped ∨ s.esd = false))) : Move e s (s.setZone z st)
  | firing (s : State) (z : Zone) (f : Firing → Firing) : Move e s (s.mapFiring z f)
  | cooler (s : State) (f : Cooler → Cooler) : Move e s (s.mapCr f)
  | demandMark (s : State) (z : Zone) (b : Bool) : Move e s (s.mapDemand z fun d => { d with unannounced := b })
  | ringMark (s : State) (b : ShiftRecord → Bool) :
      Move e s (s.mapSr fun r => { r with ring := r.ring.map fun x => { x with unannounced := b x } })

/-- A sequence of elementary changes. -/
abbrev Moves (e : Bool) : State → State → Prop := Relation.ReflTransGen (Move e)

variable {e : Bool} {s t u : State}

theorem Moves.refl' (s : State) : Moves e s s := Relation.ReflTransGen.refl

theorem Move.one (h : Move e s t) : Moves e s t := Relation.ReflTransGen.single h

theorem Moves.andThen (a : Moves e s t) (b : Moves e t u) : Moves e s u := a.trans b

/-- What each elementary change keeps, a sequence keeps. -/
theorem Moves.keep (P : State → Prop) (h : ∀ a b, Move e a b → P a → P b) (m : Moves e s t) (p : P s) : P t := by
  induction m with
  | refl => exact p
  | tail _ m ih => exact h _ _ m ih

/-- A fold of moves is a sequence of moves. -/
theorem Moves.foldl {α : Type} (f : State → α → State) (h : ∀ s a, Moves e s (f s a)) (l : List α) (s : State) :
    Moves e s (l.foldl f s) := by
  induction l generalizing s with
  | nil => exact .refl
  | cons a l ih => exact (h s a).trans (ih _)

/-- A move after a sequence. -/
theorem Moves.notify (k : Notice) (m : Moves e s t) : Moves e s (t.notify k) := m.tail (.notify _ _)
theorem Moves.cond (id : AlarmId) (v : Bool) (x : Option Nat) (m : Moves e s t) : Moves e s (t.setCond id v x) :=
  m.tail (.cond _ _ _ _)
theorem Moves.chan (c : Chan) (f : Channel → Channel) (m : Moves e s t)
    (h : (f (t.chan c)).still = (t.chan c).still)
    (hs : (f (t.chan c)).shutReleased = true → (t.chan c).shutReleased = true) : Moves e s (t.mapChan c f) :=
  m.tail (.chan _ _ _ h hs)
theorem Moves.acct (c : Chan) (f : Account → Account) (m : Moves e s t)
    (h : (f (t.acct c)).still = (t.acct c).still) : Moves e s (t.mapAcct c f) := m.tail (.acct _ _ _ h)
theorem Moves.zone (z : Zone) (f : ZoneRec → ZoneRec) (m : Moves e s t)
    (h : (f (t.zone z)).state = (t.zone z).state) : Moves e s (t.mapZone z f) := m.tail (.zone _ _ _ h)
theorem Moves.firing (z : Zone) (f : Firing → Firing) (m : Moves e s t) : Moves e s (t.mapFiring z f) :=
  m.tail (.firing _ _ _)
theorem Moves.cooler (f : Cooler → Cooler) (m : Moves e s t) : Moves e s (t.mapCr f) := m.tail (.cooler _ _)

/-! ### The actuator handshake -/

theorem State.sendCmd_moves (c : Chan) (cmd : Cmd) (a : Nat) : Moves e s (s.sendCmd c cmd a) := by
  unfold State.sendCmd
  refine (Moves.chan c _ .refl ?_ ?_).tail (.port _ _ _ _)
  · rfl
  · exact id

theorem State.pump_moves : Moves e s s.pump := by
  unfold State.pump
  split
  · exact .refl
  split
  · exact .refl
  · refine Moves.chan _ _ ((Relation.ReflTransGen.refl).tail (.port _ _ _ _)) ?_ ?_
    · rfl
    · exact id

theorem State.issue_moves (c : Chan) (cmd : Cmd) : Moves e s (s.issue c cmd) := by
  unfold State.issue
  split
  · exact s.sendCmd_moves c cmd 1
  · refine Moves.chan c _ .refl ?_ ?_
    · unfold Channel.enqueue; split <;> rfl
    · unfold Channel.enqueue; split <;> exact id

end Sys2Proof.Machine
end

