-- ==== Sys2Proof/Laws/Still.lean ====
section
/-! SUPPORT. The alarm list's operations and the elementary changes leave the plant, or its still part, as it was. -/

namespace Sys2Proof.Machine

variable (s : State)

/-- What each application keeps, a fold keeps. -/
theorem foldl_keep {α β γ : Type} (P : β → γ) (f : β → α → β) (h : ∀ b a, P (f b a) = P b) (l : List α) (b : β) :
    P (l.foldl f b) = P b := by
  induction l generalizing b with
  | nil => rfl
  | cons a l ih => rw [List.foldl_cons, ih, h]

/-- Mapping after a write that the map does not see changes nothing. -/
theorem upd_map_same {α β : Type} {n : Nat} (v : Vector α n) (i : Fin n) (x : α) (g : α → β)
    (h : g x = g (v.get i)) : (upd v i x).map g = v.map g := by
  apply Vector.ext
  intro j hj
  by_cases hij : i.val = j
  · subst hij
    simp only [upd, Vector.getElem_map, Vector.getElem_set_self, h]
    rfl
  · simp [upd, hij]

/-! ### Offers and notices -/

@[simp] theorem State.notify_plant (k : Notice) : (s.notify k).plant = s.plant := by cases k <;> rfl

theorem State.mapDemand_mark_plant (z : Zone) (b : Bool) :
    (s.mapDemand z fun d => { d with unannounced := b }).plant = s.plant := by
  have h := upd_map_same s.fa.demands z { s.fa.demands.get z with unannounced := b }
    (fun d => { d with unannounced := false }) rfl
  simp only [State.plant, State.mapDemand, State.mapFa] at *
  rw [h]

theorem State.mapRing_mark_plant (b : ShiftRecord → Bool) :
    (s.mapSr fun r => { r with ring := r.ring.map fun x => { x with unannounced := b x } }).plant = s.plant := by
  simp [State.plant, State.mapSr, Function.comp_def]

/-- Setting the announce mark of some ring records, in the form the operations write it. -/
theorem markRing (l : List ShiftRecord) (id : Nat) (b : Bool) :
    (l.map fun x => if x.closeId = id then { x with unannounced := b } else x)
      = l.map fun x => { x with unannounced := if x.closeId = id then b else x.unannounced } := by
  apply List.map_congr_left
  intro x _
  split <;> rfl

@[simp] theorem State.loseFrame_plant (f : TxFrame) : (s.loseFrame f).plant = s.plant := by
  unfold State.loseFrame
  split
  · split <;> rfl
  · split
    · exact s.mapDemand_mark_plant _ true
    · rfl
  · rw [← s.mapRing_mark_plant fun x => if x.closeId = f.closeId then true else x.unannounced]
    simp only [State.mapSr, markRing]
  all_goals rfl

@[simp] theorem State.enqueueNew_plant (f : TxFrame) : (s.enqueueNew f).plant = s.plant := rfl
@[simp] theorem State.enqueueReplace_plant (f : TxFrame) : (s.enqueueReplace f).plant = s.plant := rfl

theorem State.evictAt_plant (i : Nat) : (s.evictAt i false).plant = s.plant := by
  unfold State.evictAt
  split
  · rw [if_neg (by simp), State.loseFrame_plant]; rfl
  · rfl

/-- Only a TRIP evicts by case 3 of 01 R12. -/
theorem evictee_surplus {cls : FrameClass} (h : cls ≠ .trip) (q : List TxFrame) {i : Nat} {b : Bool}
    (he : evictee cls q = some (i, b)) : b = false := by
  unfold evictee at he
  rw [if_neg h] at he
  split at he
  · obtain ⟨_, _, h'⟩ := Option.map_eq_some_iff.mp he
    exact (congrArg Prod.snd h').symm
  · cases he

theorem State.offer_plant {cls : FrameClass} (h : cls ≠ .trip) (p : List Word) (r k : Nat) :
    (s.offer cls p r k).1.plant = s.plant := by
  unfold State.offer
  dsimp only
  repeat' split
  all_goals first
    | rfl
    | (rename_i he; rw [evictee_surplus h _ he, State.enqueueNew_plant, State.evictAt_plant])

/-! ### The alarm list -/

@[simp] theorem State.mapAl_plant (f : AlarmList → AlarmList) : (s.mapAl f).plant = s.plant := rfl
@[simp] theorem State.mapAlarm_plant (id : AlarmId) (f : AlarmRec → AlarmRec) : (s.mapAlarm id f).plant = s.plant := rfl
@[simp] theorem State.mapEntry_plant (id : AlarmId) (f : AlarmEntry → AlarmEntry) :
    (s.mapEntry id f).plant = s.plant := rfl
@[simp] theorem State.rollRemoval_plant (p : Nat) : (s.rollRemoval p).plant = s.plant := rfl

@[simp] theorem State.unlist_plant (id : AlarmId) : (s.unlist id).plant = s.plant := by
  unfold State.unlist; split <;> rfl

@[simp] theorem State.announce_plant (id : AlarmId) : (s.announce id).plant = s.plant := by
  unfold State.announce
  exact (State.mapAlarm_plant _ _ _).trans (s.offer_plant (by decide) _ _ _)

@[simp] theorem State.publishAlarm_plant (id : AlarmId) : (s.publishAlarm id).plant = s.plant := by
  unfold State.publishAlarm; simp

@[simp] theorem State.raiseAlarm_plant (id : AlarmId) : (s.raiseAlarm id).plant = s.plant := by
  unfold State.raiseAlarm; dsimp only; split <;> simp

@[simp] theorem State.removeEntry_plant (id : AlarmId) : (s.removeEntry id).plant = s.plant := by
  unfold State.removeEntry; simp

@[simp] theorem State.refill_plant : s.refill.plant = s.plant := by
  unfold State.refill; exact foldl_keep _ _ (fun _ _ => by simp) _ _

@[simp] theorem State.displace_plant (id : AlarmId) : (s.displace id).plant = s.plant := by
  unfold State.displace; dsimp only; split <;> simp

@[simp] theorem State.raiseNew_plant (id : AlarmId) : (s.raiseNew id).plant = s.plant := by
  unfold State.raiseNew; repeat' split
  all_goals simp

@[simp] theorem State.condRise_plant (id : AlarmId) : (s.condRise id).plant = s.plant := by
  unfold State.condRise; repeat' split
  all_goals simp

@[simp] theorem State.condFall_plant (id : AlarmId) : (s.condFall id).plant = s.plant := by
  unfold State.condFall; repeat' split
  all_goals simp

@[simp] theorem fullNotice_plant (a b : State) : (fullNotice a b).plant = b.plant := by
  unfold fullNotice; split <;> simp

@[simp] theorem State.setCond_plant (id : AlarmId) (v : Bool) (x : Option Nat) :
    (s.setCond id v x).plant = s.plant := by
  unfold State.setCond; repeat' split
  all_goals simp

@[simp] theorem State.endShelve_plant (id : AlarmId) : (s.endShelve id).plant = s.plant := by
  unfold State.endShelve; split <;> simp

@[simp] theorem State.shelveEntry_plant (id : AlarmId) (m : Nat) : (s.shelveEntry id m).plant = s.plant := by
  unfold State.shelveEntry; simp

@[simp] theorem State.ackOwn_plant (id : Nat) (seq : Word) : (s.ackOwn id seq).1.plant = s.plant := by
  unfold State.ackOwn
  repeat' split
  all_goals simp

/-- The still part is a part of the plant. -/
theorem State.still_of_plant {s t : State} (h : t.plant = s.plant) : t.still = s.still := by
  have hc : t.plant.ce = s.plant.ce := by rw [h]
  have hs : t.plant.sr.accts = s.plant.sr.accts := by rw [h]
  unfold State.still
  rw [h, show t.ce = s.ce from hc, show t.sr.accts = s.sr.accts from hs]

/-! ### Records of a channel, an account, a zone -/

theorem State.mapChan_still (c : Chan) (f : Channel → Channel) (h : (f (s.chan c)).still = (s.chan c).still) :
    (s.mapChan c f).still = s.still := by
  have h' := upd_map_same s.ce.chans c (f (s.ce.chans.get c)) Channel.still h
  simp only [State.still, State.plant, State.mapChan, State.mapCe]
  rw [h']

theorem State.mapAcct_still (c : Chan) (f : Account → Account) (h : (f (s.acct c)).still = (s.acct c).still) :
    (s.mapAcct c f).still = s.still := by
  have h' := upd_map_same s.sr.accts c (f (s.sr.accts.get c)) Account.still h
  simp only [State.still, State.plant, State.mapAcct, State.mapSr]
  rw [h']

@[simp] theorem State.mapZone_still (z : Zone) (f : ZoneRec → ZoneRec) : (s.mapZone z f).still = s.still := rfl
@[simp] theorem State.mapFiring_still (z : Zone) (f : Firing → Firing) : (s.mapFiring z f).still = s.still := rfl
@[simp] theorem State.mapCr_still (f : Cooler → Cooler) : (s.mapCr f).still = s.still := rfl

/-- The elementary changes that change no zone's state keep the still part. -/
theorem Move.still_false {s t : State} (h : Move false s t) : t.still = s.still := by
  cases h with
  | notify => exact State.still_of_plant (by simp)
  | offer _ _ _ _ h => exact State.still_of_plant (s.offer_plant h _ _ _)
  | announce => exact State.still_of_plant (by simp)
  | cond => exact State.still_of_plant (by simp)
  | snapTable => rfl
  | port => rfl
  | chan _ _ h _ => exact s.mapChan_still _ _ h
  | release _ _ _ h _ _ => exact s.mapChan_still _ _ h
  | acct _ _ h => exact s.mapAcct_still _ _ h
  | zone => rfl
  | enter _ _ he _ => cases he
  | firing => rfl
  | cooler => rfl
  | demandMark => exact State.still_of_plant (s.mapDemand_mark_plant _ _)
  | ringMark => exact State.still_of_plant (s.mapRing_mark_plant _)

theorem Moves.still_false {s t : State} (m : Moves false s t) : t.still = s.still :=
  Moves.keep (fun x => x.still = s.still) (fun _ _ h p => h.still_false.trans p) m rfl

end Sys2Proof.Machine
end

