-- ==== Sys2Proof/Laws/Alarm.lean ====
section
/-! SUPPORT. The condition values: only a write of a condition changes one, and it changes its own. -/

namespace Sys2Proof.Machine

variable (s : State)

/-- The condition values of all ids. -/
def State.conds : Vector Bool 114 := s.al.recs.map AlarmRec.cond

theorem State.conds_get (id : AlarmId) : s.conds.get id = s.cond id := by
  simp [State.conds, State.cond, State.alarm, Vector.get]
  rfl

theorem State.cond_of_conds {s t : State} (h : t.conds = s.conds) (id : AlarmId) : t.cond id = s.cond id := by
  rw [← State.conds_get, ← State.conds_get, h]

theorem State.mapAlarm_conds (id : AlarmId) (f : AlarmRec → AlarmRec) (h : (f (s.alarm id)).cond = s.cond id) :
    (s.mapAlarm id f).conds = s.conds := upd_map_same s.al.recs id (f (s.al.recs.get id)) AlarmRec.cond h

@[simp] theorem State.notify_conds (k : Notice) : (s.notify k).conds = s.conds := by cases k <;> rfl

@[simp] theorem State.loseFrame_conds (f : TxFrame) : (s.loseFrame f).conds = s.conds := by
  unfold State.loseFrame
  repeat' split
  all_goals first
    | exact s.mapAlarm_conds _ _ rfl
    | rfl

@[simp] theorem State.enqueueNew_conds (f : TxFrame) : (s.enqueueNew f).conds = s.conds := rfl
@[simp] theorem State.enqueueReplace_conds (f : TxFrame) : (s.enqueueReplace f).conds = s.conds := rfl

@[simp] theorem State.evictAt_conds (i : Nat) (b : Bool) : (s.evictAt i b).conds = s.conds := by
  unfold State.evictAt
  split
  · split
    · rfl
    · exact State.loseFrame_conds _ _
  · rfl

@[simp] theorem State.offer_conds (cls : FrameClass) (p : List Word) (r k : Nat) :
    (s.offer cls p r k).1.conds = s.conds := by
  unfold State.offer
  dsimp only
  repeat' split
  all_goals simp

@[simp] theorem State.mapEntry_conds (id : AlarmId) (f : AlarmEntry → AlarmEntry) :
    (s.mapEntry id f).conds = s.conds := rfl

@[simp] theorem State.unlist_conds (id : AlarmId) : (s.unlist id).conds = s.conds := by
  unfold State.unlist; split <;> rfl

@[simp] theorem State.announce_conds (id : AlarmId) : (s.announce id).conds = s.conds := by
  unfold State.announce
  exact (State.mapAlarm_conds _ _ _ rfl).trans (s.offer_conds _ _ _ _)

@[simp] theorem State.publishAlarm_conds (id : AlarmId) : (s.publishAlarm id).conds = s.conds := by
  unfold State.publishAlarm; simp

@[simp] theorem State.raiseAlarm_conds (id : AlarmId) : (s.raiseAlarm id).conds = s.conds := by
  unfold State.raiseAlarm
  dsimp only
  have h : ∀ (t : State) (l : List AlarmEntry) (c : Word),
      (t.mapAl fun al => { al.countRaise (alarmPriority id) with list := l, counter := c }).conds = t.conds := by
    intro t l c
    unfold State.conds State.mapAl AlarmList.countRaise
    dsimp only
    repeat' split
    all_goals rfl
  have h2 : ∀ (t : State) (f : AlarmRec → AlarmRec) (_ : ∀ x, (f x).cond = x.cond),
      (t.mapAlarm id f).conds = t.conds := fun t f hf => t.mapAlarm_conds id f (hf _)
  split
  · rw [State.notify_conds, State.publishAlarm_conds]
    exact (h2 _ _ (by intro _; rfl)).trans ((h (s.unlist id) _ _).trans (s.unlist_conds id))
  · rw [State.publishAlarm_conds]
    exact (h2 _ _ (by intro _; rfl)).trans ((h (s.unlist id) _ _).trans (s.unlist_conds id))

@[simp] theorem State.removeEntry_conds (id : AlarmId) : (s.removeEntry id).conds = s.conds := by
  unfold State.removeEntry; simp

@[simp] theorem State.refill_conds : s.refill.conds = s.conds := by
  unfold State.refill; exact foldl_keep _ _ (fun _ _ => by simp) _ _

@[simp] theorem State.displace_conds (id : AlarmId) : (s.displace id).conds = s.conds := by
  unfold State.displace
  dsimp only
  split
  · exact (State.mapAlarm_conds _ _ _ rfl).trans (s.removeEntry_conds id)
  · simp

@[simp] theorem State.raiseNew_conds (id : AlarmId) : (s.raiseNew id).conds = s.conds := by
  unfold State.raiseNew
  repeat' split
  · simp
  · simp
  · exact s.mapAlarm_conds _ _ rfl

@[simp] theorem State.condRise_conds (id : AlarmId) : (s.condRise id).conds = s.conds := by
  unfold State.condRise; repeat' split
  all_goals simp

@[simp] theorem State.condFall_conds (id : AlarmId) : (s.condFall id).conds = s.conds := by
  unfold State.condFall; repeat' split
  · exact s.mapAlarm_conds _ _ rfl
  all_goals simp

@[simp] theorem fullNotice_conds (a b : State) : (fullNotice a b).conds = b.conds := by
  unfold fullNotice; split <;> simp

/-- A write of a condition of a configured station sets that condition and no other. -/
theorem State.setCond_cond (id : AlarmId) (v : Bool) (x : Option Nat) (hc : s.configured = true) (j : AlarmId) :
    (s.setCond id v x).cond j = if j = id then v else s.cond j := by
  unfold State.setCond
  split
  · rename_i h
    simp only [hc, Bool.not_true, Bool.false_or, beq_iff_eq] at h
    split
    · subst j; exact h
    · rfl
  · have key : ∀ (f : AlarmRec → AlarmRec) (_ : ∀ y, (f y).cond = v),
        (s.mapAlarm id f).cond j = if j = id then v else s.cond j := by
      intro f hf
      unfold State.cond
      split
      · subst j; rw [State.mapAlarm_alarm_same, hf]
      · rw [State.mapAlarm_alarm_other _ _ (Ne.symm ‹_›)]
    split
    · rename_i hv
      rw [State.cond_of_conds (fullNotice_conds _ _), State.cond_of_conds (State.condRise_conds _ _)]
      exact key _ fun _ => hv.symm
    · rename_i hv
      rw [State.cond_of_conds (fullNotice_conds _ _), State.cond_of_conds (State.condFall_conds _ _)]
      exact key _ fun _ => (by simpa using hv : v = false).symm

end Sys2Proof.Machine
end

