-- ==== Sys2Proof/Laws/ChannelMoves.lean ====
section
/-! SUPPORT. The shared operations of CE, CR, FA and SR as sequences of elementary changes. -/

namespace Sys2Proof.Machine

variable {e : Bool} (s : State)

/-- A change of a channel record that neither opens SHUT nor writes what the samples and the configuration give. -/
theorem State.chan_moves (c : Chan) (f : Channel → Channel) (h : ∀ x, (f x).still = x.still)
    (hs : ∀ x, (f x).shutReleased = true → x.shutReleased = true) : Moves e s (s.mapChan c f) :=
  Moves.chan c f .refl (h _) (hs _)

theorem Moves.chan' {s t : State} (c : Chan) (f : Channel → Channel) (m : Moves e s t) (h : ∀ x, (f x).still = x.still)
    (hs : ∀ x, (f x).shutReleased = true → x.shutReleased = true) : Moves e s (t.mapChan c f) :=
  m.andThen (t.chan_moves c f h hs)

theorem Channel.enqueue_still (x : Channel) (cmd : Cmd) : (x.enqueue cmd).still = x.still := by
  unfold Channel.enqueue; split <;> rfl

theorem Moves.issue {s t : State} (c : Chan) (cmd : Cmd) (m : Moves e s t) : Moves e s (t.issue c cmd) :=
  m.andThen (State.issue_moves c cmd)

theorem Moves.sendCmd {s t : State} (c : Chan) (cmd : Cmd) (a : Nat) (m : Moves e s t) :
    Moves e s (t.sendCmd c cmd a) := m.andThen (State.sendCmd_moves c cmd a)

/-! ### Channel engine -/

theorem State.nextCmd_moves (c : Chan) : Moves e s (s.nextCmd c) := by
  unfold State.nextCmd
  dsimp only
  have h : Moves e s (s.mapChan c fun x => { x with inFlight := none }) :=
    s.chan_moves c _ (by intro _; rfl) (by intro _ h; exact h)
  split
  · exact (h.chan' c _ (by intro _; rfl) (by intro _ h; exact h)).sendCmd _ _ _
  split
  · exact (h.chan' c _ (by intro _; rfl) (by intro _ h; exact h)).sendCmd _ _ _
  split
  · exact (h.chan' c _ (by intro _; rfl) (by intro _ h; exact h)).sendCmd _ _ _
  · exact h

theorem Account.setRunning_still (a : Account) (b : Bool) (n : Nat) : (a.setRunning b n).still = a.still := by
  unfold Account.setRunning; split <;> rfl

theorem State.setChState_moves (c : Chan) (st : ChState) : Moves e s (s.setChState c st) := by
  unfold State.setChState
  split
  · exact .refl
  · exact ((((((s.chan_moves c _ (by intro _; rfl) (by intro _ h; exact h)).notify _).acct c _
      (Account.setRunning_still _ _ _)).cond _ _ _).cond _ _ _).cond _ _ _)

theorem State.endTracking_moves (c : Chan) : Moves e s (s.endTracking c) :=
  (s.chan_moves c _ (by intro _; rfl) (by intro _ h; exact h)).cond _ _ _

theorem State.enterOff_moves (c : Chan) : Moves e s (s.enterOff c) :=
  ((s.chan_moves c _ (by intro _; rfl) (by intro _ h; nomatch h)).andThen (State.endTracking_moves _ c)).andThen
    (State.setChState_moves _ c _)

theorem State.restartAcquiring_moves (c : Chan) : Moves e s (s.restartAcquiring c) := by
  unfold State.restartAcquiring
  split
  · exact .refl
  · dsimp only
    split
    · exact (s.chan_moves c _ (by intro _; rfl) (by intro _ h; exact h)).notify _
    · exact s.chan_moves c _ (by intro _; rfl) (by intro _ h; exact h)

theorem State.finishStopping_moves (c : Chan) : Moves e s (s.finishStopping c) :=
  (s.enterOff_moves c).issue c _

theorem State.stepRamp_moves (c : Chan) (f : FuelCfg) (t : Nat) : Moves e s (s.stepRamp c f t) := by
  unfold State.stepRamp
  dsimp only
  have h : Moves e s ((s.mapChan c fun x => { x with
      setpoint := rampMove (s.chan c).setpoint (s.chan c).target f.ramp
      rampNext := if rampMove (s.chan c).setpoint (s.chan c).target f.ramp = (s.chan c).target then none
        else some (t + seconds 1) }).issue c (.setFeed (rampMove (s.chan c).setpoint (s.chan c).target f.ramp))) :=
    (s.chan_moves c _ (by intro _; rfl) (by intro _ h; exact h)).issue c _
  split
  · exact h.andThen (State.finishStopping_moves _ c)
  · exact h

theorem State.retarget_moves (c : Chan) (f : FuelCfg) (v : Nat) : Moves e s (s.retarget c f v) := by
  unfold State.retarget
  dsimp only
  have h : Moves e s (s.mapChan c fun x => { x with target := v }) := s.chan_moves c _ (by intro _; rfl) (by intro _ h; exact h)
  repeat' split
  · exact (h.andThen (State.restartAcquiring_moves _ c)).andThen (State.stepRamp_moves _ c f _)
  · exact h.andThen (State.stepRamp_moves _ c f _)
  · exact h.andThen (State.restartAcquiring_moves _ c)
  · exact h

theorem State.holdAlloc_moves (c : Chan) (f : FuelCfg) (a : Nat) : Moves e s (s.holdAlloc c f a) := by
  unfold State.holdAlloc
  split
  · exact .refl
  · exact (s.chan_moves c _ (by intro _; rfl) (by intro _ h; exact h)).andThen (State.retarget_moves _ c f _)

theorem State.deliver_moves (c : Chan) (a : Nat) : Moves e s (s.deliver c a) := by
  unfold State.deliver
  split
  · exact .refl
  · split
    · exact s.holdAlloc_moves c _ _
    · exact .refl

theorem State.setHmaxEff_moves (c : Chan) (f : FuelCfg) (v : Nat) : Moves e s (s.setHmaxEff c f v) := by
  unfold State.setHmaxEff
  dsimp only
  have h : Moves e s (s.mapChan c fun x => { x with hmaxEff := v }) := s.chan_moves c _ (by intro _; rfl) (by intro _ h; exact h)
  split
  · exact h.andThen (State.holdAlloc_moves _ c f _)
  · exact h

theorem State.startDerating_moves (c : Chan) (f : FuelCfg) : Moves e s (s.startDerating c f) :=
  (Moves.cond _ _ _ .refl).andThen (State.setHmaxEff_moves _ c f _)

theorem State.endDerating_moves (c : Chan) : Moves e s (s.endDerating c) :=
  (s.chan_moves c _ (by intro _; rfl) (by intro _ h; exact h)).cond _ _ _

theorem State.trackSample_moves (c : Chan) (f : FuelCfg) (a : Nat) : Moves e s (s.trackSample c f a) := by
  unfold State.trackSample
  split
  · exact .refl
  · rename_i t _
    dsimp only
    have h : Moves e s (s.mapChan c fun x => { x with
        track := some (t.sample (deviation a (s.chan c).setpoint f.fmin)) }) :=
      s.chan_moves c _ (by intro _; rfl) (by intro _ h; exact h)
    repeat' split
    · exact ((h.chan' c _ (by intro _; rfl) (by intro _ h; exact h)).andThen (State.endDerating_moves _ c)).notify _
    · exact (h.chan' c _ (by intro _; rfl) (by intro _ h; exact h)).notify _
    · exact h

theorem State.startTracking_moves (c : Chan) : Moves e s (s.startTracking c) :=
  s.chan_moves c _ (by intro _; rfl) (by intro _ h; exact h)

theorem State.enterRunning_moves (c : Chan) (f : FuelCfg) : Moves e s (s.enterRunning c f) :=
  (((s.chan_moves c _ (by intro _; rfl) (by intro _ h; exact h)).andThen (State.setChState_moves _ c _)).andThen
    (State.startTracking_moves _ c)).andThen (State.retarget_moves _ c f _)

theorem State.limitChannel_moves (c : Chan) : Moves e s (s.limitChannel c) := by
  unfold State.limitChannel
  split
  · exact .refl
  · split
    · exact ((s.chan_moves c _ (by intro _; rfl) (by intro _ h; exact h)).andThen (State.setChState_moves _ c _)).andThen
        (State.retarget_moves _ c _ _)
    · exact .refl

theorem State.unlimitChannel_moves (c : Chan) : Moves e s (s.unlimitChannel c) := by
  unfold State.unlimitChannel
  split
  · exact .refl
  · split
    · exact ((s.chan_moves c _ (by intro _; rfl) (by intro _ h; exact h)).andThen (State.setChState_moves _ c _)).andThen
        (State.retarget_moves _ c _ _)
    · exact .refl

theorem State.offWith_moves (c : Chan) (b : Bool) : Moves e s (s.offWith c b) := by
  unfold State.offWith
  dsimp only
  split
  · exact ((s.enterOff_moves c).issue c _).issue c _
  · exact (s.enterOff_moves c).issue c _

theorem State.stopProving_moves (c : Chan) : Moves e s (s.stopProving c) := s.offWith_moves c _

theorem State.loseZone_moves (c : Chan) : Moves e s (s.loseZone c) := s.offWith_moves c _

theorem State.startStopping_moves (c : Chan) (f : FuelCfg) : Moves e s (s.startStopping c f) := by
  unfold State.startStopping
  dsimp only
  have h : Moves e s ((s.mapChan c fun ch => { ch with alloc := ch.hmin }).setChState c .stopping) :=
    (s.chan_moves c _ (by intro _; rfl) (by intro _ h; exact h)).andThen (State.setChState_moves _ c _)
  split
  · exact (h.chan' c _ (by intro _; rfl) (by intro _ h; exact h)).andThen (State.finishStopping_moves _ c)
  · exact h.andThen (State.retarget_moves _ c f _)

theorem State.tripChannel_moves (c : Chan) (cause : TripCause) : Moves e s (s.tripChannel c cause) := by
  unfold State.tripChannel
  split
  · exact .refl
  · split
    · dsimp only
      have h : Moves e s ((s.mapChan c fun ch => ch.tripRecord cause s.runClock s.stamp).endTracking c) :=
        (s.chan_moves c _ (by intro _; rfl) (by intro _ h; nomatch h)).andThen (State.endTracking_moves _ c)
      split
      · exact (((h.chan' c _ (by intro _; rfl) (by intro _ h; exact h)).sendCmd _ _ _).acct c _ rfl).andThen
          (State.setChState_moves _ c _)
      · exact ((h.chan' c _ (by intro _; rfl) (by intro _ h; exact h)).acct c _ rfl).andThen (State.setChState_moves _ c _)
    · exact .refl

theorem State.startFan_moves (c : Chan) (f : FanCfg) : Moves e s (s.startFan c f) :=
  ((s.chan_moves c _ (by intro _; rfl) (by intro _ h; exact h)).issue c _).andThen (State.setChState_moves _ c _)

theorem State.stopFan_moves (c : Chan) : Moves e s (s.stopFan c) :=
  ((s.chan_moves c _ (by intro _; rfl) (by intro _ h; exact h)).issue c _).andThen (State.setChState_moves _ c _)

theorem State.faultFan_moves (c : Chan) : Moves e s (s.faultFan c) :=
  ((s.chan_moves c _ (by intro _; rfl) (by intro _ h; exact h)).acct c _ rfl).andThen (State.setChState_moves _ c _)

theorem State.setFlow_moves (c : Chan) (v : Nat) : Moves e s (s.setFlow c v) := by
  unfold State.setFlow
  split
  · exact .refl
  · exact (s.chan_moves c _ (by intro _; rfl) (by intro _ h; exact h)).issue c _

theorem State.takeBase_moves (c : Chan) (f : FanCfg) : Moves e s (s.takeBase c f) := by
  unfold State.takeBase
  split
  · exact s.setFlow_moves c _
  · exact .refl

theorem State.flowHanded_moves (c : Chan) (f : FanCfg) : Moves e s (s.flowHanded c f) := by
  unfold State.flowHanded
  dsimp only
  split
  · exact ((s.chan_moves c _ (by intro _; rfl) (by intro _ h; exact h)).andThen (State.setChState_moves _ c _)).andThen
      (State.takeBase_moves _ c f)
  · exact .refl

theorem State.adoptFan_moves (c : Chan) (f : FanCfg) (v : Nat) : Moves e s (s.adoptFan c f v) := by
  unfold State.adoptFan
  dsimp only
  split
  · exact (s.chan_moves c _ (by intro _; rfl) (by intro _ h; exact h)).andThen (State.setChState_moves _ c _)
  · exact .refl

theorem State.attemptFailed_moves (c : Chan) : Moves e s (s.attemptFailed c) := by
  unfold State.attemptFailed
  split
  · exact .refl
  · dsimp only
    have h : Moves e s ((s.mapChan c fun ch => { ch with slowSince := some s.now }).setCond (idActuatorSlow c)
        true none) := (s.chan_moves c _ (by intro _; rfl) (by intro _ h; exact h)).cond _ _ _
    repeat' split
    · exact h.sendCmd _ _ _
    · exact (h.chan' c _ (by intro _; rfl) (by intro _ h; exact h)).andThen (State.tripChannel_moves _ c _)
    · exact h.andThen (State.nextCmd_moves _ c)
    · exact h.chan' c _ (by intro _; rfl) (by intro _ h; exact h)
    · exact (h.chan' c _ (by intro _; rfl) (by intro _ h; exact h)).andThen (State.faultFan_moves _ c)
    · exact h

theorem State.sampleCond_moves (c : Chan) : Moves e s (s.sampleCond c) := Moves.cond _ _ _ .refl

theorem State.samplePointCond_moves (p : PointId) : Moves e s (s.samplePointCond p) := by
  unfold State.samplePointCond
  split
  · exact s.sampleCond_moves _
  · exact .refl

/-! ### Cooler regulator -/

theorem State.reg_moves (c : Chan) (f : Regulator → Regulator) : Moves e s (s.mapReg c f) := Moves.cooler _ .refl

theorem State.computeFan_moves (c : Chan) (f : FanCfg) (t : Nat) : Moves e s (s.computeFan c f t) := by
  unfold State.computeFan
  split
  · dsimp only
    split
    · exact s.reg_moves c _
    · exact (s.reg_moves c _).andThen (State.setFlow_moves _ c _)
  · exact .refl

theorem State.clearBlow_moves (c : Chan) : Moves e s (s.clearBlow c) := (s.reg_moves c _).cond _ _ _

theorem State.judgeBlow_moves (c : Chan) : Moves e s (s.judgeBlow c) := by
  unfold State.judgeBlow
  repeat' split
  · exact .refl
  · exact s.reg_moves c _
  · exact .refl
  · exact s.clearBlow_moves c

theorem State.judgeHigh_moves : Moves e s s.judgeHigh := by
  unfold State.judgeHigh
  dsimp only
  split
  all_goals split
  · split
    · exact Moves.cooler _ .refl
    · exact .refl
  · exact (Moves.cooler _ .refl).cond _ _ _
  · simp at *
  · exact (Moves.cooler _ .refl).cond _ _ _

theorem State.holdShortfall_moves (z : Zone) (v : Nat) : Moves e s (s.holdShortfall z v) := Moves.cooler _ .refl

/-! ### Shift store and alarm list: the retries -/

theorem State.ringMark_moves (id : Nat) (b : Bool) :
    Moves e s (s.mapSr fun r => { r with
      ring := r.ring.map fun x => if x.closeId = id then { x with unannounced := b } else x }) := by
  have h : Move e s _ := .ringMark s fun x => if x.closeId = id then b else x.unannounced
  simp only [← markRing] at h
  exact .single h

theorem State.offerShift_moves (r : ShiftRecord) : Moves e s (s.offerShift r) :=
  (Move.one (.offer _ _ _ _ _ (by decide))).andThen (State.ringMark_moves _ _ _)

theorem State.retryShifts_moves : Moves e s s.retryShifts := Moves.foldl _ State.offerShift_moves _ _

theorem State.retryAlerts_moves : Moves e s s.retryAlerts :=
  Moves.foldl _ (fun s id => .single (.announce s id)) _ _

/-! ### Firing allocator -/

theorem State.offerDemand_moves (z : Zone) : Moves e s (s.offerDemand z) := by
  unfold State.offerDemand
  split
  · exact .refl
  · exact (Relation.ReflTransGen.single (.offer _ _ _ _ _ (by decide))).tail (.demandMark _ _ _)

theorem State.retryDemand_moves (z : Zone) : Moves e s (s.retryDemand z) := by
  unfold State.retryDemand
  split
  · split
    · exact s.offerDemand_moves z
    · exact .single (.demandMark _ _ _)
  · exact .single (.demandMark _ _ _)
  · exact .refl

theorem State.retryDemands_moves : Moves e s s.retryDemands := Moves.foldl _ State.retryDemand_moves _ _

theorem State.firing_moves (z : Zone) (f : Firing → Firing) : Moves e s (s.mapFiring z f) := Moves.firing _ _ .refl

theorem State.startPass_moves (z : Zone) : Moves e s (s.startPass z) := by
  unfold State.startPass; exact s.firing_moves z _

theorem State.triggerPass_moves (z : Zone) : Moves e s (s.triggerPass z) := by
  unfold State.triggerPass
  repeat' split
  · exact s.startPass_moves z
  · exact s.firing_moves z _
  · exact .refl

theorem State.firingEntersLit_moves (z : Zone) : Moves e s (s.firingEntersLit z) := s.firing_moves z _

theorem State.firingLeavesLit_moves (z : Zone) : Moves e s (s.firingLeavesLit z) :=
  (((s.firing_moves z _).cond _ _ _).cond _ _ _).andThen (State.holdShortfall_moves _ z 0)

theorem State.airFlag_moves (z : Zone) (a b : Bool) : Moves e s (s.airFlag z a b) := by
  unfold State.airFlag
  repeat' split
  · exact Moves.zone _ _ .refl rfl
  · exact Moves.zone _ _ .refl rfl
  · exact .refl
  · exact .refl

theorem State.deliverAll_moves (l : List Allocated) : Moves e s (s.deliverAll l) := by
  refine Moves.foldl _ (fun s a => ?_) _ _
  split
  · exact s.deliver_moves _ _
  · exact .refl

theorem State.applyPass_moves (z : Zone) (p : PassInput) : Moves e s (s.applyPass z p) := by
  unfold State.applyPass
  dsimp only
  refine Moves.andThen ?_ (State.deliverAll_moves _ _)
  split
  · exact (((s.firing_moves z _).andThen (State.airFlag_moves _ z _ _)).andThen
      (State.holdShortfall_moves _ z _)).cond _ _ _
  · exact ((((s.firing_moves z _).andThen (State.airFlag_moves _ z _ _)).andThen
      (State.holdShortfall_moves _ z _)).cond _ _ _).cond _ _ _

theorem State.completePass_moves (z : Zone) : Moves e s (s.completePass z) := by
  unfold State.completePass
  split
  · exact .refl
  · dsimp only
    split
    · exact (s.firing_moves z _).firing z _
    · have h := (s.firing_moves (e := e) z fun x => { x with pass := none }).andThen
        (State.applyPass_moves _ z (by assumption : Pass).input)
      split
      · exact (h.firing z _).andThen (State.startPass_moves _ z)
      · exact h

theorem State.refreshSupply_moves (z : Zone) : Moves e s (s.refreshSupply z) := by
  unfold State.refreshSupply
  split
  · exact s.firing_moves z _
  · exact .refl

/-! ### The field port receiver behind a gap (11 R202) -/

/-- Without a whole record that passes before the gap, the receiver starts at the late byte. -/
theorem rescanGap_none (before : List Byte) (late : Byte)
    (h : ∀ a b, before = a ++ b8 0xC3 :: b → holdsRecord b = false) : rescanGap before late = rescan [late] := by
  induction before with
  | nil => rfl
  | cons x rest ih =>
    have hx : ¬ (x = b8 0xC3 ∧ holdsRecord rest = true) := fun ⟨hx, hr⟩ => by
      simp [h [] rest (by simp [hx])] at hr
    rw [rescanGap, if_neg hx, ih fun a b e => h (x :: a) b (by simp [e])]

/-- The first whole record before the gap is left standing. -/
theorem rescanGap_found (skip rest : List Byte) (late : Byte) (hs : b8 0xC3 ∉ skip) (hr : holdsRecord rest = true) :
    rescanGap (skip ++ b8 0xC3 :: rest) late = .beforeGap rest late := by
  induction skip with
  | nil => simp [rescanGap, hr]
  | cons x l ih =>
    have hx : ¬ (x = b8 0xC3 ∧ holdsRecord (l ++ b8 0xC3 :: rest) = true) := fun h => hs (by simp [h.1])
    rw [List.cons_append, rescanGap, if_neg hx, ih fun m => hs (List.mem_cons_of_mem _ m)]

end Sys2Proof.Machine
end

