-- ==== Sys2Proof/WellFormed.lean ====
section
/-! DEFINITION. The well-formed commands: operands that the link or the part a command stands for can give.
`exec` gives every command a meaning, the ill-formed ones too; the checks say which commands can occur. -/

namespace Sys2Proof

/-- The operands of the command can occur (11 R199, R202, R203; 07 R140; 10 R185). -/
def WellFormed (i : Instr) : Bool :=
  match i with
  | .receiveFrame bytes oddBits => !bytes.isEmpty || decide (oddBits.val ≠ 0)
  | .fieldRecordFail received gap =>
    if gap then !received.isEmpty && Machine.unfinishedRecord received.dropLast else Machine.framingFails received
  | .sampleHoldExpiry _ => true
  | .shelveExpiry id => decide (16 ≤ id.val ∧ id.val ≠ 108 ∧ (id.val < 56 ∨ 60 ≤ id.val))
  | .transactionEnd words _ => decide (words.length ≤ 65536)
  | .loadConfig words => decide (words.length = 156)
  | _ => true

end Sys2Proof
end

