-- ==== Sys2Proof/Laws/PerInstr.lean ====
section
/-! SUPPORT. Facts made per command. The family `RequestArgs` says of every command that stands for a request of
the host that a well-formed one carries as many argument words as 11 R203 gives its code. -/

namespace Sys2Proof.Laws

open Sys2Proof.Machine

/-- The request code and the argument words of a command that is a request of the host (11 R203). -/
def requestOf (i : Instr) : Option (Nat × List Word) :=
  match i with
  | .powerOnReset => none
  | .resetNAssertion => none
  | .stationReset => some (21, [])
  | .deferralExpiry => none
  | .lineYield => none
  | .collision => none
  | .transmitCompletion => none
  | .receiveFrame _ _ => none
  | .lineDegradedExpiry => none
  | .duplicateStationExpiry => none
  | .lineIsolationTimeout => none
  | .periodicSnapOffer => none
  | .changeSnapOffer => none
  | .snapTaken => none
  | .staleTimeout _ => none
  | .expiredTimeout _ => none
  | .absentPeerTimeout _ => none
  | .listenEnd => none
  | .fieldRecordFail _ _ => none
  | .sampleRecord _ _ _ _ _ => none
  | .sampleHoldExpiry _ => none
  | .fieldPortSilent => none
  | .commandSend => none
  | .actuatorReply _ _ _ => none
  | .replyWindowExpiry _ => none
  | .actuatorSlowExpiry _ => none
  | .rampStep _ => none
  | .unlockedClockExpiry _ => none
  | .acquiringClockExpiry _ => none
  | .channelStart a => some (4, [a])
  | .channelStop a => some (5, [a])
  | .resetTrip a => some (6, [a])
  | .releaseLockout a => some (7, [a])
  | .fanStartClockExpiry _ => none
  | .fanLowFlowExpiry _ => none
  | .zonePurge a => some (8, [a])
  | .purgeTimerExpiry _ => none
  | .readyWindowExpiry _ => none
  | .provingWindowExpiry _ => none
  | .flameFailureExpiry _ => none
  | .flickerExpiry _ => none
  | .airFailureExpiry _ => none
  | .esdAssertion => none
  | .esdRelease => none
  | .zoneTrip a => some (10, [a])
  | .zoneReset a => some (9, [a])
  | .tripTaken => none
  | .tripHoldExpiry _ => none
  | .setDemand a b => some (3, [a, b])
  | .demandTaken => none
  | .demandSlewStep _ => none
  | .passPeriod _ => none
  | .passCompletion _ => none
  | .demandUnreachableExpiry _ => none
  | .blowThroughExpiry _ => none
  | .clinkerTempHighExpiry => none
  | .ackAlarm a b c => some (11, [a, b, c])
  | .ackTaken => none
  | .shelve a b => some (12, [a, b])
  | .unshelve a => some (13, [a])
  | .shelveExpiry _ => none
  | .alertTaken => none
  | .timeBaseTick => none
  | .shiftBoundary => none
  | .crystalCheckPass => none
  | .crystalCheckFail => none
  | .runningSecond _ => none
  | .setTime a b c => some (14, [a, b, c])
  | .shiftTaken => none
  | .transactionStart => none
  | .answerDelivered => none
  | .transactionEnd _ _ => none
  | .loadConfig ws => some (1, ws)
  | .readConfig => some (2, [])
  | .readStatus => some (15, [])
  | .readChannel a => some (16, [a])
  | .readZone a => some (17, [a])
  | .readPeer a => some (18, [a])
  | .readRun a b c d => some (19, [a, b, c, d])
  | .readLineStats => some (20, [])
  | .resetNRelease => none

/-- A well-formed request carries the argument words that its code takes. -/
def RequestArgs.Statement (i : Instr) : Prop :=
  WellFormed i = true → ∀ code args, requestOf i = some (code, args) → requestArgs code = some args.length

theorem RequestArgs.powerOnReset :
     RequestArgs.Statement (.powerOnReset) := by
  intro _ _ _ e
  cases e
theorem RequestArgs.resetNAssertion :
     RequestArgs.Statement (.resetNAssertion) := by
  intro _ _ _ e
  cases e
theorem RequestArgs.stationReset :
     RequestArgs.Statement (.stationReset) := by
  intro _ _ _ e
  cases e
  rfl
theorem RequestArgs.deferralExpiry :
     RequestArgs.Statement (.deferralExpiry) := by
  intro _ _ _ e
  cases e
theorem RequestArgs.lineYield :
     RequestArgs.Statement (.lineYield) := by
  intro _ _ _ e
  cases e
theorem RequestArgs.collision :
     RequestArgs.Statement (.collision) := by
  intro _ _ _ e
  cases e
theorem RequestArgs.transmitCompletion :
     RequestArgs.Statement (.transmitCompletion) := by
  intro _ _ _ e
  cases e
theorem RequestArgs.receiveFrame (bytes : List Byte) (oddBits : Fin 8) :
     RequestArgs.Statement (.receiveFrame bytes oddBits) := by
  intro _ _ _ e
  cases e
theorem RequestArgs.lineDegradedExpiry :
     RequestArgs.Statement (.lineDegradedExpiry) := by
  intro _ _ _ e
  cases e
theorem RequestArgs.duplicateStationExpiry :
     RequestArgs.Statement (.duplicateStationExpiry) := by
  intro _ _ _ e
  cases e
theorem RequestArgs.lineIsolationTimeout :
     RequestArgs.Statement (.lineIsolationTimeout) := by
  intro _ _ _ e
  cases e
theorem RequestArgs.periodicSnapOffer :
     RequestArgs.Statement (.periodicSnapOffer) := by
  intro _ _ _ e
  cases e
theorem RequestArgs.changeSnapOffer :
     RequestArgs.Statement (.changeSnapOffer) := by
  intro _ _ _ e
  cases e
theorem RequestArgs.snapTaken :
     RequestArgs.Statement (.snapTaken) := by
  intro _ _ _ e
  cases e
theorem RequestArgs.staleTimeout (n : Station) :
     RequestArgs.Statement (.staleTimeout n) := by
  intro _ _ _ e
  cases e
theorem RequestArgs.expiredTimeout (n : Station) :
     RequestArgs.Statement (.expiredTimeout n) := by
  intro _ _ _ e
  cases e
theorem RequestArgs.absentPeerTimeout (n : Station) :
     RequestArgs.Statement (.absentPeerTimeout n) := by
  intro _ _ _ e
  cases e
theorem RequestArgs.listenEnd :
     RequestArgs.Statement (.listenEnd) := by
  intro _ _ _ e
  cases e
theorem RequestArgs.fieldRecordFail (received : List Byte) (gap : Bool) :
     RequestArgs.Statement (.fieldRecordFail received gap) := by
  intro _ _ _ e
  cases e
theorem RequestArgs.sampleRecord (source : Byte) (quantity : Byte) (value : Word) (quality : Byte) (elapsed : Word) :
     RequestArgs.Statement (.sampleRecord source quantity value quality elapsed) := by
  intro _ _ _ e
  cases e
theorem RequestArgs.sampleHoldExpiry (p : PointId) :
     RequestArgs.Statement (.sampleHoldExpiry p) := by
  intro _ _ _ e
  cases e
theorem RequestArgs.fieldPortSilent :
     RequestArgs.Statement (.fieldPortSilent) := by
  intro _ _ _ e
  cases e
theorem RequestArgs.commandSend :
     RequestArgs.Statement (.commandSend) := by
  intro _ _ _ e
  cases e
theorem RequestArgs.actuatorReply (channel : Byte) (tag : Byte) (code : Byte) :
     RequestArgs.Statement (.actuatorReply channel tag code) := by
  intro _ _ _ e
  cases e
theorem RequestArgs.replyWindowExpiry (c : Chan) :
     RequestArgs.Statement (.replyWindowExpiry c) := by
  intro _ _ _ e
  cases e
theorem RequestArgs.actuatorSlowExpiry (c : Chan) :
     RequestArgs.Statement (.actuatorSlowExpiry c) := by
  intro _ _ _ e
  cases e
theorem RequestArgs.rampStep (c : Chan) :
     RequestArgs.Statement (.rampStep c) := by
  intro _ _ _ e
  cases e
theorem RequestArgs.unlockedClockExpiry (c : Chan) :
     RequestArgs.Statement (.unlockedClockExpiry c) := by
  intro _ _ _ e
  cases e
theorem RequestArgs.acquiringClockExpiry (c : Chan) :
     RequestArgs.Statement (.acquiringClockExpiry c) := by
  intro _ _ _ e
  cases e
theorem RequestArgs.channelStart (channel : Word) :
     RequestArgs.Statement (.channelStart channel) := by
  intro _ _ _ e
  cases e
  rfl
theorem RequestArgs.channelStop (channel : Word) :
     RequestArgs.Statement (.channelStop channel) := by
  intro _ _ _ e
  cases e
  rfl
theorem RequestArgs.resetTrip (channel : Word) :
     RequestArgs.Statement (.resetTrip channel) := by
  intro _ _ _ e
  cases e
  rfl
theorem RequestArgs.releaseLockout (channel : Word) :
     RequestArgs.Statement (.releaseLockout channel) := by
  intro _ _ _ e
  cases e
  rfl
theorem RequestArgs.fanStartClockExpiry (c : Chan) :
     RequestArgs.Statement (.fanStartClockExpiry c) := by
  intro _ _ _ e
  cases e
theorem RequestArgs.fanLowFlowExpiry (c : Chan) :
     RequestArgs.Statement (.fanLowFlowExpiry c) := by
  intro _ _ _ e
  cases e
theorem RequestArgs.zonePurge (zone : Word) :
     RequestArgs.Statement (.zonePurge zone) := by
  intro _ _ _ e
  cases e
  rfl
theorem RequestArgs.purgeTimerExpiry (z : Zone) :
     RequestArgs.Statement (.purgeTimerExpiry z) := by
  intro _ _ _ e
  cases e
theorem RequestArgs.readyWindowExpiry (z : Zone) :
     RequestArgs.Statement (.readyWindowExpiry z) := by
  intro _ _ _ e
  cases e
theorem RequestArgs.provingWindowExpiry (c : Chan) :
     RequestArgs.Statement (.provingWindowExpiry c) := by
  intro _ _ _ e
  cases e
theorem RequestArgs.flameFailureExpiry (z : Zone) :
     RequestArgs.Statement (.flameFailureExpiry z) := by
  intro _ _ _ e
  cases e
theorem RequestArgs.flickerExpiry (z : Zone) :
     RequestArgs.Statement (.flickerExpiry z) := by
  intro _ _ _ e
  cases e
theorem RequestArgs.airFailureExpiry (z : Zone) :
     RequestArgs.Statement (.airFailureExpiry z) := by
  intro _ _ _ e
  cases e
theorem RequestArgs.esdAssertion :
     RequestArgs.Statement (.esdAssertion) := by
  intro _ _ _ e
  cases e
theorem RequestArgs.esdRelease :
     RequestArgs.Statement (.esdRelease) := by
  intro _ _ _ e
  cases e
theorem RequestArgs.zoneTrip (zone : Word) :
     RequestArgs.Statement (.zoneTrip zone) := by
  intro _ _ _ e
  cases e
  rfl
theorem RequestArgs.zoneReset (zone : Word) :
     RequestArgs.Statement (.zoneReset zone) := by
  intro _ _ _ e
  cases e
  rfl
theorem RequestArgs.tripTaken :
     RequestArgs.Statement (.tripTaken) := by
  intro _ _ _ e
  cases e
theorem RequestArgs.tripHoldExpiry (z : Zone) :
     RequestArgs.Statement (.tripHoldExpiry z) := by
  intro _ _ _ e
  cases e
theorem RequestArgs.setDemand (zone : Word) (target : Word) :
     RequestArgs.Statement (.setDemand zone target) := by
  intro _ _ _ e
  cases e
  rfl
theorem RequestArgs.demandTaken :
     RequestArgs.Statement (.demandTaken) := by
  intro _ _ _ e
  cases e
theorem RequestArgs.demandSlewStep (z : Zone) :
     RequestArgs.Statement (.demandSlewStep z) := by
  intro _ _ _ e
  cases e
theorem RequestArgs.passPeriod (z : Zone) :
     RequestArgs.Statement (.passPeriod z) := by
  intro _ _ _ e
  cases e
theorem RequestArgs.passCompletion (z : Zone) :
     RequestArgs.Statement (.passCompletion z) := by
  intro _ _ _ e
  cases e
theorem RequestArgs.demandUnreachableExpiry (z : Zone) :
     RequestArgs.Statement (.demandUnreachableExpiry z) := by
  intro _ _ _ e
  cases e
theorem RequestArgs.blowThroughExpiry (c : Chan) :
     RequestArgs.Statement (.blowThroughExpiry c) := by
  intro _ _ _ e
  cases e
theorem RequestArgs.clinkerTempHighExpiry :
     RequestArgs.Statement (.clinkerTempHighExpiry) := by
  intro _ _ _ e
  cases e
theorem RequestArgs.ackAlarm (origin : Word) (id : Word) (seq : Word) :
     RequestArgs.Statement (.ackAlarm origin id seq) := by
  intro _ _ _ e
  cases e
  rfl
theorem RequestArgs.ackTaken :
     RequestArgs.Statement (.ackTaken) := by
  intro _ _ _ e
  cases e
theorem RequestArgs.shelve (id : Word) (minutes : Word) :
     RequestArgs.Statement (.shelve id minutes) := by
  intro _ _ _ e
  cases e
  rfl
theorem RequestArgs.unshelve (id : Word) :
     RequestArgs.Statement (.unshelve id) := by
  intro _ _ _ e
  cases e
  rfl
theorem RequestArgs.shelveExpiry (id : AlarmId) :
     RequestArgs.Statement (.shelveExpiry id) := by
  intro _ _ _ e
  cases e
theorem RequestArgs.alertTaken :
     RequestArgs.Statement (.alertTaken) := by
  intro _ _ _ e
  cases e
theorem RequestArgs.timeBaseTick :
     RequestArgs.Statement (.timeBaseTick) := by
  intro _ _ _ e
  cases e
theorem RequestArgs.shiftBoundary :
     RequestArgs.Statement (.shiftBoundary) := by
  intro _ _ _ e
  cases e
theorem RequestArgs.crystalCheckPass :
     RequestArgs.Statement (.crystalCheckPass) := by
  intro _ _ _ e
  cases e
theorem RequestArgs.crystalCheckFail :
     RequestArgs.Statement (.crystalCheckFail) := by
  intro _ _ _ e
  cases e
theorem RequestArgs.runningSecond (c : Chan) :
     RequestArgs.Statement (.runningSecond c) := by
  intro _ _ _ e
  cases e
theorem RequestArgs.setTime (day : Word) (secHigh : Word) (secLow : Word) :
     RequestArgs.Statement (.setTime day secHigh secLow) := by
  intro _ _ _ e
  cases e
  rfl
theorem RequestArgs.shiftTaken :
     RequestArgs.Statement (.shiftTaken) := by
  intro _ _ _ e
  cases e
theorem RequestArgs.transactionStart :
     RequestArgs.Statement (.transactionStart) := by
  intro _ _ _ e
  cases e
theorem RequestArgs.answerDelivered :
     RequestArgs.Statement (.answerDelivered) := by
  intro _ _ _ e
  cases e
theorem RequestArgs.transactionEnd (words : List Word) (cut : Bool) :
     RequestArgs.Statement (.transactionEnd words cut) := by
  intro _ _ _ e
  cases e
theorem RequestArgs.loadConfig (words : List Word) :
     RequestArgs.Statement (.loadConfig words) := by
  intro h code args e
  cases e
  simp only [WellFormed, decide_eq_true_eq] at h
  simp [requestArgs, h]
theorem RequestArgs.readConfig :
     RequestArgs.Statement (.readConfig) := by
  intro _ _ _ e
  cases e
  rfl
theorem RequestArgs.readStatus :
     RequestArgs.Statement (.readStatus) := by
  intro _ _ _ e
  cases e
  rfl
theorem RequestArgs.readChannel (channel : Word) :
     RequestArgs.Statement (.readChannel channel) := by
  intro _ _ _ e
  cases e
  rfl
theorem RequestArgs.readZone (zone : Word) :
     RequestArgs.Statement (.readZone zone) := by
  intro _ _ _ e
  cases e
  rfl
theorem RequestArgs.readPeer (station : Word) :
     RequestArgs.Statement (.readPeer station) := by
  intro _ _ _ e
  cases e
  rfl
theorem RequestArgs.readRun (collection : Word) (slot : Word) (start : Word) (count : Word) :
     RequestArgs.Statement (.readRun collection slot start count) := by
  intro _ _ _ e
  cases e
  rfl
theorem RequestArgs.readLineStats :
     RequestArgs.Statement (.readLineStats) := by
  intro _ _ _ e
  cases e
  rfl
theorem RequestArgs.resetNRelease :
     RequestArgs.Statement (.resetNRelease) := by
  intro _ _ _ e
  cases e

end Sys2Proof.Laws
end

