-- ==== Sys2Proof/Laws/ZoneMoves.lean ====
section
/-! SUPPORT. The shared operations of ZS, and what follows every event, as sequences of elementary changes; all
of them keep the still part. -/

namespace Sys2Proof.Machine

variable {e : Bool} (s : State)

/-! ### What the parts are read from -/

theorem State.zone_of_plant {s t : State} (h : t.plant = s.plant) (z : Zone) : t.zone z = s.zone z := by
  have h' : t.plant.zs = s.plant.zs := by rw [h]
  unfold State.zone
  rw [show t.zs = s.zs from h']

theorem State.decides_of_still {s t : State} (h : t.still = s.still) : t.decides = s.decides := by
  change t.still.decides = s.still.decides; rw [h]

theorem State.participates_of_still {s t : State} (h : t.still = s.still) (z : Zone) :
    t.participates z = s.participates z := by
  change t.still.participates z = s.still.participates z; rw [h]

theorem State.esd_of_still {s t : State} (h : t.still = s.still) : t.esd = s.esd := by
  change t.still.esd = s.still.esd; rw [h]

theorem State.fuel?_of_still {s t : State} (h : t.still = s.still) (c : Chan) : t.fuel? c = s.fuel? c := by
  change t.still.fuel? c = s.still.fuel? c; rw [h]

theorem State.config_of_still {s t : State} (h : t.still = s.still) : t.config = s.config := by
  change t.still.config = s.still.config; rw [h]

theorem State.peer_of_still {s t : State} (h : t.still = s.still) (n : Station) : t.peer n = s.peer n := by
  change t.still.peer n = s.still.peer n; rw [h]

theorem State.now_of_still {s t : State} (h : t.still = s.still) : t.now = s.now := by
  change t.still.now = s.still.now; rw [h]

/-! ### A zone's state -/

/-- Without a change of zone state among them, the elementary changes keep every zone's state. -/
theorem Move.state_false {s t : State} (h : Move false s t) (z : Zone) : (t.zone z).state = (s.zone z).state := by
  cases h with
  | notify => exact congrArg _ (State.zone_of_plant (s := s) (by simp) z)
  | offer _ _ _ _ h => exact congrArg _ (State.zone_of_plant (s.offer_plant h _ _ _) z)
  | announce => exact congrArg _ (State.zone_of_plant (s := s) (by simp) z)
  | cond => exact congrArg _ (State.zone_of_plant (s := s) (by simp) z)
  | zone i f h =>
    by_cases hi : i = z
    · subst hi; simpa using h
    · rw [State.mapZone_zone_other _ _ hi]
  | enter _ _ he _ => cases he
  | _ => rfl

theorem Moves.state_false {s t : State} (m : Moves false s t) (z : Zone) : (t.zone z).state = (s.zone z).state :=
  Moves.keep (fun x => (x.zone z).state = (s.zone z).state) (fun _ _ h p => (h.state_false z).trans p) m rfl

theorem State.closeFuel_moves (z : Zone) : Moves e s (s.closeFuel z) := Moves.foldl _ State.loseZone_moves _ _

theorem State.setZone_same (z : Zone) (st : ZoneState) (h : (s.zone z).state = st) : s.setZone z st = s := by
  unfold State.setZone; dsimp only; rw [if_pos h]

/-- A change of a zone's state writes that zone's record and then makes elementary changes, none of another
zone's state. -/
theorem State.setZone_moves (z : Zone) (st : ZoneState) (h : (s.zone z).state ≠ st) :
    ∃ f : ZoneRec → ZoneRec, (∀ x, (f x).state = st) ∧ Moves false (s.mapZone z f) (s.setZone z st) := by
  refine ⟨fun r => r.enter st s.now (s.zoneParam z ZoneCfg.readyWindow) (s.zoneParam z ZoneCfg.tripHold)
    (s.firing z).air.airShort, fun _ => rfl, ?_⟩
  unfold State.setZone
  dsimp only
  rw [if_neg h]
  have h1 := Moves.notify (e := false) Notice.zoneState (Moves.refl' (s.mapZone z fun r => r.enter st s.now
    (s.zoneParam z ZoneCfg.readyWindow) (s.zoneParam z ZoneCfg.tripHold) (s.firing z).air.airShort))
  have h2 : ∀ {t u : State} (p : Prop) [Decidable p], Moves false t u →
      Moves false t (if p then u.firingLeavesLit z else u) := by
    intro t u p _ m
    split
    · exact m.andThen (State.firingLeavesLit_moves _ z)
    · exact m
  have h3 : ∀ {t u : State} (p : Prop) [Decidable p], Moves false t u →
      Moves false t (if p then (u.setCond (idPurgeAborted z) false none).firingEntersLit z else u) := by
    intro t u p _ m
    split
    · exact (m.cond _ _ _).andThen (State.firingEntersLit_moves _ z)
    · exact m
  split
  · exact (h3 _ (h2 _ h1)).cond _ _ _
  · exact ((h3 _ (h2 _ h1)).cond _ _ _).andThen (State.closeFuel_moves _ z)

@[simp] theorem State.setZone_still (z : Zone) (st : ZoneState) : (s.setZone z st).still = s.still := by
  by_cases h : (s.zone z).state = st
  · rw [s.setZone_same z st h]
  · obtain ⟨f, _, m⟩ := s.setZone_moves z st h
    exact m.still_false.trans rfl

/-- The zone is then in that state, and every other zone keeps its own. -/
theorem State.setZone_state (z : Zone) (st : ZoneState) (y : Zone) :
    ((s.setZone z st).zone y).state = if y = z then st else (s.zone y).state := by
  by_cases h : (s.zone z).state = st
  · rw [s.setZone_same z st h]
    split
    · subst y; exact h
    · rfl
  · obtain ⟨f, hf, m⟩ := s.setZone_moves z st h
    rw [m.state_false]
    split
    · subst y; simp [hf]
    · rw [State.mapZone_zone_other _ _ (Ne.symm ‹_›)]

/-- The elementary changes keep the still part. -/
theorem Move.still {s t : State} (h : Move e s t) : t.still = s.still := by
  by_cases he : ∃ z st, t = s.setZone z st
  · obtain ⟨z, st, rfl⟩ := he; simp
  · refine Move.still_false ?_
    cases h with
    | enter z st => exact absurd ⟨z, st, rfl⟩ he
    | notify => exact .notify ..
    | offer _ _ _ _ h => exact .offer _ _ _ _ _ h
    | announce => exact .announce ..
    | cond => exact .cond ..
    | snapTable => exact .snapTable ..
    | port => exact .port ..
    | chan _ _ h hs => exact .chan _ _ _ h hs
    | release _ _ _ h hf hz => exact .release _ _ _ _ h hf hz
    | acct _ _ h => exact .acct _ _ _ h
    | zone _ _ h => exact .zone _ _ _ h
    | firing => exact .firing ..
    | cooler => exact .cooler ..
    | demandMark => exact .demandMark ..
    | ringMark => exact .ringMark ..

theorem Moves.still {s t : State} (m : Moves e s t) : t.still = s.still :=
  Moves.keep (fun x => x.still = s.still) (fun _ _ h p => h.still.trans p) m rfl

theorem Moves.enter {s t : State} (z : Zone) (st : ZoneState) (m : Moves true s t)
    (h : st = .dark ∨ (t.zone z).state.trippable = true ∨
      (t.decides = true ∧ t.participates z = true ∧ (st = .tripped ∨ t.esd = false))) :
    Moves true s (t.setZone z st) := m.tail (.enter _ _ _ rfl h)

/-! ### Light-off and flame -/

theorem State.passProof_moves (z : Zone) (c : Chan) (f : FuelCfg) : Moves true s (s.passProof z c f) := by
  unfold State.passProof
  split
  · exact .refl
  · dsimp only
    split
    · have h := (s.enterRunning_moves (e := true) c f).issue c (.igniter false)
      split
      · rename_i hr
        exact h.enter _ _ (.inr (.inl (by rw [hr]; rfl)))
      · exact h
    · exact s.enterRunning_moves c f

theorem State.releaseShut_moves (c : Chan) (f : FuelCfg) (hf : s.fuel? c = some f)
    (hz : (s.zone f.zone).state.firesFuel = true) : Moves e s (s.releaseShut c f) :=
  (Move.one (.release s c _ f rfl hf hz)).issue c _

theorem State.startProof_moves (c : Chan) (f : FuelCfg) (hf : s.fuel? c = some f)
    (hz : (s.zone f.zone).state.firesFuel = true) : Moves e s (s.startProof c f) := by
  unfold State.startProof
  dsimp only
  have h : ∀ e, Moves e s ((s.mapChan c fun ch => { ch with
      setpoint := f.fmin
      target := f.fmin
      alloc := ch.hmin
      proof := some ⟨(s.zone f.zone).state == .ready, false, false, s.now + seconds f.proving⟩ }).setChState c .proving) :=
    fun e => (s.chan_moves c _ (by intro _; rfl) (by intro _ h; exact h)).andThen (State.setChState_moves _ c _)
  repeat' split
  · exact (h e).andThen (State.tripChannel_moves _ c _)
  · exact (h e).issue c _
  · exact (h e).andThen (State.tripChannel_moves _ c _)
  · refine (h e).andThen (State.releaseShut_moves _ c f ?_ ?_)
    · rw [State.fuel?_of_still (h e).still, hf]
    · rw [(h false).state_false, hz]

theorem State.igniterDone_moves (c : Chan) : Moves true s (s.igniterDone c) := by
  unfold State.igniterDone
  split
  · rename_i f p hf hp
    dsimp only
    split
    · rename_i hc
      have h := s.releaseShut_moves (e := true) c f hf hc.2.2
      split
      · exact h.andThen (State.passProof_moves _ _ c f)
      · exact h
    · exact .refl
  · exact .refl

theorem State.feedProof_moves (c : Chan) (f : FuelCfg) (v : Nat) : Moves true s (s.feedProof c f v) := by
  unfold State.feedProof
  split
  · split
    · exact s.passProof_moves _ c f
    · exact .refl
  · exact .refl

theorem State.flicker_moves (z : Zone) : Moves e s (s.flicker z) := (Moves.zone z _ .refl rfl).cond _ _ _

theorem State.judgeReady_moves (z : Zone) : Moves true s (s.judgeReady z) := by
  unfold State.judgeReady
  split
  · rename_i h
    exact Moves.enter z _ .refl (.inr (.inl (by rw [h.1]; rfl)))
  · exact .refl

theorem State.adoptLit_moves (z : Zone) (hd : s.decides = true) (hp : s.participates z = true) :
    Moves true s (s.adoptLit z) := by
  unfold State.adoptLit
  split
  · rename_i h
    exact Moves.enter z _ .refl (.inr (.inr ⟨hd, hp, .inr (by simpa using h.2.2.2)⟩))
  · exact .refl

theorem State.passReleased_moves (z : Zone) : Moves true s (s.passReleased z) := by
  refine Moves.foldl _ (fun s c => ?_) _ _
  repeat' split
  · exact s.passProof_moves z c _
  · exact .refl
  · exact .refl

theorem State.flameGain_moves (z : Zone) (hd : s.decides = true) (hp : s.participates z = true) :
    Moves true s (s.flameGain z) := by
  have key : ∀ {t : State}, Moves true s t → Moves true s (((t.passReleased z).judgeReady z).adoptLit z) := by
    intro t m
    have m' := (m.andThen (State.passReleased_moves t z)).andThen (State.judgeReady_moves _ z)
    exact m'.andThen (State.adoptLit_moves _ z ((State.decides_of_still m'.still).trans hd)
      ((State.participates_of_still m'.still z).trans hp))
  unfold State.flameGain
  dsimp only
  split
  · split
    · exact key ((Moves.zone z _ .refl rfl).andThen (State.flicker_moves _ z))
    · exact key (Moves.zone z _ .refl rfl)
  · exact key .refl

theorem State.flameLoss_moves (z : Zone) : Moves true s (s.flameLoss z) := by
  unfold State.flameLoss
  repeat' split
  · exact Moves.enter z _ .refl (.inl rfl)
  · exact Moves.zone z _ .refl rfl
  · exact .refl

theorem State.judgeView_moves (z : Zone) : Moves true s (s.judgeView z) := by
  unfold State.judgeView
  dsimp only
  split
  · rename_i h
    simp only [Bool.and_eq_true] at h
    have m : Moves true s (s.mapZone z fun r => { r with view := s.flameView z }) := Moves.zone z _ .refl rfl
    repeat' split
    · exact m
    · rename_i hd _
      exact m.andThen (State.flameGain_moves _ z (by simpa using hd : s.decides = true) h.1)
    · exact m.andThen (State.flameLoss_moves _ z)
  · exact .refl

theorem State.judgeTests_moves (z : Zone) : Moves true s (s.judgeTests z) := by
  unfold State.judgeTests
  repeat' split
  · exact Moves.enter z _ .refl (.inl rfl)
  · exact .refl
  · exact .refl
  · exact (Moves.enter z _ .refl (.inl rfl)).cond _ _ _
  all_goals exact .refl

/-! ### Trips -/

theorem State.tripSteps_moves (z : Zone) (x : CauseEntry) : Moves e s (s.tripSteps z x) := by
  unfold State.tripSteps
  dsimp only
  exact ((Moves.zone z _ .refl rfl).andThen (Moves.foldl _ (fun s c => s.tripChannel_moves c _) _ _)).zone z _ rfl

theorem State.peerTrip_moves (z : Zone) (x : CauseEntry)
    (h : (s.zone z).state.trippable = true ∨ (s.decides = true ∧ s.participates z = true)) :
    Moves true s (s.peerTrip z x) := by
  have m : ∀ e, Moves e s (s.tripSteps z x) := fun e => s.tripSteps_moves z x
  refine (m true).enter z _ ?_
  rcases h with h | ⟨hd, hp⟩
  · exact .inr (.inl (by rw [(m false).state_false, h]))
  · exact .inr (.inr ⟨(State.decides_of_still (m true).still).trans hd,
      (State.participates_of_still (m true).still z).trans hp, .inl rfl⟩)

/-- An offer of a TRIP keeps every zone's record, and all that `still` holds but for the discard that an
eviction by case 3 of 01 R12 makes. -/
theorem State.offerTrip_plant (m : TripMsg) :
    ∃ d ts l, (s.offerTrip m).plant
      = { s.plant with li := { s.plant.li with discards := d, discardTimes := ts, lastDegrading := l } } := by
  have h : ∃ d ts l, (s.offer .trip m.words 0 0).1.plant
      = { s.plant with li := { s.plant.li with discards := d, discardTimes := ts, lastDegrading := l } } := by
    unfold State.offer
    dsimp only
    repeat' split
    case h_1 =>
      simp only [State.enqueueNew_plant]
      unfold State.evictAt
      repeat' split
      · exact ⟨_, _, _, rfl⟩
      · simp only [State.loseFrame_plant]
        exact ⟨s.li.discards, s.li.discardTimes, s.li.lastDegrading, rfl⟩
      · exact ⟨s.li.discards, s.li.discardTimes, s.li.lastDegrading, rfl⟩
    all_goals exact ⟨s.li.discards, s.li.discardTimes, s.li.lastDegrading, rfl⟩
  obtain ⟨d, ts, l, h⟩ := h
  refine ⟨d, ts, l, ?_⟩
  unfold State.offerTrip
  dsimp only
  split
  · rw [State.setCond_plant, h]
  · exact h

theorem State.takeEpoch_moves (z : Zone) (x : CauseEntry) : Moves true s (s.takeEpoch z x) := by
  unfold State.takeEpoch
  dsimp only
  split
  · split
    · rename_i h; exact s.peerTrip_moves z x (.inl (by rw [h]; rfl))
    · rename_i h; exact s.peerTrip_moves z x (.inl (by rw [h]; rfl))
    · rename_i h; exact s.peerTrip_moves z x (.inl (by rw [h]; rfl))
    · exact Moves.zone z _ .refl rfl
    · exact Moves.zone z _ .refl rfl
  · exact .refl

theorem State.judgeHold_moves (z : Zone) : Moves true s (s.judgeHold z) := by
  unfold State.judgeHold
  split
  · exact Moves.enter z _ .refl (.inl rfl)
  · exact .refl

theorem State.examineEpoch_moves (n : Station) (b : ZoneBlock) : Moves true s (s.examineEpoch n b) := by
  unfold State.examineEpoch
  repeat' split
  · exact .refl
  · exact Moves.zone _ _ .refl rfl
  · exact s.takeEpoch_moves _ _

theorem State.adoptReady_moves (b : ZoneBlock) (hd : s.decides = true) (hp : s.participates b.zone = true) :
    Moves true s (s.adoptReady b) := by
  unfold State.adoptReady
  split
  · rename_i h
    exact Moves.enter _ _ .refl (.inr (.inr ⟨hd, hp, .inr (by simpa using h.2.1)⟩))
  · exact .refl

theorem State.takeBlock_moves (n : Station) (st : Bool) (b : ZoneBlock) : Moves true s (s.takeBlock n st b) := by
  unfold State.takeBlock
  split
  · rename_i h
    simp only [Bool.and_eq_true] at h
    have key : ∀ {t : State}, Moves true s t →
        Moves true s (if b.state = .lit then (((t.judgeView b.zone).judgeReady b.zone).adoptReady b).adoptLit b.zone
          else ((t.judgeView b.zone).judgeReady b.zone).adoptReady b) := by
      intro t m
      have m1 := (m.andThen (State.judgeView_moves t b.zone)).andThen (State.judgeReady_moves _ b.zone)
      have m2 := m1.andThen (State.adoptReady_moves _ b ((State.decides_of_still m1.still).trans h.1)
        ((State.participates_of_still m1.still _).trans h.2))
      split
      · exact m2.andThen (State.adoptLit_moves _ _ ((State.decides_of_still m2.still).trans h.1)
          ((State.participates_of_still m2.still _).trans h.2))
      · exact m2
    dsimp only
    by_cases hs : st = true
    · simp only [if_pos hs]; exact key .refl
    · simp only [if_neg hs]; exact key (s.examineEpoch_moves n b)
  · exact .refl

theorem State.settleZone_moves (z : Zone) (hd : s.decides = true) (hp : s.participates z = true) :
    Moves true s (s.settleZone z) := by
  unfold State.settleZone
  dsimp only
  have m : Moves true s (s.mapZone z fun r => { r with
      epoch := mergeEpochs (s.zone z).epoch (s.listenEpochs z), view := s.flameView z }) := Moves.zone z _ .refl rfl
  split
  · exact m.andThen (State.peerTrip_moves _ z _ (.inr ⟨hd, hp⟩))
  · repeat' split
    · exact m
    · rename_i he _
      exact m.enter z _ (.inr (.inr ⟨hd, hp, .inr (by simpa using he)⟩))
    · rename_i he _ _
      exact m.enter z _ (.inr (.inr ⟨hd, hp, .inr (by simpa using he)⟩))
    · exact m

/-! ### What follows an event -/

theorem State.offerSnap_moves : Moves e s s.offerSnap := by
  unfold State.offerSnap
  exact (Move.one (.snapTable s _ _ _ _)).tail (.offer _ _ _ _ _ (by decide))

theorem State.publish_moves : Moves e s s.publish := by
  unfold State.publish
  have m : Moves e s (s.mapPt fun t => { t with changeMark := true }) := Move.one (.snapTable s _ _ _ _)
  dsimp only
  repeat' split
  · exact m.andThen (State.offerSnap_moves _)
  · exact m
  · exact s.offerSnap_moves
  · exact .refl

theorem State.judgeLowFlow_moves (c : Chan) : Moves e s (s.judgeLowFlow c) := by
  unfold State.judgeLowFlow
  dsimp only
  repeat' split
  · exact .refl
  · exact s.chan_moves c _ (by intro _; rfl) (by intro _ h; exact h)
  · exact .refl
  · exact s.chan_moves c _ (by intro _; rfl) (by intro _ h; exact h)

theorem State.judgeFan_moves (c : Chan) : Moves e s (s.judgeFan c) :=
  (s.judgeLowFlow_moves c).andThen (State.judgeBlow_moves _ c)

theorem State.refreshFrom_moves (b : State) (z : Zone) : Moves e s (b.refreshFrom s z) := by
  unfold State.refreshFrom
  split
  · exact .refl
  · exact s.refreshSupply_moves z

theorem State.judgeZone_moves (b : State) (z : Zone) : Moves true s (b.judgeZone s z) := by
  unfold State.judgeZone
  dsimp only
  have m := s.judgeView_moves z
  split
  · exact m.andThen (State.judgeTests_moves _ z)
  · exact (m.andThen (State.judgeReady_moves _ z)).andThen (State.judgeTests_moves _ z)

theorem State.triggerFrom_moves (b : State) (z : Zone) : Moves e s (b.triggerFrom s z) := by
  unfold State.triggerFrom
  split
  · exact s.triggerPass_moves z
  · exact .refl

/-- What follows an event is a sequence of elementary changes. -/
theorem finish_moves (b : State) : Moves true s (finish b s) := by
  unfold finish
  split
  · exact (((((Moves.foldl _ (fun s z => s.refreshFrom_moves b z) _ _).andThen
      (Moves.foldl _ State.judgeFan_moves _ _)).andThen (Moves.foldl _ (fun s z => s.judgeZone_moves b z) _ _)).andThen
      (Moves.foldl _ (fun s z => s.triggerFrom_moves b z) _ _)).andThen (State.publish_moves _)).andThen
      State.pump_moves
  · exact .refl

/-- What follows an event leaves the still part as it was. -/
@[simp] theorem finish_still (b : State) : (finish b s).still = s.still := (finish_moves s b).still

theorem State.judgeContact_still_of_not (h : ¬ (s.pt.mode = .isolated ∧ s.isolation = false)) :
    s.judgeContact = s := by
  unfold State.judgeContact; rw [if_neg h]

end Sys2Proof.Machine
end

