-- ==== Sys2Proof/Tests/Slice0.lean ====
section
/-! SUPPORT. Tests on small states. A theorem `witness_<Name>` shows for each clause of the statement
`Obligations.<Name>` a state and operands that meet its hypotheses; a theorem `test_<what>` compares the model with
a value that the rules or a worked sequence of the spec give. -/

open Sys2Proof Sys2Proof.Machine

namespace Sys2Proof.Tests

/- One theorem at a time: the many small evaluations need no threads of their own. -/
set_option Elab.async false

/-! ### A small station -/

/-- The zone of the worked cases: lambda 1100, purge air 1500, D_nom 12500. -/
def zoneCfg : ZoneCfg := ⟨1100, 1500, 120, 300, 2000, 15000, 12500, 20, 30⟩

/-- A coal channel of NCV 26000 with an igniter, in zone 0. -/
def coal : FuelCfg := ⟨0, 0, false, true, 26000, 1050, 415, 2077, 100, 10, 600⟩

/-- The cooler fan of the worked computation of 06, serving zone 0. -/
def coolFan : FanCfg := ⟨0, .cooler, 0, 4000, 1200, 6000, 650, 5000, 3000, 30, 10, 400, 50⟩

/-- Station 2, expecting station 1: channel 0 coal, 1 unusable, 2 a cooler fan, 3 a fixed fan, 4 a trim channel. -/
def cfg : Config where
  station := 1
  expected := 1
  b0 := 360
  b1 := 840
  b2 := 1320
  scanners := 1
  tLim := 110
  clinkerPresent := true
  zones := Vector.replicate 4 zoneCfg
  chans := #v[.fuel coal, .fuel { coal with ncv := 0 }, .fan coolFan, .fan { coolFan with role := .fixed },
    .fuel { coal with rank := 2, trim := true, igniter := false }, .unused, .unused, .unused]

/-- The station configured, in NORMAL, 400 s after power-on, with ESD_N released. -/
def base : State :=
  { State.reset with
    now := 100000000
    esd := false
    config := some cfg
    pt := { State.reset.pt with mode := .normal } }

/-- The station in STARTING. -/
def listening : State := { base with pt := { base.pt with mode := .starting } }

/-- The state with a request in work. -/
def ask (code : Nat) (args : List Word) (s : State) : State :=
  { s with sp := { s.sp with buffer := .inWork (b8 code) args } }

/-- The state with a receive queue of one frame. -/
def heard (f : RxFrame) (s : State) : State := { s with li := { s.li with rx := [f] } }

/-- The state with a transmit queue. -/
def queued (q : List TxFrame) (s : State) : State := { s with li := { s.li with tx := q } }

/-- A zone in a state. -/
def inZone (z : Zone) (st : ZoneState) (s : State) : State := s.mapZone z fun r => { r with state := st }

/-- A channel in a state. -/
def inChan (c : Chan) (st : ChState) (s : State) : State := s.mapChan c fun ch => { ch with state := st }

/-- A condition true, its record alone written. -/
def condTrue (id : AlarmId) (s : State) : State := s.mapAlarm id fun r => { r with cond := true }

/-- The state after a command. -/
def after (c : Instr) (s : State) : State :=
  match exec c s with
  | .next t => t
  | .fault _ => s
  | .refused _ => s

/-- A frame waiting for the line. -/
def waiting (cls : FrameClass) (p : List Word) (n : Nat) : TxFrame := ⟨cls, 0, p, 0, n, false, 0, 0⟩

/-- A frame in send. -/
def sending (cls : FrameClass) (p : List Word) (n : Nat) : TxFrame := ⟨cls, 0, p, 0, n, true, 0, 0⟩

/-- A present, good point. -/
def pointAt (v : Nat) : Point := ⟨.current, some v, none, 0⟩

/-! ### Ill-formed commands are refused by their checks -/

theorem test_wellformed_frame : WellFormed (.receiveFrame [] 0) = false ∧ WellFormed (.receiveFrame [] 3) = true := by
  decide
theorem test_wellformed_fail : WellFormed (.fieldRecordFail [1, 2, 3] false) = false
    ∧ WellFormed (.fieldRecordFail [] true) = false ∧ WellFormed (.fieldRecordFail [2, 2, 3] true) = false
    ∧ WellFormed (.fieldRecordFail [1, 2, 3] true) = true := by decide +kernel
theorem test_wellformed_shelve : WellFormed (.shelveExpiry 0) = false ∧ WellFormed (.shelveExpiry 108) = false
    ∧ WellFormed (.shelveExpiry 16) = true := by decide +kernel
theorem test_wellformed_end : WellFormed (.transactionEnd (List.replicate 65537 0) false) = false := by
  change decide ((List.replicate 65537 (0 : Word)).length ≤ 65536) = false
  rw [List.length_replicate]
  rfl
theorem test_wellformed_config : WellFormed (.loadConfig [1]) = false := by decide
/-- No row of the table gives bits, so no word spells a command. -/
theorem test_no_word_spells : decodeTableWord 0 0 = none ∧ decodeTableWord 16 65535 = none := ⟨rfl, rfl⟩

/-! ### The step and the resets -/

theorem witness_StepIdles : State.reset.pending = [] := rfl
theorem witness_ResetCommands : (after .resetNAssertion base).resetHeld = true
    ∧ (ask 21 [] base).serves 21 [] ∧ (ask 21 [] base).resetHeld = false := by
  unfold State.serves; decide +kernel
/-- No configuration, a time base kept. -/
def unset : State := { State.reset with sr := { State.reset.sr with day := 8000 } }
theorem witness_StationResetKeeps_unset : unset.config = none ∧ unset.resetHeld = false := by decide +kernel
theorem test_reset_unset : (after .resetNAssertion unset).sr.day = 8000
    ∧ (after .resetNAssertion unset).sp.notices = { Notices.none with configNeeded := true } := by decide +kernel
/-- A locked-out channel and an epoch before a station reset. -/
def scarred : State :=
  (inChan 0 .lockedOut base).mapZone 0 fun r => { r with epoch := some 31 }
theorem witness_StationResetKeeps : scarred.config = some cfg ∧ scarred.resetHeld = false
    ∧ (scarred.chan 0).state = .lockedOut ∧ scarred.fuel? 0 ≠ none ∧ (scarred.chan 4).state ≠ .lockedOut
    ∧ scarred.fuel? 4 ≠ none ∧ base.config = some cfg ∧ base.resetHeld = false
    ∧ (∀ c, (base.chan c).state ≠ .lockedOut) ∧ base.sr.clockLost = false := by decide +kernel
theorem test_reset_keeps_epoch : ((after .resetNAssertion scarred).zone 0).epoch = some 31 := by decide +kernel
theorem test_power_on_clears_epoch : ((after .powerOnReset scarred).zone 0).epoch = none := by decide +kernel

/-! ### The floor line -/

/-- Station 2 with a SNAP on a line quiet for `n` bit times: its deferral is 280 (01, first worked sequence). -/
def quietFor (n : Nat) : State :=
  { queued [waiting .snap [] 0] base with li := { (queued [waiting .snap [] 0] base).li with
    quietSince := some (100000000 - n) } }
theorem witness_LineWaits : (quietFor 280).config = some cfg ∧ (quietFor 280).pt.mode ≠ .unconfigured
    ∧ (quietFor 280).li.tx = [waiting .snap [] 0] ∧ (quietFor 280).li.tx.any TxFrame.inSend = false
    ∧ (quietFor 280).li.quietSince = some 99999720 := by decide +kernel
theorem test_deferral_snap_station_2 : (after .deferralExpiry (quietFor 280)).li.sending = true
    ∧ (after .deferralExpiry (quietFor 279)).li.sending = false := by decide +kernel
/-- 01, first worked sequence: an ALERT of station 7 waits 108 bit times. -/
theorem test_deferral_alert_station_7 : deferral (waiting .alert [] 0) 6 = 108 := by decide +kernel
/-- A frame in send between a waiting TRIP and another waiting frame. -/
def jammed (f g : TxFrame) : State := queued [waiting .trip [0, 1, 0] 0, f, g] base
/-- Three discards within the last 10 s, the first of them as long ago as counts. -/
def lossy (n : Nat) (s : State) : State :=
  { s with li := { s.li with discardTimes := [99999999, 99999998, 100000000 - n] } }
theorem witness_CollisionEndsSend :
    (jammed (sending .shift [] 6) (waiting .shift [1] 0)).li.tx
      = [waiting .trip [0, 1, 0] 0] ++ sending .shift [] 6 :: [waiting .shift [1] 0]
    ∧ (∀ g ∈ [waiting .trip [0, 1, 0] 0] ++ [waiting .shift [1] 0], g.inSend = false)
    ∧ 8 ≤ (sending .shift [] 7).collisions + 1 ∧ ¬ 8 ≤ (sending .shift [] 6).collisions + 1
    ∧ (jammed (sending .alert [0x1003] 7) (waiting .alert [0x1001] 0)).li.tx
      = [waiting .trip [0, 1, 0] 0] ++ sending .alert [0x1003] 7 :: [waiting .alert [0x1001] 0]
    ∧ matchesKey .alert [0x1003] (waiting .alert [0x1001] 0) = true
    ∧ matchesKey .alert [0x1003] (waiting .trip [0, 1, 0] 0) = false
    ∧ alarmIdOf (hiByte (([0x1003] : List Word).headD 0)).toNat = some 16
    ∧ zoneOf (hiByte (([0x0300] : List Word).headD 0)).toNat = some 3
    ∧ (lossy 2500000 (jammed (sending .shift [] 7) (waiting .shift [1] 0))).li.discardTimes[2]? = some 97500000
    ∧ (lossy 2500000 base).now ≤ 97500000 + 2500000 ∧ base.configured = true
    ∧ (sending .trip [0, 1, 0] 255).inSend = true := by decide +kernel
/-- 01 R11: the newer waiting ALERT of the id takes the count, the older frame leaves. -/
theorem test_newer_takes_count :
    (after .collision (jammed (sending .alert [0x1003] 2) (waiting .alert [0x1001] 0))).li.tx
      = [waiting .trip [0, 1, 0] 0, waiting .alert [0x1001] 3]
    ∧ (after .collision (queued [sending .shift [] 7] base)).li.discards = 1
    ∧ (after .collision (queued [sending .shift [] 6] base)).li.discards = 0 := by
  decide +kernel
theorem test_fourth_discard_degrades :
    (after .collision (lossy 2500000 (jammed (sending .shift [] 7) (waiting .shift [1] 0)))).cond idLineDegraded = true
    ∧ (after .collision (lossy 2500001 (jammed (sending .shift [] 7) (waiting .shift [1] 0)))).cond idLineDegraded
      = false
    ∧ (after .collision (queued [sending .trip [0, 1, 0] 7] base)).li.tx.any (fun f => f.cls == .trip && !f.inSend) = true
    ∧ (after .collision (queued [sending .trip [0, 1, 0] 7] base)).cond idLineDegraded = true := by
  decide +kernel
/-- ISOLATED for want of its own sends alone: a peer was heard just now. -/
def mute : State :=
  { queued [sending .snap [] 0] base with
    pt := { base.pt with mode := .isolated }
    li := { (queued [sending .snap [] 0] base).li with rxTime := 100000000 } }
/-- A TRIP and a SHIFT waiting about a SNAP in send, with one unannounced mark. -/
def sent : State := jammed (sending .snap [] 0) (waiting .shift [] 0)
def sentAlert : State := sent.mapAlarm 16 fun r => { r with announce := true }
def sentDemand (setter : Station) : State := sent.mapDemand 3 fun d => { d with
  known := some ⟨100, 1, setter⟩, unannounced := true }
def sentShift : State := { sent with sr := { sent.sr with ring := [⟨4, 7, .clock, false, false, false, Stamp.zero,
  Stamp.zero, [], 0, 0, 0, 0, none, none, true⟩] } }
theorem witness_CompletionLeavesQueue : mute.li.tx = [] ++ sending .snap [] 0 :: []
    ∧ mute.pt.mode = .isolated ∧ ¬ (mute.expectsPeers = true ∧ mute.li.rxTime + 750000 ≤ mute.now)
    ∧ sent.li.tx = [waiting .trip [0, 1, 0] 0] ++ sending .snap [] 0 :: [waiting .shift [] 0]
    ∧ (∀ g ∈ [waiting .trip [0, 1, 0] 0] ++ [waiting .shift [] 0], g.inSend = false)
    ∧ sent.pt.mode ≠ .isolated ∧ sent.pt.mode ≠ .unconfigured
    ∧ (∀ id, (sent.alarm id).announce = false) ∧ (∀ z, (sent.demand z).unannounced = false) ∧ sent.sr.ring = []
    ∧ (∀ i, (sentAlert.alarm i).announce = decide (i = 16))
    ∧ (∀ g ∈ [waiting .trip [0, 1, 0] 0] ++ [waiting .shift [] 0],
        matchesKey .alert (sentAlert.alertMsg 16).words g = false ∧ matchesKey .demand (demandWords 3 ⟨100, 1, 1⟩) g = false)
    ∧ (∀ y, ((sentDemand 1).demand y).unannounced = decide (y = 3))
    ∧ ((sentDemand 1).demand 3).known = some ⟨100, 1, 1⟩ ∧ (sentDemand 1).ownStation = 1
    ∧ ((sentDemand 2).demand 3).known = some ⟨100, 1, 2⟩
    ∧ (sentShift.sr.ring.filter ShiftRecord.unannounced).length = 1 := by decide +kernel
theorem test_demand_of_a_peer_not_offered : (after .transmitCompletion (sentDemand 2)).li.tx.length = 2
    ∧ (after .transmitCompletion (sentDemand 1)).li.tx.map TxFrame.cls = [.trip, .demand, .shift]
    ∧ ((after .transmitCompletion (sentDemand 2)).demand 3).unannounced = false := by decide +kernel
theorem test_completion_ends_isolation : (after .transmitCompletion mute).pt.mode = .normal
    ∧ (after .transmitCompletion mute).li.sent = 1 := by decide +kernel
theorem witness_FramesRoundTrip : 1 ≤ ([0] : List Word).length ∧ (List.replicate 128 (0 : Word)).length ≤ 128
    ∧ sent.li.tx.find? TxFrame.inSend = some (sending .snap [] 0) ∧ sent.ownStation = 1
    ∧ (queued [sending .ack [0x0110, 7] 0] base).li.tx.find? TxFrame.inSend = some (sending .ack [0x0110, 7] 0)
    ∧ (queued [sending .ack [0x0110, 7] 0] base).lineBytes[0]? ≠ none := by decide +kernel
/-- 11 R198: a byte leaves most significant bit first, a 0 as low then high, a 1 as high then low. -/
theorem test_levels : lineLevelsOf [0xA1] =
    [true, false, false, true, true, false, false, true, false, true, false, true, false, true, true, false] := by decide
/-- CRC-16 with start value 0xFFFF and polynomial 0x1021 of the bytes of the text 123456789 is 0x29B1. -/
theorem test_crc : crc16 [0x31, 0x32, 0x33, 0x34, 0x35, 0x36, 0x37, 0x38, 0x39] = 0x29B1#16 := by decide +kernel
/-- A SNAP with an entry, a zone block and both forms of channel summary. -/
def snap : SnapMsg :=
  ⟨.normal, some 24000, true, 1, 0, some ⟨48, 2, 1, 7, ⟨8000, 36000, true⟩⟩,
    [⟨0, .lit, some 31, some ⟨12000, 12, 1⟩, some true, true⟩],
    [.fuel ⟨0, 0, .running, 0, false, true, 300, 1500, 1500, 1495, 1050, true⟩, .fan ⟨2, 0, .running, 3900, 650⟩]⟩
theorem witness_PayloadsRoundTrip : snap.fits
    ∧ (TripMsg.mk 3 65535 .hostTrip (some 7)).fits
    ∧ (AlertMsg.mk 113 3 none 0 ⟨65535, 86399, true⟩ (some 65535)).fits
    ∧ (Demand.mk 65535 0 15).target < 65536
    ∧ (ShiftMsg.mk 0 ⟨15, .peer, true, 4294967295, 0, 65535, 0⟩).fits := by
  refine ⟨⟨by decide, by decide, by decide, by decide, by decide, by decide, by decide, ?_, ?_, ?_⟩, ?_, ?_, by decide,
    ?_⟩
  · intro e h; cases h; unfold RollEntry.fits Stamp.fits; decide
  · intro b h; simp only [snap, List.mem_singleton] at h; subst h; intro d e; cases e; decide
  · intro x h
    simp only [snap, List.mem_cons, List.not_mem_nil, or_false] at h
    rcases h with rfl | rfl <;> (unfold Summary.fits; decide)
  · unfold TripMsg.fits; decide
  · refine ⟨by decide, by unfold Stamp.fits; decide, ?_⟩
    intro v e; cases e; decide
  · unfold ShiftMsg.fits; decide
/-- Twelve TRIPs, one of them in send: case 3 of 01 R12 makes room. -/
def allTrips : State :=
  queued (sending .trip [0, 1, 0] 0 :: List.replicate 11 (waiting .trip [0x0300, 1, 0] 0)) base
theorem witness_TripNeverRefused : allTrips.pt.mode ≠ .unconfigured ∧ allTrips.li.tx.length ≤ 12
    ∧ allTrips.li.tx.countP TxFrame.inSend ≤ 1
    ∧ ∀ f ∈ allTrips.li.tx, f.cls = .trip → (tripZoneByte f).toNat < 4 := by decide +kernel
/-- A SHIFT frame from station 1, and its bytes. -/
def shiftWords : List Word := [0x0100, 0x0100, 7, 0, 5, 0, 6, 0, 0]
/-- The station in ISOLATED with a LIMITED channel, cut off by its own sends or not. -/
def apart (cut : Bool) : State :=
  { inChan 0 .limited base with
    pt := { base.pt with mode := .isolated }
    li := { base.li with acceptedMark := cut, completionTime := 99250000 } }
theorem witness_FramesReceived : base.configured = true ∧ base.pt.mode ≠ .unconfigured
    ∧ base.li.tx.any TxFrame.inSend = false ∧ base.li.rxAbandoned = false
    ∧ parseFrame (frameBytes .shift 0 9 shiftWords) 0 = some ⟨.shift, 0, 9, shiftWords⟩
    ∧ (0 : Station) ≠ base.ownStation
    ∧ parseFrame [1, 2, 3] 0 = none
    ∧ parseFrame (frameBytes .shift 1 9 shiftWords) 0 = some ⟨.shift, 1, 9, shiftWords⟩
    ∧ (1 : Station) = base.ownStation
    ∧ (apart false).pt.mode = .isolated ∧ (apart false).li.tx.any TxFrame.inSend = false
    ∧ ¬ ((apart false).li.acceptedMark = true ∧ (apart false).li.completionTime + 750000 ≤ (apart false).now)
    ∧ (apart true).li.acceptedMark = true ∧ (apart true).li.completionTime + 750000 ≤ (apart true).now
    ∧ (apart false).fuel? 0 = some coal ∧ ((apart false).chan 0).state = .limited
    ∧ sent.li.tx.any TxFrame.inSend = true ∧ State.reset.pt.mode = .unconfigured
    ∧ State.reset.li.tx.any TxFrame.inSend = false
    ∧ ({ base with li := { base.li with rxAbandoned := true } } : State).li.rxAbandoned = true := by decide +kernel
theorem test_contact_ends_isolation :
    (after (.receiveFrame (frameBytes .shift 0 9 shiftWords) 0) (apart false)).pt.mode = .normal
    ∧ ((after (.receiveFrame (frameBytes .shift 0 9 shiftWords) 0) (apart false)).chan 0).state = .running
    ∧ (after (.receiveFrame (frameBytes .shift 0 9 shiftWords) 0) (apart true)).pt.mode = .isolated := by decide +kernel
theorem test_ninth_frame_overruns :
    (after (.receiveFrame (frameBytes .shift 0 9 shiftWords) 0)
      { base with li := { base.li with rx := List.replicate 8 ⟨.snap, 0, 0, []⟩ } }).li.overruns = 1 := by decide +kernel
/-- A condition of the line that ended `n` bit times before now. -/
def degraded (n : Nat) : State :=
  { condTrue idLineDegraded base with li := { base.li with lastDegrading := some (100000000 - n) } }
def duplicated (n : Nat) : State :=
  { condTrue idDuplicateStation base with li := { base.li with lastDuplicate := some (100000000 - n) } }
def slow (n : Nat) : State := base.mapChan 0 fun ch => { ch with slowSince := some (100000000 - n) }
theorem witness_ConditionsEnd : (degraded 15000000).configured = true ∧ (degraded 15000000).cond idLineDegraded = true
    ∧ (degraded 15000000).li.lastDegrading = some 85000000
    ∧ (duplicated 7500000).configured = true ∧ (duplicated 7500000).cond idDuplicateStation = true
    ∧ (duplicated 7500000).li.lastDuplicate = some 92500000
    ∧ (slow 15000000).configured = true ∧ ((slow 15000000).chan 0).slowSince = some 85000000 := by decide +kernel
theorem test_line_degraded_60_s : (after .lineDegradedExpiry (degraded 14999999)).cond idLineDegraded = true
    ∧ (after .lineDegradedExpiry (degraded 15000000)).cond idLineDegraded = false := by decide +kernel
theorem test_duplicate_30_s : (after .duplicateStationExpiry (duplicated 7499999)).cond idDuplicateStation = true
    ∧ (after .duplicateStationExpiry (duplicated 7500000)).cond idDuplicateStation = false := by decide +kernel
theorem test_actuator_slow_60_s : ((after (.actuatorSlowExpiry 0) (slow 14999999)).chan 0).slowSince.isSome = true
    ∧ ((after (.actuatorSlowExpiry 0) (slow 15000000)).chan 0).slowSince = none := by decide +kernel
/-- A station with a RUNNING channel that last heard a peer `n` bit times ago. -/
def deaf (n : Nat) : State :=
  { inChan 0 .running base with li := { base.li with rxTime := 100000000 - n } }
theorem witness_IsolationLimits : (deaf 750000).pt.mode = .normal ∧ (deaf 750000).configured = true
    ∧ (deaf 750000).expectsPeers = true ∧ (deaf 750000).li.rxTime + 750000 ≤ (deaf 750000).now
    ∧ (deaf 750000).fuel? 0 = some coal ∧ ((deaf 750000).chan 0).state = .running
    ∧ ((deaf 750000).chan 4).state ≠ .running := by decide +kernel
theorem test_isolation_3_s : ((after .lineIsolationTimeout (deaf 749999)).chan 0).state = .running
    ∧ ((after .lineIsolationTimeout (deaf 750000)).chan 0).state = .limited := by decide +kernel

/-! ### The peer table -/

/-- The station with the last SNAP offered `n` bit times ago and a SNAP waiting. -/
def offered (n : Nat) : State :=
  { queued [waiting .snap [] 3] base with pt := { base.pt with lastOffer := 100000000 - n, changeMark := true } }
theorem witness_SnapOffers : (offered 62500).configured = true ∧ (offered 62500).pt.mode ≠ .unconfigured
    ∧ (offered 62500).pt.lastOffer + 62500 ≤ (offered 62500).now
    ∧ (offered 12500).pt.changeMark = true ∧ (offered 12500).pt.lastOffer + 12500 ≤ (offered 12500).now
    ∧ (offered 12500).li.tx.any (replaceable .snap []) = true := by decide +kernel
theorem test_change_offer_50_ms : (after .changeSnapOffer (offered 12499)).li.seqs.get 4 = 0
    ∧ (after .changeSnapOffer (offered 12500)).li.seqs.get 4 = 1 := by decide +kernel
theorem test_periodic_offer_250_ms : (after .periodicSnapOffer (offered 62499)).pt.changeMark = true
    ∧ (after .periodicSnapOffer (offered 62500)).pt.changeMark = false := by decide +kernel
/-- A SNAP without parts from station 1 with sequence 5. -/
def shortSnap : SnapMsg := ⟨.normal, none, false, 0, 0, none, [], []⟩
def snapFrame (p : List Word) : RxFrame := ⟨.snap, 0, 5, p⟩
/-- Station 1 held FRESH with last sequence 9, with a mirror of its alarm 16. -/
def mirrored : State :=
  { base.mapPeer 0 fun r => { r with fresh := .fresh, lastSeq := some 9, mode := some .normal, lastAt := some 99750000 }
    with fv := { base.fv with view := [⟨0, 16, .activeUnack, 7, Stamp.zero, true, false⟩] } }
theorem witness_SnapFiled : (heard (snapFrame [1]) mirrored).heads .snap (snapFrame [1])
    ∧ parseSnap (snapFrame [1]).payload = none
    ∧ (heard (snapFrame shortSnap.words) mirrored).heads .snap (snapFrame shortSnap.words)
    ∧ parseSnap (snapFrame shortSnap.words).payload = some shortSnap
    ∧ (mirrored.peer 0).fresh ≠ .absent ∧ (mirrored.peer 0).lastSeq = some 9 ∧ serialNewer (5 : Byte) 9 = false
    ∧ shortSnap.entry = none := by unfold State.heads; decide +kernel
/-- A SNAP of station 1 with a block of zone 0 and a RUNNING channel in it, filed in a zone of epoch 7. -/
def report (st : ZoneState) (e : Word) (lit : Bool) : SnapMsg :=
  ⟨.normal, none, false, 0, 0, none, [⟨0, st, some e, some ⟨12000, 6, 0⟩, some lit, true⟩],
    [.fuel ⟨0, 0, .running, 0, false, true, 300, 1500, 1500, 1495, 1050, true⟩]⟩
def reported (m : SnapMsg) (st : ZoneState) : State :=
  ((heard (snapFrame m.words) (inZone 0 st base)).mapZone 0 fun r => { r with epoch := some 7 }).mapDemand 0 fun d =>
    { d with known := some ⟨9000, 5, 1⟩ }
theorem witness_SnapFiled_adopts : (reported (report .lit 7 true) .dark).heads .snap (snapFrame (report .lit 7 true).words)
    ∧ parseSnap (report .lit 7 true).words = some (report .lit 7 true)
    ∧ parseSnap (report .lit 8 true).words = some (report .lit 8 true)
    ∧ parseSnap (report .ready 7 false).words = some (report .ready 7 false)
    ∧ (reported (report .lit 7 true) .dark).decides = true ∧ (reported (report .lit 7 true) .dark).participates 0 = true
    ∧ ((reported (report .lit 7 true) .lit).zone 0).epoch = some 7
    ∧ serialNewer (8 : Word) 7 = true ∧ serialNewer (7 : Word) 7 = false
    ∧ ((reported (report .lit 8 true) .lit).zone 0).state.trippable = true
    ∧ (reported (report .lit 7 true) .dark).esd = false
    ∧ ((reported (report .ready 7 false) .dark).peer 1).fresh ≠ .fresh
    ∧ Summary.fuel ⟨0, 0, .running, 0, false, true, 300, 1500, 1500, 1495, 1050, true⟩ ∈ (report .lit 7 true).chans := by
  unfold State.heads; decide +kernel
theorem test_snap_adopted :
    ((after .snapTaken (reported (report .lit 7 true) .dark)).zone 0).state = .lit
    ∧ ((after .snapTaken (reported (report .ready 7 false) .purging)).zone 0).state = .ready
    ∧ ((after .snapTaken (reported (report .lit 8 true) .lit)).zone 0).state = .tripped
    ∧ ((after .snapTaken (reported (report .lit 7 true) .dark)).demand 0).known = some ⟨12000, 6, 0⟩ := by decide +kernel
theorem test_restart_drops_mirrors :
    (after .snapTaken (heard (snapFrame shortSnap.words) mirrored)).fv.view = [] := by decide +kernel
/-- The roll call of station 1, and a SNAP of it that carries the alarm 16 in position `i` of `n`. -/
def rolling (r : RollCall) : State :=
  { mirrored with fv := { mirrored.fv with roll := upd mirrored.fv.roll 0 r
                                           view := [⟨0, 16, .activeUnack, 7, Stamp.zero, false, true⟩] } }
def rollSnap (n i : Nat) (prio : Nat) (seq : Word) : RxFrame :=
  ⟨.snap, 0, 10, (SnapMsg.mk .normal none false n i (some ⟨16, prio, 2, seq, Stamp.zero⟩) [] []).words⟩
def rolled (r : RollCall) (n i : Nat) (prio : Nat) (seq : Word) : State :=
  after .snapTaken (heard (rollSnap n i prio seq) (rolling r))
theorem witness_SnapFiled_roll :
    (heard (rollSnap 2 1 2 7) (rolling ⟨true, true, 0, false⟩)).heads .snap (rollSnap 2 1 2 7)
    ∧ parseSnap (rollSnap 2 1 2 7).payload
      = some ⟨.normal, none, false, 2, 1, some ⟨16, 2, 2, 7, Stamp.zero⟩, [], []⟩
    ∧ parseSnap (rollSnap 1 1 2 7).payload
      = some ⟨.normal, none, false, 1, 1, some ⟨16, 2, 2, 7, Stamp.zero⟩, [], []⟩
    ∧ serialNewer (10 : Byte) 9 = true ∧ alarmIdOf 16 = some 16 ∧ alarmStateOf 2 = some .activeAcked
    ∧ alarmPriority 16 = 2 ∧ (rolling ⟨true, true, 0, true⟩).rollCall 0 = ⟨true, true, 0, true⟩
    ∧ parseSnap shortSnap.words = some shortSnap := by unfold State.heads; decide +kernel
/-- 08 R155, R156: a wrap ends a whole pass and drops the unseen mirror, one that is not whole keeps it; a missed index
ends the whole flag; an inconsistent part changes nothing. -/
theorem test_roll_call : (rolled ⟨true, true, 0, true⟩ 2 0 2 9).fv.view
      = [⟨0, 16, .activeAcked, 9, Stamp.zero, true, false⟩]
    ∧ (rolled ⟨true, false, 0, true⟩ 2 0 2 7).fv.view = [⟨0, 16, .activeAcked, 7, Stamp.zero, true, true⟩]
    ∧ (rolled ⟨true, true, 0, false⟩ 4 2 2 7).rollCall 0 = ⟨true, false, 2, false⟩
    ∧ (rolled ⟨true, true, 0, false⟩ 1 1 2 9).rollCall 0 = ⟨true, true, 0, false⟩
    ∧ (rolled ⟨true, true, 0, true⟩ 1 0 1 9).fv.view = (rolling ⟨true, true, 0, true⟩).fv.view := by decide +kernel
/-- The record of station 1 with a freshness and its last SNAP `n` bit times ago. -/
def aged (fr : Freshness) (n : Nat) : State :=
  base.mapPeer 0 fun r => { r with fresh := fr, expected := true, lastAt := some (100000000 - n) }
/-- STARTING was entered 5000 ms ago. -/
def alone : State := { aged .absent 0 with pt := { (aged .absent 0).pt with startTime := 98750000 } }
theorem witness_FreshnessTimers : ((aged .fresh 250000).peer 0).fresh = .fresh
    ∧ ((aged .fresh 250000).peer 0).lastAt = some 99750000
    ∧ (aged .stale 1250000).configured = true ∧ ((aged .stale 1250000).peer 0).fresh = .stale
    ∧ ((aged .stale 1250000).peer 0).lastAt = some 98750000 ∧ ((aged .stale 1250000).peer 0).expected = true
    ∧ alone.configured = true ∧ (alone.peer 0).expected = true ∧ (alone.peer 0).fresh = .absent
    ∧ alone.pt.startTime + 1250000 ≤ alone.now := by decide +kernel
theorem witness_FreshnessLadder :
    ((after (.staleTimeout 0) (aged .fresh 250000)).peer 0).fresh ≠ ((aged .fresh 250000).peer 0).fresh
    ∧ ((after (.expiredTimeout 0) (aged .stale 1250000)).peer 0).fresh ≠ ((aged .stale 1250000).peer 0).fresh
    ∧ ((after .resetNAssertion (aged .stale 0)).peer 0).fresh ≠ ((aged .stale 0).peer 0).fresh
    ∧ ((after .snapTaken (heard (snapFrame shortSnap.words) base)).peer 0).fresh ≠ (base.peer 0).fresh := by
  decide +kernel
theorem test_stale_after_1_s : ((after (.staleTimeout 0) (aged .fresh 249999)).peer 0).fresh = .fresh
    ∧ ((after (.staleTimeout 0) (aged .fresh 250000)).peer 0).fresh = .stale := by decide +kernel
theorem test_expired_after_5_s : (after (.expiredTimeout 0) (aged .stale 1249999)).cond (idPeerExpired 0) = false
    ∧ (after (.expiredTimeout 0) (aged .stale 1250000)).cond (idPeerExpired 0) = true := by decide +kernel
theorem test_absent_after_5_s : (after (.absentPeerTimeout 0) alone).cond (idPeerExpired 0) = true := by decide +kernel
/-- The listen of a station that sees the flame of zone 0, with station 1 reporting the zone in a state. -/
def listened (st : ZoneState) (n : Nat) : State :=
  { listening.mapPeer 0 fun r => { r with fresh := .fresh, zones := [⟨0, st, none, none, none, false⟩] } with
    pt := { (listening.mapPeer 0 fun r => { r with
      fresh := .fresh, zones := [⟨0, st, none, none, none, false⟩] }).pt with startTime := 100000000 - n }
    ce := { base.ce with flames := Vector.replicate 4 (pointAt 1) } }
theorem witness_ListenEnds : (listened .lit 500000).pt.mode = .starting
    ∧ (listened .lit 500000).pt.startTime + 500000 ≤ (listened .lit 500000).now
    ∧ (listened .lit 500000).participates 0 = true ∧ ((listened .lit 500000).zone 0).state = .dark
    ∧ (listened .lit 500000).notedPeer 0 = none ∧ (listened .lit 500000).peerReports 0 .lit = true
    ∧ (listened .lit 500000).flameView 0 = true ∧ (listened .ready 500000).peerReports 0 .ready = true
    ∧ (listened .ready 499999).pt.mode = .starting := by decide +kernel
theorem test_listen_2_s : (after .listenEnd (listened .lit 499999)).pt.mode = .starting
    ∧ ((after .listenEnd (listened .lit 500000)).zone 0).state = .lit
    ∧ ((after .listenEnd (listened .ready 500000)).zone 0).state = .ready := by decide +kernel
/-- The same with station 1 reporting zone 0 TRIPPED with epoch 9, held 8, and station 3 with epoch 10. -/
def tripHeard : State :=
  (((listened .tripped 500000).mapPeer 0 fun r => { r with zones := [⟨0, .tripped, some 9, none, none, false⟩] }).mapPeer 2
    fun r => { r with fresh := .fresh, zones := [⟨0, .tripped, some 10, none, none, false⟩] }).mapZone 0 fun r =>
      { r with epoch := some 8 }
theorem witness_ListenEnds_tripped : tripHeard.pt.mode = .starting ∧ tripHeard.pt.startTime + 500000 ≤ tripHeard.now
    ∧ tripHeard.participates 0 = true ∧ (tripHeard.zone 0).state = .dark ∧ tripHeard.reportsTrip 0 0
    ∧ (∀ m : Station, m < 0 → ¬ tripHeard.reportsTrip 0 m) ∧ tripHeard.participates 3 = false
    ∧ ∀ n, ¬ (listened .lit 500000).reportsTrip 0 n := by
  refine ⟨by decide +kernel, by decide +kernel, by decide +kernel, by decide +kernel,
    ⟨by decide +kernel, by decide +kernel, ⟨0, .tripped, some 9, none, none, false⟩, 9, by decide +kernel, rfl, rfl, ?_⟩,
    fun m h => absurd h (Nat.not_lt_zero _), by decide +kernel, ?_⟩
  · intro h hh
    have e : (tripHeard.zone 0).epoch = some 8 := by decide +kernel
    rw [e] at hh; cases hh; decide
  · rintro n ⟨hf, -, b, e, hb, ht, -⟩
    have k : ∀ n : Station, ((listened .lit 500000).peer n).fresh = .fresh →
        ((listened .lit 500000).peer n).block? 0 = some ⟨0, .lit, none, none, none, false⟩ := by decide +kernel
    rw [k n hf] at hb; cases hb; cases ht
/-- 04 R87: the merged epoch is the newest, the origin the first station that reports the trip. -/
theorem test_listen_trips : ((after .listenEnd tripHeard).zone 0).state = .tripped
    ∧ ((after .listenEnd tripHeard).zone 0).epoch = some 10
    ∧ ((after .listenEnd tripHeard).zone 0).firstOut.map (fun f => (f.entry.cause, f.entry.origin))
      = some (.peerTrip, 0) := by decide +kernel

/-! ### The field port -/

/-- A free port with one command record waiting. -/
def toSend : State :=
  { base.mapChan 0 fun ch => { ch with inFlight := some ⟨.setFeed 500, 7, 1, 0, none⟩ } with
    ce := { (base.mapChan 0 fun ch => { ch with inFlight := some ⟨.setFeed 500, 7, 1, 0, none⟩ }).ce with
      waiting := [⟨0, 7, .setFeed 500, 99999999⟩] } }
theorem witness_FieldPort : framingFails [9, 5] = true ∧ b8 0xC3 ∉ [9, 5]
    ∧ framingFails [9, 0xC3, 1] = true ∧ holdsFailure [1] = false ∧ base.ce.waiting = []
    ∧ toSend.ce.busyUntil ≤ toSend.now ∧ toSend.ce.waiting = [⟨0, 7, .setFeed 500, 99999999⟩] := by decide +kernel
theorem test_window_200_ms : ((after .commandSend toSend).chan 0).inFlight = some ⟨.setFeed 500, 7, 1, 0, some 100050000⟩ := by
  decide +kernel
/-- 11 R202: the receiver hunts again from the byte after the sync byte of the failed record. -/
theorem test_record_fail_hunts : (after (.fieldRecordFail [9, 0xC3, 1] false) base).ce.fieldRx = .inRecord [1] := by decide +kernel
/-- A reply record behind its sync byte. -/
def reply3 : List Byte := [3, 0, 7, 1] ++ wordBytes [crc16 [3, 0, 7, 1]]
theorem witness_FieldPort_gap : b8 0xC3 ∉ [1] ∧ holdsRecord [1] = false ∧ holdsRecord reply3 = true
    ∧ holdsRecord (reply3 ++ [0xC3]) = true ∧ (reply3 ++ [0xC3]).take 6 = reply3
    ∧ (∀ a b, ([0xC3] : List Byte) = a ++ b8 0xC3 :: b → holdsRecord b = false) := by
  refine ⟨by decide, by decide, by decide +kernel, by decide +kernel, by decide +kernel, ?_⟩
  intro a b h
  have hl := congrArg List.length h
  cases b with
  | nil => decide
  | cons x y => simp at hl; omega
/-- 11 R202: a reply that passes before the gap is taken; the record begun behind it fails at the gap too. -/
theorem test_gap_behind_reply :
    (after (.fieldRecordFail ([1, 0xC3] ++ reply3 ++ [0xC3, 1]) true) base).ce.fieldRx = .beforeGap (reply3 ++ [0xC3]) 1
    ∧ (after (.fieldRecordFail ([1, 0xC3] ++ reply3 ++ [0xC3, 1]) true) base).ce.fieldRx.command
      = some (.actuatorReply 0 7 1)
    ∧ (after (.actuatorReply 0 7 1)
        (after (.fieldRecordFail ([1, 0xC3] ++ reply3 ++ [0xC3, 1]) true) base)).ce.fieldRx = .hunting
    ∧ (after (.actuatorReply 0 7 1)
        (after (.fieldRecordFail ([1, 0xC3] ++ reply3 ++ [0xC3, 0xC3]) true) base)).ce.fieldRx = .inRecord []
    ∧ (after (.fieldRecordFail [1, 0xC3, 3, 0, 0xC3] true) base).ce.fieldRx = .inRecord [] := by decide +kernel
/-- 11 R202: source, quantity, value, quality and elapsed time stand in their bytes; a wrong CRC spells nothing. -/
theorem test_record_command :
    recordCommand ([1, 0, 1, 0x02, 0xBC, 0, 0x01, 0xF4] ++ wordBytes [crc16 [1, 0, 1, 0x02, 0xBC, 0, 0x01, 0xF4]])
      = some (.sampleRecord 0 1 700 0 500)
    ∧ recordCommand ([1, 0, 1, 0x02, 0xBC, 0, 0x01, 0xF5] ++ wordBytes [crc16 [1, 0, 1, 0x02, 0xBC, 0, 0x01, 0xF4]])
      = none := by decide +kernel
/-- A point held until `h`. -/
def heldTill (h : Nat) : State :=
  base.mapPoint (.feed 0) fun x => { x with cond := .held, last := some 700, hold := some h }
/-- No sample record for `n` bit times. -/
def silentFor (n : Nat) : State := { base with ce := { base.ce with silenceSince := 100000000 - n } }
theorem witness_SamplesTaken : base.configured = true ∧ base.matchPoint 5 1 = none
    ∧ base.matchPoint 0 1 = some (.feed 0) ∧ (0 : Byte).toNat ≤ 1 ∧ 2 ≤ (2 : Byte).toNat
    ∧ ((heldTill 100000000).point (.feed 0)).cond = .held
    ∧ ((heldTill 100000000).point (.feed 0)).hold = some 100000000
    ∧ ((heldTill 100000001).point (.feed 0)).hold = some 100000001
    ∧ (silentFor 500000).configured = true ∧ (silentFor 500000).cond idFieldSilent = false
    ∧ (silentFor 500000).ce.silenceSince + 500000 ≤ (silentFor 500000).now := by decide +kernel
/-- A substituted feed point and a held flow point. -/
def badFeed : State := (base.mapPoint (.feed 0) fun x => { x with cond := .substituted }).mapPoint (.flow 2) fun x =>
  { x with cond := .held, last := some 3000, hold := some 100000009 }
theorem witness_SamplesTaken_totals : base.fuel? 0 = some coal ∧ (0 : Byte).toNat = (0 : Chan).val
    ∧ base.fan? 2 = some coolFan ∧ (2 : Byte).toNat = (2 : Chan).val
    ∧ (badFeed.chan 0).feedPt.cond = .substituted ∧ (badFeed.chan 2).flowPt.cond = .held
    ∧ badFeed.configured = true ∧ min (2001 : Word).toNat 2000 = 2000 := by decide +kernel
theorem witness_SamplesTaken_consumers : TripCause.feederFault.reaches ((inChan 0 .running base).chan 0).state = true
    ∧ TripCause.feederFault.reaches (base.chan 0).state = false ∧ ((inChan 0 .running base).chan 0).inFlight = none
    ∧ base.clinkerPresent = true ∧ base.tLim = 110 ∧ base.sr.tempSum + 1500 < 281474976710656
    ∧ base.sr.tempCount + 1 < 4294967296 ∧ (160 : Word).toInt = 160 ∧ (0xFFFF : Word).toInt < 0 := by decide +kernel
/-- 03 R57: a feeder fault trips; 06 R126: the clock runs above 160 deg. -/
theorem test_sample_consumers : ((after (.sampleRecord 0 5 1 0 500) (inChan 0 .running base)).chan 0).cause
      = some .feederFault
    ∧ (after (.sampleRecord 32 7 160 0 500) base).cr.highClock = none
    ∧ (after (.sampleRecord 32 7 161 0 500) base).cr.highClock = some 115000000 := by decide +kernel
/-- 3600 kg/h over 2000 ms are 2 kg; a longer elapsed time counts as 2000 ms; a substituted sample is an estimate; a
signed quantity below its range is taken as the lowest value (03 R39, R42; 09 R169, R170). -/
theorem test_feed_totals : ((after (.sampleRecord 0 1 3600 0 2001) base).acct 0).mass = 2
    ∧ ((after (.sampleRecord 0 1 3600 0 2000) base).acct 0).lifeMass = 2
    ∧ ((after (.sampleRecord 0 1 3600 2 2000) badFeed).acct 0).estimated = true
    ∧ ((after (.sampleRecord 2 2 9 2 1200) badFeed).acct 2).mass = 1
    ∧ (after (.sampleRecord 0 1 700 0 500) base).point (.feed 0) = pointAt 700
    ∧ (after (.sampleRecord 32 7 0xFFF0 0 500) base).ce.clinker.last = some 0 := by
  decide +kernel
theorem test_hold_3_s : ((after (.sampleHoldExpiry (.feed 0)) (heldTill 100000001)).point (.feed 0)).cond = .held
    ∧ ((after (.sampleHoldExpiry (.feed 0)) (heldTill 100000000)).point (.feed 0)).cond = .substituted := by decide +kernel
theorem test_silent_after_2_s : (after .fieldPortSilent (silentFor 499999)).sr.gap = false
    ∧ (after .fieldPortSilent (silentFor 500000)).sr.gap = true := by decide +kernel
/-- A command in flight on channel 0. -/
def flying (cmd : Cmd) (attempt busy : Nat) (q : Option Cmd) : State :=
  base.mapChan 0 fun ch => { ch with
    inFlight := some ⟨cmd, 7, attempt, busy, some 100000000⟩, tagCtr := 8, queued := q }
theorem witness_RepliesMatched : base.configured = true ∧ (base.chan 0).inFlight = none
    ∧ ((flying (.setFeed 500) 1 3 none).chan 0).inFlight = some ⟨.setFeed 500, 7, 1, 3, some 100000000⟩
    ∧ ((flying (.setFeed 500) 1 3 none).chan 0).queued = none
    ∧ ((flying (.setFeed 500) 1 3 none).chan 0).igniterOff = false
    ∧ ((flying (.setFeed 500) 1 3 none).chan 0).feedDue = false
    ∧ ((flying (.setFeed 500) 1 3 (some (.setFeed 600))).chan 0).queued = some (.setFeed 600)
    ∧ ((flying (.igniter false) 1 3 none).chan 0).inFlight = some ⟨.igniter false, 7, 1, 3, some 100000000⟩ := by
  decide +kernel
/-- IGNITER on in flight with a proof in progress, in a READY zone whose view is proven or not. -/
def lighting (p : Option Proof) (view : Bool) : State :=
  ((inChan 0 .proving (flying (.igniter true) 1 0 none)).mapChan 0 fun ch => { ch with proof := p }).mapZone 0 fun r =>
    { r with state := .ready, view := view }
/-- The second attempt of a command on channel 0 or 2, in a state. -/
def again (c : Chan) (st : ChState) : State := (inChan c st base).mapChan c fun ch => { ch with
  inFlight := some ⟨.setFeed 500, 7, 2, 4, some 100000000⟩ }
theorem witness_RepliesMatched_more : (0 : Byte) ≠ 1 ∧ (4 : Byte) ≠ 3
    ∧ ((lighting (some ⟨true, true, false, 100000009⟩) false).chan 0).inFlight
      = some ⟨.igniter true, 7, 1, 0, some 100000000⟩
    ∧ (lighting (some ⟨true, true, false, 100000009⟩) false).configured = true
    ∧ (lighting (some ⟨true, true, false, 100000009⟩) false).fuel? 0 = some coal
    ∧ ((lighting (some ⟨true, true, false, 100000009⟩) false).chan 0).proof = some ⟨true, true, false, 100000009⟩
    ∧ ((lighting (some ⟨true, true, false, 100000009⟩) false).chan 0).queued = none
    ∧ ((lighting (some ⟨true, true, false, 100000009⟩) true).zone 0).state = .ready
    ∧ ((lighting (some ⟨true, true, false, 100000009⟩) true).zone 0).view = true
    ∧ ((lighting (some ⟨true, false, false, 100000009⟩) true).chan 0).proof = some ⟨true, false, false, 100000009⟩
    ∧ ((lighting none true).chan 0).proof = none
    ∧ ((flying (.setFeed 500) 1 4 none).chan 0).inFlight = some ⟨.setFeed 500, 7, 1, 4, some 100000000⟩
    ∧ ((again 0 .stopping).chan 0).inFlight = some ⟨.setFeed 500, 7, 2, 4, some 100000000⟩
    ∧ TripCause.actuatorFailure.reaches ((again 0 .stopping).chan 0).state = true
    ∧ TripCause.actuatorFailure.reaches ((again 0 .tripped).chan 0).state = false
    ∧ (again 0 .tripped).fuel? 0 = some coal ∧ (again 2 .running).fan? 2 = some coolFan
    ∧ ((again 2 .fanFault).chan 2).inFlight = some ⟨.setFeed 500, 7, 2, 4, some 100000000⟩ := by decide +kernel
/-- 04 R71, R73: the DONE of the proof's own IGNITER on releases SHUT, the DONE of an ended proof's does not. -/
theorem test_done_releases :
    ((after (.actuatorReply 0 7 1) (lighting (some ⟨true, true, false, 100000009⟩) false)).chan 0).shutReleased = true
    ∧ ((after (.actuatorReply 0 7 1) (lighting (some ⟨true, true, false, 100000009⟩) true)).zone 0).state = .lit
    ∧ ((after (.actuatorReply 0 7 1) (lighting (some ⟨true, false, false, 100000009⟩) false)).chan 0).shutReleased
      = false
    ∧ ((after (.actuatorReply 0 7 1) (flying (.setFeed 500) 1 0 (some (.setFeed 600)))).chan 0).inFlight.map InFlight.cmd
      = some (.setFeed 600) := by
  decide +kernel
theorem test_fifth_busy_fails :
    ((after (.actuatorReply 0 7 2) (flying (.setFeed 500) 1 4 none)).chan 0).inFlight.map InFlight.attempt = some 2
    ∧ ((after (.actuatorReply 0 7 2) (flying (.setFeed 500) 1 3 none)).chan 0).inFlight.map InFlight.busy = some 4 := by
  decide +kernel
/-- The second attempt of a command on a RUNNING coal channel and on a RUNNING fan. -/
def lastTry (c : Chan) : State :=
  (inChan c .running base).mapChan c fun ch => { ch with inFlight := some ⟨.setFeed 500, 7, 2, 0, some 100000000⟩ }
theorem witness_WindowExpiryTrips : (lastTry 0).configured = true
    ∧ ((lastTry 0).chan 0).inFlight = some ⟨.setFeed 500, 7, 2, 0, some 100000000⟩
    ∧ (lastTry 0).fuel? 0 = some coal ∧ TripCause.actuatorFailure.reaches ((lastTry 0).chan 0).state = true
    ∧ ((lastTry 2).chan 2).inFlight = some ⟨.setFeed 500, 7, 2, 0, some 100000000⟩
    ∧ (lastTry 2).fan? 2 = some coolFan ∧ ((lastTry 2).chan 2).state ≠ .fanFault := by decide +kernel
theorem test_second_attempt_trips : ((after (.replyWindowExpiry 0) (lastTry 0)).chan 0).state = .tripped
    ∧ ((after (.replyWindowExpiry 2) (lastTry 2)).chan 2).state = .fanFault := by decide +kernel

/-! ### The channels -/

/-- A RUNNING or STOPPING coal channel at a setpoint, its ramp clock due, moving toward a target. -/
def ramping (st : ChState) (sp target : Nat) : State :=
  (inChan 0 st base).mapChan 0 fun ch => { ch with setpoint := sp, target := target, rampNext := some 100000000 }
/-- The unlocked clock and the acquiring clock of a RUNNING coal channel due. -/
def unlocked : State :=
  (inChan 0 .running base).mapChan 0 fun ch => { ch with
    unlockedClock := some 100000000, acquiringClock := some 100000000, hmin := 300, hmax := 1500, hmaxEff := 1500,
    actual := 800, alloc := 1000 }
theorem witness_ChannelClocks : (ramping .running 500 700).fuel? 0 = some coal
    ∧ ((ramping .running 500 700).chan 0).rampNext = some 100000000
    ∧ ((ramping .running 500 700).chan 0).inFlight = none
    ∧ ((ramping .stopping 500 415).chan 0).state = .stopping
    ∧ unlocked.configured = true ∧ unlocked.fuel? 0 = some coal
    ∧ (unlocked.chan 0).unlockedClock = some 100000000 ∧ (unlocked.chan 0).acquiringClock = some 100000000
    ∧ (unlocked.chan 0).state = .running := by decide +kernel
/-- A RUNNING coal channel at setpoint 1000 with a tracking, locked or not. -/
def tracking (k : Tracking) : State :=
  (inChan 0 .running base).mapChan 0 fun ch => { ch with setpoint := 1000, hmax := 1500, hmaxEff := 900, track := some k }
theorem witness_ChannelClocks_tracking : (tracking ⟨true, true, 0, 2, none⟩).configured = true
    ∧ (tracking ⟨true, true, 0, 2, none⟩).fuel? 0 = some coal ∧ (0 : Byte).toNat = (0 : Chan).val
    ∧ ((tracking ⟨true, true, 0, 2, none⟩).chan 0).proof = none
    ∧ ((tracking ⟨true, false, 4, 0, none⟩).chan 0).track = some ⟨true, false, 4, 0, none⟩
    ∧ ((tracking ⟨false, false, 4, 0, none⟩).chan 0).track = some ⟨false, false, 4, 0, none⟩
    ∧ (tracking ⟨false, false, 4, 0, none⟩).cond (idFeedDeviation 0) = false
    ∧ (20 : Nat) = ((980 - 1000) + (1000 - 980)) * 1000 / max 1000 (max coal.fmin 1)
    ∧ (21 : Nat) = ((1021 - 1000) + (1000 - 1021)) * 1000 / max 1000 (max coal.fmin 1) := by decide +kernel
/-- 03 R50: five samples of at most 20 per mille lock, three outside unlock; a sample of 21 is in band in ACQUIRING. -/
theorem test_tracking :
    (Tracking.mk false false 4 0 none).sample 20 = ⟨true, true, 0, 0, some 20⟩
    ∧ (Tracking.mk true true 0 2 none).sample 21 = ⟨true, false, 0, 0, some 21⟩
    ∧ (Tracking.mk true true 0 0 (some 21)).inBand = false
    ∧ (((tracking ⟨true, true, 0, 0, some 21⟩).restartAcquiring 0).chan 0).track.map Tracking.inBand = some true := by
  decide +kernel
/-- The tracking of a derated channel at setpoint 1000, and a channel in a feed proof. -/
def derating (k : Tracking) : State :=
  (condTrue (idFeedDeviation 0) (tracking k)).mapChan 0 fun ch => { ch with hmin := 300, alloc := 1000 }
def feedProving : State :=
  ((inChan 0 .proving (inZone 0 .lit base)).mapChan 0 fun ch => { ch with
    proof := some ⟨false, false, true, 100000009⟩, shutReleased := true }).mapZone 0 fun r => { r with view := true }
theorem witness_ChannelClocks_samples : (derating ⟨true, false, 0, 0, none⟩).cond (idFeedDeviation 0) = true
    ∧ ((derating ⟨true, false, 0, 0, none⟩).chan 0).proof = none
    ∧ ((derating ⟨true, false, 4, 0, none⟩).chan 0).track = some ⟨true, false, 4, 0, none⟩
    ∧ ((derating ⟨true, false, 4, 0, none⟩).chan 0).state = .running
    ∧ (feedProving.chan 0).proof = some ⟨false, false, true, 100000009⟩ ∧ (feedProving.chan 0).state = .proving
    ∧ (feedProving.chan 0).track = none ∧ feedProving.cond (idFeedDeviation 0) = false
    ∧ feedProving.fuel? 0 = some coal ∧ feedProving.configured = true
    ∧ coal.fmin ≤ 2 * (208 : Word).toNat ∧ 2 * (207 : Word).toNat < coal.fmin := by decide +kernel
/-- 03 R52: 1100 kg/h are 794 x 10 kW, below the 1000 held. 04 R72: 208 of 415 kg/h pass the proof. -/
theorem test_feed_consumers :
    ((after (.sampleRecord 0 1 1100 0 500) (derating ⟨true, false, 0, 0, none⟩)).chan 0).hmaxEff = 794
    ∧ ((after (.sampleRecord 0 1 1100 0 500) (derating ⟨true, false, 0, 0, none⟩)).chan 0).alloc = 794
    ∧ ((after (.sampleRecord 0 1 1000 0 500) (derating ⟨true, false, 4, 0, none⟩)).chan 0).hmaxEff = 1500
    ∧ ((after (.sampleRecord 0 1 208 0 500) feedProving).chan 0).state = .running
    ∧ ((after (.sampleRecord 0 1 207 0 500) feedProving).chan 0).state = .proving := by decide +kernel
theorem test_ramp_step : ((after (.rampStep 0) (ramping .running 500 700)).chan 0).setpoint = 600
    ∧ ((after (.rampStep 0) (ramping .stopping 500 415)).chan 0).state = .off := by decide +kernel
theorem test_unlocked_derates : ((after (.unlockedClockExpiry 0) unlocked).chan 0).hmaxEff = 800 := by decide +kernel
theorem test_acquiring_derates : ((after (.acquiringClockExpiry 0) unlocked).chan 0).alloc = 800 := by decide +kernel
/-- 03, heat of a coal channel of NCV 26000: heat(2077) = round(2077 x 26000 / 36000) = 1500. -/
theorem test_heat : heatOf 26000 2077 = 1500 := by decide +kernel
/-- A start of channel 0 in work with its zone in a state. -/
def starting (st : ZoneState) : State := ask 4 [0] (inZone 0 st base)
theorem witness_FuelStarts : (starting .ready).configured = true ∧ (starting .ready).serves 4 [0]
    ∧ (starting .lit).serves 4 [0] ∧ (0 : Word).toNat = (0 : Chan).val ∧ (starting .ready).fuel? 0 = some coal
    ∧ ((starting .ready).chan 0).state = .off ∧ ((starting .ready).chan 0).inFlight = none
    ∧ (starting .ready).pt.mode = .normal ∧ ((starting .ready).zone 0).firstOut = none
    ∧ ((starting .ready).chan 0).faultPt.faulted = false ∧ ((starting .ready).zone 0).state = .ready
    ∧ coal.igniter = true ∧ ((starting .lit).zone 0).state = .lit ∧ ((starting .lit).zone 0).flameLost = false := by
  unfold State.serves; decide +kernel
theorem witness_FuelStarts_refused : (ask 4 [8] base).serves 4 [8] ∧ 8 ≤ (8 : Word).toNat
    ∧ (ask 4 [7] base).serves 4 [7] ∧ (ask 4 [7] base).chanCfg 7 = .unused
    ∧ (ask 4 [1] base).serves 4 [1] ∧ (ask 4 [1] base).chanCfg 1 = .fuel { coal with ncv := 0 }
    ∧ ((inChan 0 .stopping (starting .dark)).chan 0).state = .stopping
    ∧ (inChan 0 .running (starting .dark)).serves 4 [0] ∧ ((inChan 0 .running (starting .dark)).chan 0).state ≠ .off
    ∧ (((starting .dark).mapZone 0 fun r => { r with
        firstOut := some ⟨⟨.hostTrip, 1, none, none, Stamp.zero, 1, none⟩, [], 0⟩ }).zone 0).firstOut ≠ none
    ∧ ((starting .dark).zone 0).state ≠ .lit ∧ ((starting .dark).zone 0).state ≠ .ready := by
  unfold State.serves; decide +kernel
theorem test_start_in_ready : ((after (.channelStart 0) (starting .ready)).chan 0).state = .proving
    ∧ (after (.channelStart 0) (starting .dark)).sp.buffer = .ready ⟨4, .refused .permissive, 0, []⟩ := by decide +kernel
/-- A stop of a channel in work. -/
def stopping (c : Nat) (st : ChState) (sp : Nat) : State :=
  ask 5 [w16 c] ((inChan (Fin.ofNat 8 c) st base).mapChan (Fin.ofNat 8 c) fun ch => { ch with setpoint := sp })
theorem witness_StopCommands : (stopping 0 .proving 415).configured = true ∧ (stopping 0 .proving 415).serves 5 [0]
    ∧ (stopping 0 .proving 415).fuel? 0 = some coal ∧ ((stopping 0 .proving 415).chan 0).state = .proving
    ∧ ((stopping 0 .limited 415).chan 0).state = .limited ∧ ((stopping 0 .limited 415).chan 0).setpoint = coal.fmin
    ∧ ((stopping 0 .running 516).chan 0).state = .running
    ∧ coal.fmin + coal.ramp < ((stopping 0 .running 516).chan 0).setpoint
    ∧ ((stopping 0 .off 0).chan 0).state = .off
    ∧ (stopping 2 .running 3000).serves 5 [2] ∧ (stopping 2 .running 3000).fan? 2 = some coolFan
    ∧ ((stopping 2 .running 3000).chan 2).state ≠ .off ∧ ((stopping 2 .off 0).chan 2).state = .off := by
  unfold State.serves; decide +kernel
/-- A stop of channel 0 with its ramp clock running. -/
def stoppingRamp (sp : Nat) : State := (stopping 0 .running sp).mapChan 0 fun ch => { ch with rampNext := some 100000009 }
theorem witness_StopCommands_more : (ask 5 [8] base).serves 5 [8] ∧ 8 ≤ (8 : Word).toNat
    ∧ (ask 5 [7] base).serves 5 [7] ∧ (ask 5 [7] base).chanCfg 7 = .unused
    ∧ (ask 5 [1] base).serves 5 [1] ∧ (ask 5 [1] base).chanCfg 1 = .fuel { coal with ncv := 0 }
    ∧ (stopping 0 .tripped 0).serves 5 [0] ∧ ((stopping 0 .tripped 0).chan 0).state = .tripped
    ∧ ((stopping 0 .running 515).chan 0).rampNext = none
    ∧ ((stopping 0 .running 515).chan 0).setpoint = coal.fmin + coal.ramp
    ∧ ((stoppingRamp 416).chan 0).rampNext ≠ none ∧ ((stoppingRamp 416).chan 0).setpoint ≠ coal.fmin
    ∧ (stoppingRamp 416).serves 5 [0] := by unfold State.serves; decide +kernel
theorem test_stop_within_a_ramp : ((after (.channelStop 0) (stopping 0 .running 515)).chan 0).state = .off
    ∧ ((after (.channelStop 0) (stoppingRamp 416)).chan 0).state = .stopping
    ∧ (after (.channelStop 0) (stopping 0 .lockedOut 0)).sp.buffer = .ready ⟨5, .refused .state, 0, []⟩ := by decide +kernel
theorem test_stop_from_setpoint : ((after (.channelStop 0) (stopping 0 .running 516)).chan 0).state = .stopping
    ∧ ((after (.channelStop 0) (stopping 0 .running 415)).chan 0).state = .off := by decide +kernel
/-- A coal channel TRIPPED for a cause, or LOCKED_OUT, with its reset or release in work. -/
def trippedBy (cause : TripCause) : State :=
  ask 6 [0] ((inChan 0 .tripped base).mapChan 0 fun ch => { ch with cause := some cause })
def lockedOut : State := ask 7 [0] (inChan 0 .lockedOut base)
theorem witness_TripsReset : (trippedBy .zoneTrip).configured = true ∧ (trippedBy .zoneTrip).serves 6 [0]
    ∧ (trippedBy .zoneTrip).fuel? 0 = some coal ∧ ((trippedBy .zoneTrip).chan 0).state = .tripped
    ∧ ((trippedBy .zoneTrip).zone 0).state ≠ .tripped ∧ (trippedBy .zoneTrip).cleared 0 coal
    ∧ ((inZone 0 .tripped (trippedBy .zoneTrip)).zone 0).state = .tripped
    ∧ ¬ (trippedBy .feederFault).cleared 0 coal
    ∧ lockedOut.serves 7 [0] ∧ (lockedOut.chan 0).state = .lockedOut ∧ (lockedOut.zone 0).state = .dark
    ∧ ((inZone 0 .lit lockedOut).zone 0).state ≠ .dark := by
  refine ⟨by decide +kernel, ⟨rfl, by decide +kernel⟩, by decide +kernel, by decide +kernel, by decide +kernel, ?_,
    by decide +kernel, ?_, ⟨rfl, by decide +kernel⟩, by decide +kernel, by decide +kernel, by decide +kernel⟩
  · have h : ((trippedBy .zoneTrip).chan 0).cause = some .zoneTrip := by decide +kernel
    unfold State.cleared; rw [h]; decide +kernel
  · have h : ((trippedBy .feederFault).chan 0).cause = some .feederFault := by decide +kernel
    unfold State.cleared; rw [h]; decide +kernel
theorem test_reset_trip : ((after (.resetTrip 0) (trippedBy .zoneTrip)).chan 0).state = .off
    ∧ ((after (.resetTrip 0) (trippedBy .feederFault)).chan 0).state = .tripped := by decide +kernel
theorem test_release_lockout : ((after (.releaseLockout 0) lockedOut).chan 0).state = .off
    ∧ ((after (.releaseLockout 0) (inZone 0 .lit lockedOut)).chan 0).state = .lockedOut := by decide +kernel
theorem witness_TripsReset_refused : (ask 6 [8] base).serves 6 [8] ∧ 8 ≤ (8 : Word).toNat
    ∧ (ask 7 [7] base).serves 7 [7] ∧ (7 : Word).toNat = (7 : Chan).val ∧ (ask 7 [7] base).chanCfg 7 = .unused
    ∧ (ask 6 [1] base).serves 6 [1] ∧ (ask 6 [1] base).chanCfg 1 = .fuel { coal with ncv := 0 }
    ∧ (ask 7 [2] base).serves 7 [2] ∧ (ask 7 [2] base).fan? 2 = some coolFan := by unfold State.serves; decide +kernel
/-- A fan with a due clock. -/
def fanDue (st : ChState) : State :=
  (inChan 2 st base).mapChan 2 fun ch => { ch with
    startClock := some 100000000, lowFlowClock := some 100000000, setpoint := 3000 }
theorem witness_FansStartAndFail : (ask 4 [2] base).configured = true ∧ (ask 4 [2] base).serves 4 [2]
    ∧ (2 : Word).toNat = (2 : Chan).val ∧ (ask 4 [2] base).fan? 2 = some coolFan ∧ (ask 4 [2] base).decides = true
    ∧ ((ask 4 [2] base).chan 2).state = .off ∧ ((ask 4 [2] base).chan 2).inFlight = none
    ∧ (ask 6 [2] (inChan 2 .fanFault base)).serves 6 [2]
    ∧ ((ask 6 [2] (inChan 2 .fanFault base)).chan 2).state = .fanFault
    ∧ ((fanDue .starting).chan 2).state = .starting ∧ ((fanDue .starting).chan 2).startClock = some 100000000
    ∧ ((fanDue .running).chan 2).state = .running ∧ ((fanDue .running).chan 2).lowFlowClock = some 100000000 := by
  unfold State.serves; decide +kernel
theorem witness_FansStartAndFail_refused : (ask 4 [2] (inChan 2 .fanFault base)).serves 4 [2]
    ∧ ((ask 4 [2] (inChan 2 .fanFault base)).chan 2).state ≠ .off ∧ (ask 4 [2] listening).serves 4 [2]
    ∧ (ask 4 [2] listening).decides = false ∧ (ask 6 [2] base).serves 6 [2] ∧ ((ask 6 [2] base).chan 2).state ≠ .fanFault
    ∧ (ask 6 [2] listening).serves 6 [2] ∧ (ask 6 [2] listening).decides = false
    ∧ (ask 6 [2] listening).fan? 2 = some coolFan := by unfold State.serves; decide +kernel
theorem witness_FansStartAndFail_flow : ((fanDue .starting).chan 2).state = .starting
    ∧ ((inChan 3 .starting base).chan 3).state = .starting ∧ base.fan? 3 = some { coolFan with role := .fixed }
    ∧ ((inChan 3 .starting base).chan 3).inFlight = none
    ∧ clampNat coolFan.fbase coolFan.fmin coolFan.fmax ≠ coolFan.fmin
    ∧ listening.pt.mode = .starting ∧ (listening.chan 2).state = .off ∧ (listening.chan 2).adopted = false
    ∧ coolFan.fmin ≤ 2 * (600 : Word).toNat ∧ 2 * (599 : Word).toNat < coolFan.fmin := by decide +kernel
/-- 03 R60, R62, 06 R116: half of Fmin 1200 starts a fan, a FIXED one at its base, and adopts it in the listen. -/
theorem test_flow_sample : ((after (.sampleRecord 2 2 600 0 500) (fanDue .starting)).chan 2).setpoint = 1200
    ∧ ((after (.sampleRecord 2 2 599 0 500) (fanDue .starting)).chan 2).state = .starting
    ∧ ((after (.sampleRecord 3 2 600 0 500) (inChan 3 .starting base)).chan 3).setpoint = 4000
    ∧ ((after (.sampleRecord 2 2 600 0 500) listening).chan 2).setpoint = 600
    ∧ ((after (.sampleRecord 2 2 600 0 500) listening).chan 2).state = .running := by decide +kernel
theorem test_fan_start_clock : ((after (.fanStartClockExpiry 2) (fanDue .starting)).chan 2).state = .fanFault := by
  decide +kernel
theorem test_fan_low_flow : ((after (.fanLowFlowExpiry 2) (fanDue .running)).chan 2).setpoint = 3000
    ∧ ((after (.fanLowFlowExpiry 2) (fanDue .running)).chan 2).state = .fanFault := by decide +kernel
theorem witness_ShutChannelsStay : (base.chan 0).shutReleased = false ∧ (base.chan 0).state ≠ .proving
    ∧ (base.chan 0).proof = none := by decide +kernel

/-! ### The zones -/

/-- ZONE_PURGE of zone 0 in work with an air supply. -/
def purging (w : Word) (st : ZoneState) (supply : Nat) : State :=
  (ask 8 [w] (inZone 0 st base)).mapFiring 0 fun x => { x with air := { x.air with supply := supply } }
/-- A first-out record that is not clear. -/
def marked (s : State) : State :=
  s.mapZone 0 fun r => { r with firstOut := some ⟨⟨.hostTrip, 1, none, none, Stamp.zero, 1, none⟩, [], 0⟩ }
theorem witness_ZoneRequests : (purging 3 .dark 1500).configured = true ∧ (purging 3 .dark 1500).serves 8 [3]
    ∧ (purging 3 .dark 1500).participates 3 = false ∧ (purging 4 .dark 1500).serves 8 [4]
    ∧ (purging 0 .dark 1500).serves 8 [0] ∧ (0 : Word).toNat = (0 : Zone).val
    ∧ (purging 0 .dark 1500).participates 0 = true ∧ ((purging 0 .lit 1500).zone 0).state ≠ .dark
    ∧ (purging 0 .dark 1500).pt.mode ≠ .starting ∧ ((purging 0 .dark 1500).zone 0).state = .dark
    ∧ ((purging 0 .dark 1500).zone 0).firstOut = none ∧ ((marked (purging 0 .dark 1500)).zone 0).firstOut ≠ none
    ∧ (purging 0 .dark 1500).fuelClosed 0 = true ∧ (purging 0 .dark 1500).esd = false
    ∧ (purging 0 .dark 1500).zoneParam 0 ZoneCfg.purgeAir = 1500
    ∧ ((purging 0 .dark 1500).firing 0).air.supply = 1500 ∧ ((purging 0 .dark 1499).firing 0).air.supply = 1499
    ∧ (ask 9 [0] base).serves 9 [0] ∧ (ask 9 [0] base).participates 0 = true
    ∧ (ask 9 [3] base).serves 9 [3] ∧ (∀ z : Zone, (3 : Word).toNat = z.val → (ask 9 [3] base).participates z = false)
    ∧ (ask 9 [4] base).serves 9 [4] ∧ ∀ z : Zone, (4 : Word).toNat ≠ z.val := by
  unfold State.serves; decide +kernel
theorem test_purge_air : ((after (.zonePurge 0) (purging 0 .dark 1500)).zone 0).purgeTimer = some 130000000
    ∧ (after (.zonePurge 0) (purging 0 .dark 1499)).sp.buffer = .ready ⟨8, .refused .permissive, 0, []⟩ := by
  decide +kernel
theorem test_zone_reset_clears : ((after (.zoneReset 0) (marked (ask 9 [0] base))).zone 0).firstOut = none
    ∧ (after (.zoneReset 0) (marked (ask 9 [0] (inZone 0 .lit base)))).sp.buffer
      = .ready ⟨9, .refused .state, 0, []⟩ := by decide +kernel
/-- A zone in a state with each of its timers running out at `d`. -/
def timed (st : ZoneState) (d : Nat) : State := base.mapZone 0 fun r => { r with
  state := st, purgeTimer := some d, readyTimer := some d, flameTimer := some d, airClock := some d,
  tripHold := .running d }
/-- Both own fuel valves of zone 0 reported closed. -/
def valvesShut (s : State) : State :=
  (s.mapChan 0 fun ch => { ch with valvePt := pointAt 1 }).mapChan 4 fun ch => { ch with valvePt := pointAt 1 }
/-- A channel whose proving window runs out at `d`. -/
def provingTill (d : Nat) : State :=
  (inChan 0 .proving (inZone 0 .lit base)).mapChan 0 fun ch => { ch with proof := some ⟨false, false, true, d⟩, shutReleased := true }
theorem witness_ZoneTimers : ((timed .purging 100000000).zone 0).state = .purging
    ∧ ((timed .purging 100000000).zone 0).purgeTimer = some 100000000
    ∧ ((timed .ready 100000000).zone 0).state = .ready ∧ ((timed .ready 100000000).zone 0).readyTimer = some 100000000
    ∧ ((timed .tripped 100000000).zone 0).state = .tripped
    ∧ ((timed .tripped 100000000).zone 0).tripHold = .running 100000000 ∧ (timed .tripped 100000000).now = 100000000
    ∧ (valvesShut (timed .tripped 100000000)).valvesClosed 0 = true
    ∧ (timed .tripped 100000000).valvesClosed 0 = false
    ∧ (provingTill 100000000).configured = true ∧ (provingTill 100000000).fuel? 0 = some coal
    ∧ ((provingTill 100000000).chan 0).proof = some ⟨false, false, true, 100000000⟩
    ∧ ((provingTill 100000000).chan 0).state = .proving := by decide +kernel
theorem test_purge_ends : ((after (.purgeTimerExpiry 0) (timed .purging 100000000)).zone 0).state = .ready
    ∧ ((after (.purgeTimerExpiry 0) (timed .purging 100000001)).zone 0).state = .purging := by decide +kernel
theorem test_ready_window_ends : ((after (.readyWindowExpiry 0) (timed .ready 100000000)).zone 0).state = .dark
    ∧ ((after (.readyWindowExpiry 0) (timed .ready 100000001)).zone 0).state = .ready := by decide +kernel
theorem test_hold_ends : ((after (.tripHoldExpiry 0) (valvesShut (timed .tripped 100000000))).zone 0).state = .dark
    ∧ ((after (.tripHoldExpiry 0) (timed .tripped 100000000)).zone 0).tripHold = .expired := by decide +kernel
/-- Zone 0 TRIPPED with its hold expired, channel 4's valve closed. -/
def holdOver : State :=
  ((inZone 0 .tripped base).mapZone 0 fun r => { r with tripHold := .expired }).mapChan 4 fun ch =>
    { ch with valvePt := pointAt 1 }
theorem witness_ZoneTimers_valve : holdOver.configured = true ∧ holdOver.fuel? 0 = some coal
    ∧ (holdOver.zone 0).state = .tripped ∧ (holdOver.zone 0).tripHold = .expired
    ∧ (∀ d : Chan, d ≠ 0 → holdOver.ownFuel 0 d = true → (holdOver.chan d).valvePt.closed = true)
    ∧ (holdOver.chan 0).valvePt.closed = false ∧ holdOver.ownFuel 0 0 = true
    ∧ holdOver.fuel? 4 = some { coal with rank := 2, trim := true, igniter := false } := by decide +kernel
theorem test_valve_ends_hold : ((after (.sampleRecord 0 4 1 0 500) holdOver).zone 0).state = .dark
    ∧ ((after (.sampleRecord 0 4 0 0 500) holdOver).zone 0).state = .tripped
    ∧ ((after (.sampleRecord 4 4 1 0 500) holdOver).zone 0).state = .tripped := by decide +kernel
theorem test_light_off_fails : ((after (.provingWindowExpiry 0) (provingTill 100000000)).chan 0).cause = some .lightOffFail
    ∧ ((after (.provingWindowExpiry 0) (provingTill 100000001)).chan 0).state = .proving := by decide +kernel
/-- A LIT zone with its timers due and channel 0 open. -/
def open0 (s : State) : State := s.mapChan 0 fun ch => { ch with shutReleased := true, state := .running }
/-- ZONE_TRIP in work for zone 0 in a state. -/
def toTrip (st : ZoneState) : State := ask 10 [0] (inZone 0 st base)
theorem witness_LocalTrips : ((open0 (timed .lit 100000000)).zone 0).state = .lit
    ∧ ((open0 (timed .lit 100000000)).zone 0).flameTimer = some 100000000
    ∧ (open0 (timed .lit 100000000)).ownFuel 0 0 = true
    ∧ ((open0 (timed .lit 100000000)).chan 0).shutReleased = true ∧ (∀ d : Chan, ¬ d < 0)
    ∧ ((open0 (timed .lit 100000000)).zone 0).airClock = some 100000000
    ∧ (toTrip .purging).serves 10 [0] ∧ (toTrip .purging).participates 0 = true ∧ (0 : Word).toNat = (0 : Zone).val
    ∧ ((toTrip .purging).zone 0).state = .purging ∧ ((toTrip .ready).zone 0).state = .ready
    ∧ ((toTrip .lit).zone 0).state = .lit ∧ ((toTrip .lit).zone 0).epoch = none
    ∧ ((toTrip .lit).zone 0).firstOut = none ∧ ((marked (toTrip .lit)).zone 0).firstOut ≠ none
    ∧ (toTrip .lit).pt.mode ≠ .unconfigured ∧ (toTrip .lit).li.tx = []
    ∧ ({ toTrip .lit with li := allTrips.li } : State).li.tx.length = 12
    ∧ (ask 10 [3] base).serves 10 [3]
    ∧ ∀ z : Zone, (3 : Word).toNat = z.val → (ask 10 [3] base).participates z = false := by
  unfold State.serves; decide +kernel
theorem test_flame_failure : ((after (.flameFailureExpiry 0) (open0 (timed .lit 100000000))).zone 0).state = .tripped
    ∧ ((after (.flameFailureExpiry 0) (open0 (timed .lit 100000000))).chan 0).cause = some .zoneTrip
    ∧ (after (.flameFailureExpiry 0) (open0 (timed .lit 100000000))).li.tx.any (fun f => f.cls == .trip) = true := by
  decide +kernel
theorem test_air_failure : ((after (.airFailureExpiry 0) (open0 (timed .lit 100000000))).zone 0).epoch = some 1
    ∧ ((after (.airFailureExpiry 0) (open0 (timed .lit 100000001))).zone 0).state = .lit := by decide +kernel
theorem test_host_trip : ((after (.zoneTrip 0) (toTrip .ready)).zone 0).firstOut.map (fun r => r.entry.cause)
      = some .hostTrip
    ∧ (after (.zoneTrip 0) (toTrip .dark)).sp.buffer = .ready ⟨10, .refused .state, 0, []⟩ := by decide +kernel
/-- 04 R73: a zone lost while its channel's IGNITER on is only pending orders IGNITER off in its place. -/
def pendingOn : State :=
  ((inChan 0 .proving (inZone 0 .lit base)).mapChan 0 fun ch => { ch with
    inFlight := some ⟨.setFeed 0, 7, 1, 0, none⟩, queued := some (.igniter true)
    proof := some ⟨true, false, false, 100000009⟩ })
theorem test_zone_lost_orders_igniter_off : ((pendingOn.loseZone 0).chan 0).queued = some (.igniter false)
    ∧ ((pendingOn.loseZone 0).chan 0).feedDue = true ∧ ((pendingOn.loseZone 0).chan 0).state = .off := by
  decide +kernel
/-- A FRESH peer that holds a fuel line of zone 0 open. -/
def peerOpen (s : State) : State := s.mapPeer 0 fun r => { r with
  fresh := .fresh
  zones := [⟨0, .lit, none, none, none, true⟩]
  chans := [.fuel ⟨0, 0, .running, 0, false, true, 300, 1500, 1500, 1495, 1050, true⟩] }
/-- FLAME_UNSTABLE with the oldest of three flickers `n` bit times ago. -/
def flickering (n : Nat) : State := (condTrue (idFlameUnstable 0) base).mapZone 0 fun r => { r with
  flickers := [⟨99000000, Stamp.zero⟩, ⟨95000000, Stamp.zero⟩, ⟨100000000 - n, Stamp.zero⟩] }
theorem witness_FlameTimers : ((timed .lit 100000000).zone 0).state = .lit
    ∧ ((timed .lit 100000000).zone 0).flameTimer = some 100000000 ∧ (timed .lit 100000000).ownFuelOpen 0 = false
    ∧ (timed .lit 100000000).fuelClosed 0 = true ∧ (peerOpen (timed .lit 100000000)).fuelClosed 0 = false
    ∧ (flickering 15000000).configured = true ∧ (flickering 15000000).cond (idFlameUnstable 0) = true
    ∧ ((flickering 15000000).zone 0).flickers = [⟨99000000, Stamp.zero⟩, ⟨95000000, Stamp.zero⟩, ⟨85000000, Stamp.zero⟩]
    ∧ (toTrip .dark).serves 10 [0] ∧ ((toTrip .tripped).zone 0).state = .tripped := by
  unfold State.serves; decide +kernel
theorem test_flame_lost_mark : ((after (.flameFailureExpiry 0) (peerOpen (timed .lit 100000000))).zone 0).flameLost = true
    ∧ ((after (.flameFailureExpiry 0) (timed .lit 100000000)).zone 0).state = .dark := by decide +kernel
/-- Zone 0 in a state with its view proven or not, its flame timer running, two flickers, and channel 0's SHUT line
released in an igniter proof. -/
def burning (st : ZoneState) (view : Bool) (old : Nat) : State :=
  ((inChan 0 .proving base).mapChan 0 fun ch => { ch with
    proof := some ⟨true, true, true, 100000009⟩, shutReleased := true }).mapZone 0 fun r => { r with
      state := st, view := view, flameTimer := some 100000009, flameLost := true
      flickers := [⟨99000000, Stamp.zero⟩, ⟨100000000 - old, Stamp.zero⟩] }
theorem witness_FlameTimers_samples : (burning .lit false 15000000).configured = true
    ∧ (burning .lit false 15000000).decides = true ∧ (burning .lit false 15000000).hasScanner 0 = true
    ∧ ((16 : Byte).toNat = 16 + (0 : Zone).val) ∧ ((burning .lit false 15000000).zone 0).view = false
    ∧ ((burning .lit false 15000000).zone 0).flameTimer ≠ none ∧ ((inZone 0 .lit base).zone 0).flameTimer = none
    ∧ ((burning .ready false 0).zone 0).state = .ready ∧ ((burning .dark false 0).zone 0).state = .dark
    ∧ (peerOpen (burning .dark false 0)).peerReports 0 .lit = true
    ∧ ((burning .lit true 0).zone 0).view = true ∧ (∀ n, ((burning .lit true 0).peer n).showsFlame 0 = false)
    ∧ (burning .lit true 0).fuelClosed 0 = false
    ∧ ((inZone 0 .lit base).mapZone 0 fun r => { r with view := true }).fuelClosed 0 = true
    ∧ (burning .ready false 0).ownFuel 0 0 = true
    ∧ ((burning .ready false 0).chan 0).proof = some ⟨true, true, true, 100000009⟩ := by decide +kernel
/-- 04 R71: the flame passes the igniter proof and lights the zone; R74: the third flicker in 60 s is FLAME_UNSTABLE, and
a loss starts the flame timer of 2000 ms, or R76 darkens a zone without open fuel. -/
theorem test_flame_samples : ((after (.sampleRecord 16 6 1 0 500) (burning .ready false 0)).zone 0).state = .lit
    ∧ ((after (.sampleRecord 16 6 1 0 500) (burning .ready false 0)).chan 0).state = .running
    ∧ (after (.sampleRecord 16 6 1 0 500) (burning .lit false 15000000)).cond (idFlameUnstable 0) = true
    ∧ (after (.sampleRecord 16 6 1 0 500) (burning .lit false 15000001)).cond (idFlameUnstable 0) = false
    ∧ ((after (.sampleRecord 16 6 0 0 500) (burning .lit true 0)).zone 0).flameTimer = some 100500000
    ∧ ((after (.sampleRecord 16 6 0 0 500) ((inZone 0 .lit base).mapZone 0 fun r =>
        { r with view := true })).zone 0).state = .dark := by decide +kernel
/-- 04: three flickers make FLAME_UNSTABLE; it ends when the oldest is 60 s old. -/
theorem test_flickers_60_s : (after (.flickerExpiry 0) (flickering 14999999)).cond (idFlameUnstable 0) = true
    ∧ (after (.flickerExpiry 0) (flickering 15000000)).cond (idFlameUnstable 0) = false := by decide +kernel
theorem witness_EsdTrips : (inZone 0 .lit base).esd = false ∧ (inZone 0 .lit base).decides = true
    ∧ (inZone 0 .lit base).participates 0 = true ∧ ((inZone 0 .lit base).zone 0).state.trippable = true
    ∧ ((inZone 0 .tripped base).zone 0).state.trippable = false ∧ ((inZone 0 .dark base).zone 0).state.trippable = false
    ∧ ((inZone 0 .lit base).zone 0).firstOut = none ∧ (inZone 0 .lit base).participates 3 = false
    ∧ listening.esd = false ∧ listening.decides = false ∧ State.reset.esd = true := by decide +kernel
theorem witness_EsdTrips_count : (inZone 0 .lit base).sr.zoneTrips ≤ 65535
    ∧ ({ inZone 0 .lit base with sr := { base.sr with zoneTrips := 65535 } } : State).sr.zoneTrips ≤ 65535 := by
  decide +kernel
theorem test_esd : ((after .esdAssertion (inZone 0 .purging base)).zone 0).state = .tripped
    ∧ (after .esdAssertion base).esd = true ∧ (after .esdRelease State.reset).esd = false := by decide +kernel
/-- A TRIP of station 1 for zone 0 at the head of the receive queue, with its epoch. -/
def tripFrame (epoch : Word) : RxFrame := ⟨.trip, 0, 0, [1, epoch, 0]⟩
def hit (epoch : Word) (st : ZoneState) : State :=
  (heard (tripFrame epoch) (inZone 0 st base)).mapZone 0 fun r => { r with epoch := some 7 }
theorem witness_PeerTrips : (hit 8 .lit).heads .trip (tripFrame 8)
    ∧ parseTrip (tripFrame 8).payload = some ⟨0, 8, .flameFailure, none⟩
    ∧ (hit 8 .lit).decides = true ∧ (hit 8 .lit).participates 0 = true ∧ ((hit 8 .lit).zone 0).epoch = some 7
    ∧ serialNewer (8 : Word) 7 = true ∧ serialNewer (7 : Word) 7 = false ∧ ((hit 8 .lit).zone 0).state.trippable = true
    ∧ ((hit 8 .dark).zone 0).state.trippable = false ∧ (hit 7 .lit).heads .trip (tripFrame 7)
    ∧ ((hit 8 .lit).zone 0).firstOut = none
    ∧ (heard ⟨.trip, 0, 0, [1]⟩ base).heads .trip ⟨.trip, 0, 0, [1]⟩ ∧ parseTrip [1] = none
    ∧ (heard (tripFrame 8) listening).heads .trip (tripFrame 8) ∧ (heard (tripFrame 8) listening).decides = false
    ∧ parseTrip [0x0301, 8, 0] = some ⟨3, 8, .flameFailure, none⟩ ∧ base.participates 3 = false := by
  unfold State.heads; decide +kernel
theorem witness_PeerTrips_entries : ((marked (hit 8 .dark)).zone 0).firstOut
      = some ⟨⟨.hostTrip, 1, none, none, Stamp.zero, 1, none⟩, [], 0⟩
    ∧ ((hit 8 .dark).zone 0).state = .dark ∧ ((hit 8 .dark).zone 0).firstOut = none
    ∧ ((hit 8 .tripped).zone 0).state = .tripped ∧ ((hit 8 .tripped).zone 0).firstOut = none := by decide +kernel
/-- 04 R82, R84: a later entry joins a record that is set; in DARK a clear record stays clear. -/
theorem test_peer_trip_entries :
    ((after .tripTaken (marked (hit 8 .dark))).zone 0).firstOut.map (fun r => r.later.map CauseEntry.cause)
      = some [.peerTrip]
    ∧ ((after .tripTaken (hit 8 .dark)).zone 0).firstOut = none := by decide +kernel
theorem test_peer_trip : ((after .tripTaken (hit 8 .lit)).zone 0).state = .tripped
    ∧ ((after .tripTaken (hit 8 .dark)).zone 0).epoch = some 8
    ∧ ((after .tripTaken (hit 7 .dark)).zone 0).state = .dark := by decide +kernel

/-! ### Demand, allocation and the cooler -/

theorem witness_DemandSet : (ask 3 [4, 9] base).serves 3 [4, 9] ∧ 4 ≤ (4 : Word).toNat
    ∧ (ask 3 [3, 15000] base).serves 3 [3, 15000] ∧ (3 : Word).toNat = (3 : Zone).val
    ∧ (ask 3 [3, 15001] base).serves 3 [3, 15001] ∧ (ask 3 [0, 9] listening).serves 3 [0, 9]
    ∧ (ask 3 [0, 9] listening).pt.mode = .starting ∧ (ask 3 [3, 9] base).pt.mode ≠ .starting
    ∧ ((ask 3 [3, 9] base).demand 3).known = none ∧ (ask 3 [3, 9] base).li.tx.length < 12
    ∧ (ask 3 [3, 9] allTrips).serves 3 [3, 9] ∧ 12 ≤ (ask 3 [3, 9] allTrips).li.tx.length
    ∧ (ask 3 [3, 9] allTrips).li.tx.any (replaceable .demand (demandWords 3 ⟨9, 1, 1⟩)) = false
    ∧ (∀ g ∈ (ask 3 [3, 9] allTrips).li.tx, g.inSend = true ∨ g.cls.code ≤ 3)
    ∧ (queued [waiting .demand [0x0300] 0] base).li.tx.any (replaceable .demand (demandWords 3 ⟨9, 1, 1⟩)) = true := by
  unfold State.serves; decide +kernel
theorem test_demand_frame : (after (.setDemand 3 9) (ask 3 [3, 9] base)).li.tx.map TxFrame.cls = [.demand]
    ∧ ((after (.setDemand 3 9) (ask 3 [3, 9] allTrips)).demand 3).unannounced = true := by decide +kernel
theorem test_demand_clamped :
    (after (.setDemand 3 15001) (ask 3 [3, 15001] base)).sp.buffer = .ready ⟨3, .clamped, 15000, []⟩
    ∧ (after (.setDemand 3 15000) (ask 3 [3, 15000] base)).sp.buffer = .ready ⟨3, .ok, 15000, []⟩ := by decide +kernel
/-- A DEMAND of target 12000 under epoch 5 by setter `n`, against a held demand of epoch 5 by station 2. -/
def demandFrame (n : Station) : RxFrame := ⟨.demand, 0, 0, demandWords 0 ⟨12000, 5, n⟩⟩
def offeredDemand (n : Station) : State :=
  (heard (demandFrame n) base).mapDemand 0 fun d => { d with known := some ⟨9000, 5, 1⟩, dEff := 9000 }
/-- A demand of 12000 held at `d`, its slew clock due. -/
def slewing (d : Nat) : State := base.mapDemand 0 fun r => { r with
  known := some ⟨12000, 5, 1⟩, dEff := d, slewClock := some 100000000 }
theorem witness_DemandFollowed : (offeredDemand 2).heads .demand (demandFrame 2)
    ∧ parseDemand (demandFrame 2).payload = some (0, ⟨12000, 5, 2⟩)
    ∧ ((offeredDemand 2).demand 0).known = some ⟨9000, 5, 1⟩ ∧ (1 : Station) < 2 ∧ ¬ (1 : Station) < 0
    ∧ (offeredDemand 0).heads .demand (demandFrame 0) ∧ parseDemand (demandFrame 0).payload = some (0, ⟨12000, 5, 0⟩)
    ∧ (heard (demandFrame 2) base).heads .demand (demandFrame 2)
    ∧ ((heard (demandFrame 2) base).demand 0).known = none
    ∧ ((slewing 11980).demand 0).known = some ⟨12000, 5, 1⟩ ∧ ((slewing 11980).demand 0).slewClock = some 100000000
    ∧ (slewing 11980).zoneParam 0 ZoneCfg.slew = 20 := by unfold State.heads; decide +kernel
theorem witness_DemandFollowed_bad : (heard ⟨.demand, 0, 0, [1]⟩ base).heads .demand ⟨.demand, 0, 0, [1]⟩
    ∧ parseDemand [1] = none := by unfold State.heads; decide +kernel
theorem test_higher_setter : ((after .demandTaken (offeredDemand 2)).demand 0).known = some ⟨12000, 5, 2⟩
    ∧ ((after .demandTaken (offeredDemand 0)).demand 0).known = some ⟨9000, 5, 1⟩ := by decide +kernel
theorem test_slew_stops : ((after (.demandSlewStep 0) (slewing 11980)).demand 0).slewClock = none
    ∧ ((after (.demandSlewStep 0) (slewing 11979)).demand 0).slewClock = some 100250000
    ∧ ((after (.demandSlewStep 0) (slewing 12030)).demand 0).dEff = 12010 := by decide +kernel
/-- The zone of the worked cases of 05 with a supply, its first channel's actual heats, and its trim channel. -/
def worked (supply a1 p1 : Nat) : PassInput :=
  ⟨12000, 1100, supply,
    [⟨1, 0, 300, 1500, a1, 0, false, 1050, 0⟩, ⟨1, 1, 1500, 9000, 0, 2, true, 980, 0⟩,
      ⟨2, 0, 800, 4000, p1, 1, false, 950, 0⟩, ⟨2, 1, 200, 1000, 1000, 0, false, 1000, 0⟩], []⟩
/-- Zone 0 LIT with a pass of the second worked case in progress, its period clock and unmet clock due. -/
def passing (st : ZoneState) (pass : Option Pass) : State := (inZone 0 st base).mapFiring 0 fun x => { x with
  pass := pass, period := some 100000000, unmetClock := some 100000000 }
/-- A RUNNING own coal channel, so that passes run. -/
def ready0 (pass : Option Pass) : State := open0 (passing .lit pass)
theorem witness_PassesRun : ((ready0 none).firing 0).period = some 100000000 ∧ (ready0 none).passable 0 = true
    ∧ ((ready0 none).firing 0).pass = none ∧ ((ready0 (some ⟨worked 7000 1500 2440, false⟩)).firing 0).pass ≠ none
    ∧ ((ready0 (some ⟨worked 7000 1500 2440, false⟩)).zone 0).state = .lit
    ∧ ((ready0 (some ⟨worked 7000 1500 2440, false⟩)).firing 0).dirty = false
    ∧ (ready0 none).configured = true ∧ ((ready0 none).firing 0).unmetClock = some 100000000 := by decide +kernel
/-- Of the pass's four allocations two are the own station's, one of a channel that runs. -/
theorem witness_PassesRun_delivers :
    ((worked 7000 1500 2440).run.allocs.filter fun a =>
      (ready0 none).isOwn a.member.station).map (fun a => a.member.chan) = [0, 1]
    ∧ ((ready0 none).chan 0).state = .running ∧ ((ready0 none).chan 1).state ≠ .running
    ∧ (ready0 none).fuel? 0 = some coal := by decide +kernel
/-- A pass in progress with another owed, a doomed pass, and ZONE_TRIP in work over a pass of a LIT zone. -/
def owing : State := (ready0 (some ⟨worked 7000 1500 2440, false⟩)).mapFiring 0 fun x => { x with dirty := true }
theorem witness_PassesRun_owed : (owing.firing 0).pass = some ⟨worked 7000 1500 2440, false⟩
    ∧ (owing.zone 0).state = .lit ∧ (owing.firing 0).dirty = true
    ∧ ((ready0 (some ⟨worked 7000 1500 2440, true⟩)).firing 0).pass = some ⟨worked 7000 1500 2440, true⟩
    ∧ ((passing .dark (some ⟨worked 7000 1500 2440, false⟩)).zone 0).state ≠ .lit
    ∧ (ask 10 [0] owing).serves 10 [0] ∧ (0 : Word).toNat = (0 : Zone).val ∧ (ask 10 [0] owing).participates 0 = true
    ∧ (ask 10 [0] owing).configured = true := by unfold State.serves; decide +kernel
/-- 05 R97, R112. -/
theorem test_pass_owed : (((after (.passCompletion 0) owing).firing 0).pass.map Pass.doomed) = some false
    ∧ ((after (.passCompletion 0) (ready0 (some ⟨worked 7000 1500 2440, true⟩))).firing 0).air.passCount = 0
    ∧ (((after (.zoneTrip 0) (ask 10 [0] owing)).firing 0).pass.map Pass.doomed) = some true := by decide +kernel
/-- 1500 is above Hmax_eff 1200 of the channel, which holds 1200. -/
theorem test_pass_delivers : ((after (.passCompletion 0) ((ready0 (some ⟨worked 7000 1500 2440, false⟩)).mapChan 0 fun ch =>
    { ch with hmin := 300, hmaxEff := 1200, alloc := 300 })).chan 0).alloc = 1200 := by decide +kernel
theorem test_unreachable : (after (.demandUnreachableExpiry 0) (ready0 none)).cond (idDemandUnreachable 0) = true := by
  decide +kernel
theorem test_shortfall_held :
    (after (.passCompletion 0) (ready0 (some ⟨worked 7000 1500 2440, false⟩))).cr.held.get 0 = 5994 := by decide +kernel
/-- The allocations of a pass by station and channel. -/
def heats (p : PassInput) : List (Nat × Nat × Nat) :=
  p.run.allocs.map fun a => (stationNumber a.member.station, a.member.chan.val, a.heat)
/-- 05, first worked case: A1 1500, A2 1000, P1 4000, C1 5630. -/
theorem test_worked_full_air : heats (worked 15000 1420 3950) = [(2, 0, 1500), (3, 1, 1000), (3, 0, 4000), (2, 1, 5630)]
    ∧ ((worked 15000 1420 3950).balance (worked 15000 1420 3950).run 1) =
      ⟨15000, 3020, 13082, 6370, 0, 12000, false, false, false, false, 1⟩ := by decide +kernel
/-- 05, second worked case: P1 2440, C1 1500, shortfall 5994. -/
theorem test_worked_lost_air : heats (worked 7000 1500 2440) = [(2, 0, 1500), (3, 1, 1000), (3, 0, 2440), (2, 1, 1500)]
    ∧ (worked 7000 1500 2440).shortfall (worked 7000 1500 2440).run = 5994 := by decide +kernel
/-- 05, worked division: 99 gives 50 and 49, 98 gives 50 and 48. -/
theorem test_division : divide 201 [101, 100] = [101, 100] ∧ divide 99 [101, 100] = [50, 49]
    ∧ divide 98 [101, 100] = [50, 48] := by decide +kernel
theorem witness_DivisionExact : 99 ≤ [101, 0, 100].sum ∧ [101, 0, 100][1]? = some 0
    ∧ (divide 99 [101, 0, 100])[1]? = some 0 := by decide +kernel
/-- A zone without a trim channel whose supply exceeds its minimum air. -/
def untrimmed : PassInput := { worked 7000 1500 2440 with allocatable := (worked 7000 1500 2440).allocatable.filter fun m => !m.trim }
theorem witness_AllocationBounds : untrimmed.isShort = false ∧ untrimmed.trim = none
    ∧ (∀ m ∈ (worked 7000 1500 2440).allocatable, m.hmin ≤ m.hmaxEff)
    ∧ (worked 7000 1500 2440).run.allocs ≠ [] ∧ (worked 7000 1500 2440).isShort = false
    ∧ (worked 7000 1500 2440).trim.map (fun t => (t.station, t.chan, t.hmin, t.hmaxEff)) = some (1, 1, 1500, 9000)
    ∧ (worked 15000 1420 3950).isShort = false ∧ (worked 15000 1420 3950).trim ≠ none := by decide +kernel
/-- The cooler fan of the worked computation of 06 at a setpoint, with a held shortfall, frozen or not. -/
def cooling (prev held : Nat) (frozen : Bool) : State :=
  { (((inChan 2 .running base).mapChan 2 fun ch => { ch with setpoint := prev }).mapDemand 0 fun d =>
      { d with known := some ⟨12000, 1, 1⟩, dEff := 12000 }).mapReg 2 fun r => { r with frozen := frozen } with
    cr := { (base.mapReg 2 fun r => { r with frozen := frozen }).cr with held := upd base.cr.held 0 held } }
/-- The same with T_out 118. -/
def hot (prev held : Nat) (frozen : Bool) : State :=
  (cooling prev held frozen).mapPoint .clinker fun _ => pointAt 118
theorem witness_BedSampleMovesFan : (hot 3990 0 false).configured = true ∧ (hot 3990 0 false).fan? 2 = some coolFan
    ∧ (2 : Byte).toNat = (2 : Chan).val ∧ coolFan.role = .cooler ∧ ((hot 3990 0 false).chan 2).state = .running
    ∧ (hot 3990 0 false).decides = true ∧ coolFan.fmin ≤ coolFan.fmax ∧ ((hot 3990 0 false).demand 0).dEff = 12000
    ∧ (hot 3990 0 false).tOut = some 118 ∧ ((hot 3990 0 false).chan 2).inFlight = none
    ∧ ((hot 3540 0 true).reg 2).frozen = true ∧ (2800 : Nat) < coolFan.pLow
    ∧ ((hot 3990 5994 false).cr.held.get coolFan.zone) = 5994 := by decide +kernel
/-- 06, worked setpoint computation: 3840, 3960, 3960, 4040, 4040, setpoint 4015, slew-limited; and a bed blows
through: at 2800 frozen the setpoint stays at 3540; at 3100 it moves to 3515. -/
theorem test_worked_cooler :
    ((after (.sampleRecord 2 3 5400 0 500) (hot 3990 0 false)).reg 2).last
      = some ⟨960, 3840, 3960, 3960, 4040, 4040, 500, 25⟩
    ∧ ((after (.sampleRecord 2 3 5400 0 500) (hot 3990 0 false)).chan 2).setpoint = 4015
    ∧ ((after (.sampleRecord 2 3 5400 0 500) (hot 4015 5994 false)).chan 2).setpoint = 4040
    ∧ ((after (.sampleRecord 2 3 2800 0 500) (hot 3540 0 true)).chan 2).setpoint = 3540
    ∧ ((after (.sampleRecord 2 3 3100 0 500) (hot 3540 0 true)).chan 2).setpoint = 3515 := by
  decide +kernel
/-- The blow-through clock and the high-temperature clock run out at `d`. -/
def clocked (d : Nat) : State :=
  ({ base with cr := { base.cr with highClock := some d } } : State).mapReg 2 fun r => { r with blowClock := some d }
/-- A RUNNING fan 2 with a bed pressure of 2999. -/
def thin (s : State) : State := (inChan 2 .running s).mapPoint (.bed 2) fun _ => pointAt 2999
theorem witness_CoolerClocks : (clocked 100000000).configured = true ∧ (clocked 100000000).fan? 2 = some coolFan
    ∧ ((clocked 100000000).reg 2).blowClock = some 100000000 ∧ ((clocked 100000001).reg 2).blowClock = some 100000001
    ∧ (clocked 100000000).cr.highClock = some 100000000 ∧ (clocked 100000001).cr.highClock = some 100000001 := by
  decide +kernel
theorem test_blow_through : (after (.blowThroughExpiry 2) (thin (clocked 100000000))).cond (idBedLow 2) = true
    ∧ (after (.clinkerTempHighExpiry) (clocked 100000000)).cond idClinkerHigh = true
    ∧ (after (.clinkerTempHighExpiry) (clocked 100000001)).cond idClinkerHigh = false := by decide +kernel

/-! ### Alarms and the floor view -/

/-- The own list with one entry of CLOCK_LOST (113) of sequence 7 and one of FEED_DEVIATION 0 (16). -/
def listed (st : AlarmState) (cond : Bool) : State :=
  { (base.mapAlarm 113 fun r => { r with cond := cond }).mapAlarm 16 fun r => { r with cond := true } with
    al := { ((base.mapAlarm 113 fun r => { r with cond := cond }).mapAlarm 16 fun r => { r with cond := true }).al with
      list := [⟨113, st, 7, Stamp.zero, none, none, if st = .shelved then some 100000000 else none⟩,
        ⟨16, .activeUnack, 8, Stamp.zero, none, none, none⟩]
      counter := 8 } }
theorem listed_cleared_sound : (listed .clearedUnack false).AlarmSound := by
  refine ⟨by decide, by decide, by decide, ?_, by decide +kernel, by decide +kernel, by decide⟩
  intro e h
  simp only [listed, List.mem_cons, List.not_mem_nil, or_false] at h
  rcases h with rfl | rfl <;> exact ⟨by decide +kernel, rfl⟩
theorem listed_sound (st : AlarmState) (c : Bool) (h : (st = .activeUnack ∧ c = true) ∨ st = .shelved) :
    (listed st c).AlarmSound := by
  obtain ⟨rfl, rfl⟩ | rfl := h
  · refine ⟨by decide, by decide, by decide, ?_, by decide +kernel, by decide +kernel, by decide⟩
    intro e h
    simp only [listed, List.mem_cons, List.not_mem_nil, or_false] at h
    rcases h with rfl | rfl <;> exact ⟨by decide +kernel, rfl⟩
  · refine ⟨by cases c <;> decide, by cases c <;> decide, by cases c <;> decide, ?_, by cases c <;> decide +kernel,
      by cases c <;> decide +kernel, by cases c <;> decide⟩
    intro e h
    simp only [listed, List.mem_cons, List.not_mem_nil, or_false] at h
    rcases h with rfl | rfl
    · rfl
    · exact ⟨by cases c <;> decide +kernel, rfl⟩
theorem witness_AlarmRaised : (listed .activeUnack true).AlarmSound ∧ (listed .activeUnack true).configured = true
    ∧ (listed .activeUnack true).cond 0 = false ∧ (listed .activeUnack true).al.entry? 0 = none
    ∧ alarmPriority 0 = 1 ∧ (listed .activeUnack true).cond 17 = false ∧ (listed .activeUnack true).al.entry? 17 = none
    ∧ (listed .activeUnack true).al.lowCount < 27 :=
  ⟨listed_sound _ _ (.inl ⟨rfl, rfl⟩), by decide, by decide +kernel, by decide +kernel, by decide, by decide +kernel,
    by decide +kernel, by decide +kernel⟩
/-- The 27 ids 16 to 42 of priority 2 and 3 listed, `x` among them in a state with its condition `c` and the others
ACTIVE_UNACK, with the pending ids `pend`. -/
def packed (x : AlarmId) (st : AlarmState) (c : Bool) (pend : List AlarmId) : State :=
  let ids := (allAlarms.drop 16).take 27
  { base with al := { base.al with
    list := ids.map fun i => ⟨i, (if i = x then st else .activeUnack), w16 i.val, Stamp.zero, none, none,
      if i = x ∧ st = .shelved then some 100000000 else none⟩
    counter := 42
    recs := Vector.ofFn fun i => { AlarmRec.initial with
      cond := (ids.contains i && (i != x || c)) || pend.contains i
      waiting := pend.contains i } } }
/-- An entry agrees with its condition, as a test that evaluates. -/
def agreesTest (e : AlarmEntry) (c : Bool) : Bool :=
  match e.state with
  | .activeUnack => c && e.shelveEnd.isNone
  | .activeAcked => c && e.shelveEnd.isNone
  | .clearedUnack => !c && e.shelveEnd.isNone
  | .shelved => e.shelveEnd.isSome
theorem agrees_of_test (e : AlarmEntry) (c : Bool) (h : agreesTest e c = true) : e.agrees c := by
  unfold agreesTest at h
  unfold AlarmEntry.agrees
  cases hs : e.state <;> simp_all
/-- The alarm invariant from tests that evaluate, at a configured station. -/
theorem alarmSound_of_tests (s : State) (hc : s.config ≠ none)
    (h : (s.al.list.map AlarmEntry.id).Nodup ∧ (s.al.list.map AlarmEntry.seq).Nodup ∧ s.al.lowCount ≤ 27
      ∧ s.al.list.all (fun e => agreesTest e (s.cond e.id)) = true
      ∧ ∀ id, (s.alarm id).waiting = (s.cond id && (s.al.entry? id).isNone)
        ∧ ((s.alarm id).waiting = true → alarmPriority id ≠ 1 ∧ s.al.lowCount = 27)) : s.AlarmSound := by
  obtain ⟨hi, hs, hl, ha, hw⟩ := h
  refine ⟨hi, hs, hl, fun e he => agrees_of_test _ _ (List.all_eq_true.mp ha e he), fun id => ?_, fun id => (hw id).2,
    fun h => absurd h hc⟩
  rw [(hw id).1]; simp
theorem packed_sound : (packed 25 .clearedUnack false []).AlarmSound ∧ (packed 20 .clearedUnack false []).AlarmSound
    ∧ (packed 30 .activeAcked true []).AlarmSound ∧ (packed 30 .activeAcked true [92, 61, 109]).AlarmSound
    ∧ (packed 30 .activeUnack true []).AlarmSound ∧ (packed 30 .activeUnack true [92]).AlarmSound
    ∧ (packed 30 .shelved true []).AlarmSound ∧ (packed 30 .shelved false []).AlarmSound := by
  refine ⟨?_, ?_, ?_, ?_, ?_, ?_, ?_, ?_⟩ <;> exact alarmSound_of_tests _ (by decide) (by decide +kernel)
/-- A rise in a full list: a candidate of each rank, and none. -/
theorem witness_AlarmRaised_full : (packed 25 .clearedUnack false []).al.lowCount = 27
    ∧ (packed 25 .clearedUnack false []).cond 61 = false ∧ (packed 25 .clearedUnack false []).al.entry? 61 = none
    ∧ alarmPriority 61 = 2 ∧ alarmPriority 92 = 3 ∧ (packed 25 .clearedUnack false []).configured = true
    ∧ (packed 25 .clearedUnack false []).al.list.map (AlarmEntry.displaceRank · 2)
      = List.replicate 9 3 ++ 0 :: List.replicate 17 3
    ∧ (packed 20 .clearedUnack false []).al.list.map (AlarmEntry.displaceRank · 2)
      = List.replicate 4 3 ++ 1 :: List.replicate 22 3
    ∧ (packed 30 .activeAcked true []).al.list.map (AlarmEntry.displaceRank · 3)
      = List.replicate 14 3 ++ 2 :: List.replicate 12 3
    ∧ (packed 30 .activeUnack true []).al.list.map (AlarmEntry.displaceRank · 2) = List.replicate 27 3
    ∧ (packed 20 .clearedUnack false []).al.list.map (AlarmEntry.displaceRank · 3) = List.replicate 27 3 := by
  decide +kernel
/-- A rise of a listed id, and a fall of a pending one, of an unacknowledged, an acknowledged and a shelved one. -/
theorem witness_AlarmRaised_listed :
    ((packed 25 .clearedUnack false []).al.entry? 25).map AlarmEntry.state = some .clearedUnack
    ∧ (packed 25 .clearedUnack false []).cond 25 = false
    ∧ ((packed 30 .shelved false []).al.entry? 30).map AlarmEntry.state = some .shelved
    ∧ (packed 30 .shelved false []).cond 30 = false ∧ (packed 30 .shelved true []).cond 30 = true
    ∧ (packed 30 .activeUnack true [92]).cond 92 = true ∧ (packed 30 .activeUnack true [92]).al.entry? 92 = none
    ∧ ((packed 30 .activeUnack true []).al.entry? 30).map AlarmEntry.state = some .activeUnack
    ∧ (packed 30 .activeUnack true []).cond 30 = true
    ∧ ((packed 30 .activeAcked true []).al.entry? 30).map AlarmEntry.state = some .activeAcked
    ∧ (packed 30 .activeAcked true []).cond 30 = true ∧ alarmPriority 30 ≠ 1
    ∧ (∀ q, ((packed 30 .activeAcked true []).alarm q).waiting = false)
    ∧ ((packed 30 .activeAcked true [92, 61, 109]).alarm 61).waiting = true
    ∧ ∀ q, ((packed 30 .activeAcked true [92, 61, 109]).alarm q).waiting = true → q ≠ 61 →
      alarmPriority 61 < alarmPriority q ∨ (alarmPriority 61 = alarmPriority q ∧ 61 < q) := by decide +kernel
/-- 07, worked sequence of a full list: 61 takes the place of 25; 92 that of 30, whose condition is true and which joins
the pending set; 109 without a candidate is pending; a place that frees goes to 61 before 109 and 92. -/
theorem test_full_list :
    ((packed 25 .clearedUnack false []).setCond 61 true none).al.list.map AlarmEntry.id
      = (((allAlarms.drop 16).take 27).filter fun i => i != 25) ++ [61]
    ∧ (((packed 30 .activeAcked true []).setCond 92 true none).alarm 30).waiting = true
    ∧ ((packed 30 .activeUnack true []).setCond 109 true none).listFull = true
    ∧ (((packed 30 .activeAcked true [92, 61, 109]).setCond 30 false none).al.list.map AlarmEntry.id).getLast?
      = some 61 := by decide +kernel
/-- The number of the own station, or of station 1, in an ACK_ALARM in work. -/
def acking (o w seq : Word) (s : State) : State := ask 11 [o, w, seq] s
/-- An ACK of station 1 at the head of the receive queue. -/
def ackFrame : RxFrame := ⟨.ack, 0, 0, [0x0271, 7]⟩
theorem witness_AlarmsAcknowledged : (acking 2 113 7 (listed .activeUnack true)).serves 11 [2, 113, 7]
    ∧ stationOf (0 : Word).toNat = none ∧ stationOf (17 : Word).toNat = none ∧ (acking 0 113 7 base).serves 11 [0, 113, 7]
    ∧ stationOf (2 : Word).toNat = some 1 ∧ (listed .activeUnack true).isOwn 1 = true ∧ 114 ≤ (114 : Word).toNat
    ∧ ((listed .activeUnack true).al.entry? 113).map (fun e => (e.seq, e.state)) = some (7, .activeUnack)
    ∧ ((listed .clearedUnack false).al.entry? 113).map (fun e => (e.seq, e.state)) = some (7, .clearedUnack)
    ∧ ((listed .activeAcked true).al.entry? 113).map (fun e => (e.seq, e.state)) = some (7, .activeAcked)
    ∧ ((listed .shelved true).al.entry? 113).map (fun e => (e.seq, e.state)) = some (7, .shelved)
    ∧ (listed .activeUnack true).al.entry? 112 = none
    ∧ (heard ackFrame (listed .activeUnack true)).heads .ack ackFrame ∧ (loByte 0x0271).toNat = (113 : AlarmId).val
    ∧ (heard ⟨.ack, 0, 0, [0x0272, 7]⟩ base).heads .ack ⟨.ack, 0, 0, [0x0272, 7]⟩ ∧ 114 ≤ (loByte 0x0272).toNat
    ∧ (heard ⟨.ack, 0, 0, [0x0271]⟩ base).heads .ack ⟨.ack, 0, 0, [0x0271]⟩ := by
  unfold State.serves State.heads; decide +kernel
theorem witness_AlarmsAcknowledged_sound : (listed .clearedUnack false).AlarmSound := listed_cleared_sound
/-- Station 1 held with a mirror of its alarm 16 of sequence 7. -/
def mirroring (fr : Freshness) (st : AlarmState) : State :=
  acking 1 16 7 { base.mapPeer 0 fun r => { r with fresh := fr, lastSeq := some 9 } with
    fv := { base.fv with view := [⟨0, 16, st, 7, Stamp.zero, true, false⟩] } }
theorem witness_AlarmsAcknowledged_remote : (mirroring .fresh .activeUnack).serves 11 [1, 16, 7]
    ∧ stationOf (1 : Word).toNat = some 0 ∧ (mirroring .fresh .activeUnack).isOwn 0 = false
    ∧ ((mirroring .expired .activeUnack).peer 0).fresh = .expired
    ∧ ((mirroring .fresh .activeUnack).peer 0).fresh = .fresh
    ∧ (mirroring .stale .shelved).fv.mirror? 0 16 = some ⟨0, 16, .shelved, 7, Stamp.zero, true, false⟩
    ∧ (mirroring .fresh .activeUnack).fv.mirror? 0 17 = none := by unfold State.serves; decide +kernel
theorem test_ack_own : ((after (.ackAlarm 2 113 7) (acking 2 113 7 (listed .activeUnack true))).al.list.map AlarmEntry.state)
      = [.activeAcked, .activeUnack]
    ∧ (after (.ackAlarm 2 113 8) (acking 2 113 8 (listed .activeUnack true))).sp.buffer
      = .ready ⟨11, .refused .stale, 0, []⟩
    ∧ (after (.ackAlarm 2 113 7) (acking 2 113 7 (listed .clearedUnack false))).al.list.map AlarmEntry.id
      = [16]
    ∧ (after (.ackAlarm 2 112 7) (acking 2 112 7 (listed .activeUnack true))).sp.buffer
      = .ready ⟨11, .refused .stale, 0, []⟩
    ∧ (after (.ackAlarm 2 113 7) (acking 2 113 7 (listed .shelved true))).sp.buffer
      = .ready ⟨11, .refused .state, 0, []⟩ := by
  decide +kernel
theorem test_ack_taken : ((after .ackTaken (heard ackFrame (listed .activeUnack true))).al.list.map AlarmEntry.state)
    = [.activeAcked, .activeUnack] := by decide +kernel
theorem test_ack_peer : (after (.ackAlarm 1 16 7) (mirroring .fresh .activeUnack)).li.tx.map TxFrame.payload = [[0x0110, 7]]
    ∧ (after (.ackAlarm 1 16 7) (mirroring .expired .activeUnack)).sp.buffer
      = .ready ⟨11, .refused .originLost, 0, []⟩ := by decide +kernel
theorem witness_Shelving : (ask 12 [114, 1] base).serves 12 [114, 1] ∧ 114 ≤ (114 : Word).toNat
    ∧ (ask 12 [0, 1] base).serves 12 [0, 1] ∧ alarmPriority 0 = 1
    ∧ (ask 12 [113, 480] base).serves 12 [113, 480] ∧ alarmPriority 113 ≠ 1
    ∧ (ask 12 [113, 480] base).al.entry? 113 = none
    ∧ (ask 12 [113, 0] (listed .activeUnack true)).serves 12 [113, 0]
    ∧ (ask 12 [113, 0] (listed .activeUnack true)).al.entry? 113 ≠ none
    ∧ (ask 12 [113, 481] (listed .activeUnack true)).serves 12 [113, 481]
    ∧ (listed .shelved true).configured = true
    ∧ (listed .shelved true).al.entry? 113 = some ⟨113, .shelved, 7, Stamp.zero, none, none, some 100000000⟩
    ∧ (listed .shelved true).cond 113 = true ∧ (listed .shelved false).cond 113 = false
    ∧ (ask 13 [113] (listed .shelved true)).serves 13 [113] ∧ (ask 13 [114] base).serves 13 [114]
    ∧ (ask 13 [113] base).serves 13 [113] ∧ (ask 13 [113] base).al.entry? 113 = none
    ∧ (ask 13 [113] (listed .shelved true)).al.entry? 113
      = some ⟨113, .shelved, 7, Stamp.zero, none, none, some 100000000⟩ := by unfold State.serves; decide +kernel
theorem witness_Shelving_sound : (listed .shelved true).AlarmSound ∧ (listed .shelved false).AlarmSound
    ∧ (ask 13 [113] (listed .shelved true)).AlarmSound :=
  ⟨listed_sound _ _ (.inr rfl), listed_sound _ _ (.inr rfl), listed_sound _ _ (.inr rfl)⟩
theorem test_shelve_clamps : (after (.shelve 113 481) (ask 12 [113, 481] (listed .activeUnack true))).sp.buffer
      = .ready ⟨12, .clamped, 480, []⟩
    ∧ (after (.shelve 113 480) (ask 12 [113, 480] (listed .activeUnack true))).sp.buffer
      = .ready ⟨12, .ok, 480, []⟩ := by decide +kernel
theorem test_shelve_ends : ((after (.shelveExpiry 113) (listed .shelved true)).al.list.map AlarmEntry.id) = [16, 113]
    ∧ ((after (.shelveExpiry 113) (listed .shelved false)).al.list.map AlarmEntry.id) = [16]
    ∧ ((after (.unshelve 113) (ask 13 [113] (listed .shelved true))).al.list.map AlarmEntry.seq) = [8, 9] := by
  decide +kernel
/-- An ALERT of station 1 about its alarm 16. -/
def alert (prio : Nat) (st : Option AlarmState) (seq : Word) : RxFrame :=
  ⟨.alert, 0, 0, (AlertMsg.mk 16 prio st seq Stamp.zero none).words⟩
/-- It heads the receive queue of a station that mirrors the alarm ACTIVE_ACKED with sequence 7. -/
def alerted (prio : Nat) (st : Option AlarmState) (seq : Word) : State :=
  heard (alert prio st seq) (mirroring .fresh .activeAcked)
theorem witness_AlertsMirrored : (heard ⟨.alert, 0, 0, [1]⟩ base).heads .alert ⟨.alert, 0, 0, [1]⟩
    ∧ parseAlert [1] = none ∧ (alerted 2 (some .shelved) 8).heads .alert (alert 2 (some .shelved) 8)
    ∧ parseAlert (alert 2 (some .shelved) 8).payload = some ⟨16, 2, some .shelved, 8, Stamp.zero, none⟩
    ∧ alarmPriority 16 = 2 ∧ parseAlert (alert 1 (some .shelved) 8).payload = some ⟨16, 1, some .shelved, 8, Stamp.zero, none⟩
    ∧ ((alerted 2 (some .shelved) 8).peer 0).fresh ≠ .absent ∧ (alerted 2 (some .shelved) 8).fv.view.length < 64
    ∧ (alerted 2 none 7).heads .alert (alert 2 none 7)
    ∧ parseAlert (alert 2 none 7).payload = some ⟨16, 2, none, 7, Stamp.zero, none⟩
    ∧ (alerted 2 none 7).fv.mirror? 0 16 = some ⟨0, 16, .activeAcked, 7, Stamp.zero, true, false⟩
    ∧ serialNewer (8 : Word) 7 = true ∧ serialNewer (6 : Word) 7 = false
    ∧ AlarmState.activeAcked.stage ≤ AlarmState.shelved.stage
    ∧ AlarmState.activeUnack.stage < AlarmState.activeAcked.stage := by unfold State.heads; decide +kernel
theorem witness_AlertsMirrored_sound : (alerted 2 (some .shelved) 8).ViewSound := by
  unfold State.ViewSound; decide +kernel
/-- A view of 64 mirrors of priority 1 and, in its last place, one of a given id. -/
def crowded (last : AlarmId) : State :=
  { alerted 2 (some .shelved) 8 with fv := { (alerted 2 (some .shelved) 8).fv with
      view := List.replicate 63 ⟨2, 0, .activeUnack, 7, Stamp.zero, true, false⟩
        ++ [⟨2, last, .activeUnack, 7, Stamp.zero, true, false⟩] } }
theorem witness_AlertsMirrored_full : (crowded 113).fv.view.length = 64 ∧ (crowded 113).fv.mirror? 0 16 = none
    ∧ (crowded 113).heads .alert (alert 2 (some .shelved) 8) ∧ alarmPriority 16 < alarmPriority 113
    ∧ (crowded 113).fv.view = List.replicate 63 ⟨2, 0, .activeUnack, 7, Stamp.zero, true, false⟩
      ++ ⟨2, 113, .activeUnack, 7, Stamp.zero, true, false⟩ :: []
    ∧ (∀ y ∈ List.replicate 63 (Mirror.mk 2 0 .activeUnack 7 Stamp.zero true false), alarmPriority y.id ≤ alarmPriority 16)
    ∧ ∀ y ∈ (crowded 0).fv.view, alarmPriority y.id ≤ alarmPriority 16 := by unfold State.heads; decide +kernel
theorem test_full_view : (after .alertTaken (crowded 113)).fv.view.getLast?.map Mirror.id = some 16
    ∧ (after .alertTaken (crowded 113)).fv.view.length = 64 ∧ (after .alertTaken (crowded 0)).fv.full = true
    ∧ (after .alertTaken (crowded 0)).fv.view = (crowded 0).fv.view := by decide +kernel
theorem test_alert_judged :
    (after .alertTaken (alerted 2 (some .activeUnack) 7)).fv.view.map Mirror.state = [.activeAcked]
    ∧ (after .alertTaken (alerted 2 (some .activeUnack) 8)).fv.view.map Mirror.state = [.activeUnack]
    ∧ (after .alertTaken (alerted 2 (some .shelved) 6)).fv.view.map Mirror.state = [.activeAcked]
    ∧ (after .alertTaken (alerted 2 none 7)).fv.view = [] := by decide +kernel

/-! ### Shift totals -/

/-- The station with its time base at a day and a second, its number known or not. -/
def timeAt (day : Word) (sec : Nat) (valid : Bool) (shift : Option Word) : State :=
  { base with sr := { base.sr with day := day, sec := sec, valid := valid, shift := shift } }
/-- A channel of 2.5 s of running time not yet counted, and the crystal in a state since `n` bit times ago. -/
def crystalAt (st : Crystal) (n : Nat) : State :=
  { base with sr := { base.sr with crystal := st, crystalSince := 100000000 - n, clockLost := true, setSinceFail := true } }
def ran : State := base.mapAcct 0 fun a => { a with runRem := 625000 }
theorem witness_TimeBaseKept : (timeAt 8000 86399 true none).sr.sec < 86400 ∧ 250000 ≤ (ran.acct 0).remainder ran.now
    ∧ (crystalAt .passing 0).configured = true ∧ (crystalAt .passing 0).sr.crystal = .passing
    ∧ (crystalAt .waiting 500000).sr.crystal = .waiting ∧ (crystalAt .waiting 500000).sr.crystalSince = 99500000
    ∧ (crystalAt .failed 250000).sr.crystal ≠ .passing ∧ (crystalAt .failed 250000).sr.crystalSince = 99750000 := by
  decide +kernel
theorem test_midnight : (after .timeBaseTick (timeAt 8000 86399 true none)).sr.sec = 0
    ∧ (after .timeBaseTick (timeAt 8000 86399 true none)).sr.day = 8001
    ∧ (after .timeBaseTick (timeAt 8000 21599 true none)).sr.boundaryDue = true := by decide +kernel
theorem test_running_second : ((after (.runningSecond 0) ran).acct 0).run = 1
    ∧ ((after (.runningSecond 0) ran).acct 0).remainder ran.now = 375000 := by decide +kernel
theorem test_crystal : (after .crystalCheckFail (crystalAt .passing 0)).cond idClockLost = true
    ∧ (after .crystalCheckFail (crystalAt .waiting 499999)).sr.crystal = .waiting
    ∧ (after .crystalCheckPass (crystalAt .failed 250000)).sr.clockLost = false := by decide +kernel
/-- 09 R164: a crystal that starts 1500 ms after power-on fails the check at 2000 ms and passes it at 2500 ms. -/
theorem test_late_crystal : (after .crystalCheckPass { after .crystalCheckFail (crystalAt .waiting 500000) with
      now := 100125000 }).sr.crystal = .passing := by decide +kernel
/-- 09: with boundaries 06:00, 14:00 and 22:00, day 8000 has the numbers 24000 to 24002, up to 06:00 of day 8001; day
0 before 06:00 has 65535. -/
theorem test_clock_numbers : clockShift cfg 8000 36000 = 24000 ∧ clockShift cfg 8000 79200 = 24002
    ∧ clockShift cfg 8001 10800 = 24002 ∧ clockShift cfg 0 21599 = 65535 := by decide +kernel
/-- A boundary due with the number known or not. -/
def boundary (shift : Option Word) : State :=
  { timeAt 8000 50400 true shift with sr := { (timeAt 8000 50400 true shift).sr with boundaryDue := true } }
theorem witness_BoundaryCloses : (boundary none).config = some cfg ∧ (boundary none).sr.boundaryDue = true
    ∧ (boundary none).sr.valid = true ∧ (boundary (some 24000)).sr.shift = some 24000
    ∧ ({ boundary none with sr := { (boundary none).sr with valid := false } } : State).sr.valid = false
    ∧ (boundary none).sr.sec = cfg.b1 * 60 ∧ (boundary none).sr.shift = none := by decide +kernel
theorem test_boundary : (after .shiftBoundary (boundary (some 24000))).sr.ring.map ShiftRecord.number = [24000]
    ∧ (after .shiftBoundary (boundary (some 24000))).sr.shift = some 24001
    ∧ (after .shiftBoundary (boundary none)).sr.ring = [] := by decide +kernel
/-- SET_TIME in work for day 8000 with the words of a second. -/
def settingTime (hi lo : Word) (shift : Option Word) : State := ask 14 [8000, hi, lo] (timeAt 0 5 false shift)
theorem witness_TimeSet : (settingTime 1 20864 none).config = some cfg ∧ (settingTime 1 20864 none).serves 14 [8000, 1, 20864]
    ∧ ((1 : Word).toNat % 2) * 65536 + (20864 : Word).toNat = 86400
    ∧ (settingTime 1 20863 none).serves 14 [8000, 1, 20863]
    ∧ ((1 : Word).toNat % 2) * 65536 + (20863 : Word).toNat = 86399
    ∧ (settingTime 1 20863 (some 24002)).serves 14 [8000, 1, 20863] ∧ (settingTime 1 20863 (some 24002)).sr.shift = some 24002
    ∧ (settingTime 1 20863 (some 9)).serves 14 [8000, 1, 20863]
    ∧ clockShift cfg 8000 86399 = 24002 := by unfold State.serves; decide +kernel
theorem test_set_time : (after (.setTime 8000 1 20864) (settingTime 1 20864 none)).sp.buffer
      = .ready ⟨14, .refused .badArgument, 0, []⟩
    ∧ (after (.setTime 8000 1 20863) (settingTime 1 20863 (some 9))).sr.ring.map ShiftRecord.number = [9]
    ∧ (after (.setTime 8000 1 20863) (settingTime 1 20863 (some 24002))).sr.ring = [] := by decide +kernel
/-- The SHIFT frame of station 1 for number 7, and one that fails the checks. -/
def shiftFrame : RxFrame := ⟨.shift, 0, 9, shiftWords⟩
def untimed (shift : Option Word) : State := heard shiftFrame (timeAt 0 5 false shift)
theorem witness_ShiftsTaken : (heard ⟨.shift, 0, 9, [0]⟩ base).heads .shift ⟨.shift, 0, 9, [0]⟩
    ∧ parseShift 0 [0] = none ∧ (untimed none).heads .shift shiftFrame
    ∧ parseShift 0 shiftFrame.payload = some ⟨7, ⟨0, .clock, false, 5, 6, 0, 0⟩⟩
    ∧ (untimed none).sr.valid = false ∧ (untimed (some 7)).sr.shift = some 7 ∧ serialNewer (7 : Word) 6 = true
    ∧ (untimed (some 8)).sr.shift = some 8 ∧ serialNewer (7 : Word) 8 = false
    ∧ (heard shiftFrame (timeAt 8000 5 true (some 6))).sr.valid = true ∧ (untimed none).sr.summary.length < 4 := by
  unfold State.heads; decide +kernel
theorem test_peer_close : (after .shiftTaken (untimed (some 6))).sr.shift = some 8
    ∧ (after .shiftTaken (untimed (some 8))).sr.ring = []
    ∧ (after .shiftTaken (untimed (some 8))).sr.summary.map SummarySlot.number = [7] := by decide +kernel
/-- Four slots held, of numbers n + 3 down to n. -/
def fourSlots (n : Word) (s : State) : State :=
  { s with sr := { s.sr with summary := [3, 2, 1, 0].map fun k => ⟨n + k, [⟨1, .clock, false, 1, 2, 3, 4⟩]⟩ } }
theorem witness_ShiftsTaken_full : (fourSlots 5 (untimed (some 6))).heads .shift shiftFrame
    ∧ (∃ sl ∈ (fourSlots 5 (untimed (some 6))).sr.summary, sl.number = 7)
    ∧ (fourSlots 3 (untimed (some 6))).sr.summary.map SummarySlot.number = [6, 5, 4] ++ [3]
    ∧ serialNewer (7 : Word) 3 = true ∧ (fourSlots 8 (untimed (some 6))).sr.summary.map SummarySlot.number = [11, 10, 9, 8]
    ∧ serialNewer (7 : Word) 8 = false ∧ (untimed (some 5)).sr.shift = some 5 ∧ serialNewer (7 : Word) 5 = true := by
  unfold State.heads; decide +kernel
/-- 09 R175, R180: a close that skips a number is marked GAP; a full summary takes a newer number alone. -/
theorem test_shift_gap_and_full : (after .shiftTaken (untimed (some 5))).sr.ring.map ShiftRecord.gap = [true]
    ∧ (after .shiftTaken (untimed (some 7))).sr.ring.map ShiftRecord.gap = [false]
    ∧ (after .shiftTaken (fourSlots 3 (untimed (some 6)))).sr.summary.map SummarySlot.number = [7, 6, 5, 4]
    ∧ (after .shiftTaken (fourSlots 8 (untimed (some 8)))).sr.summary.map SummarySlot.number = [11, 10, 9, 8] := by
  decide +kernel

/-! ### The station port -/

/-- A transaction in a part. -/
def inTxn (t : Txn) (b : Buffer) : State := { base with sp := { base.sp with txn := t, buffer := b } }
theorem witness_Transactions : (inTxn .idle .empty).sp.txn = .idle ∧ (inTxn .answering .empty).sp.txn = .answering
    ∧ (inTxn .discarding .empty).sp.txn ≠ .requesting ∧ (inTxn .requesting .empty).sp.txn = .requesting
    ∧ [(1 : Word)].length < (loByte 0x0302).toNat
    ∧ (loByte 0x0302).toNat ≤ [(1 : Word), 2].length ∧ requestArgs (hiByte 0x0302).toNat = some (loByte 0x0302).toNat
    ∧ (loByte 0x0301).toNat ≤ [(1 : Word)].length ∧ requestArgs (hiByte 0x0301).toNat ≠ some (loByte 0x0301).toNat
    ∧ requestArgs (hiByte 0x1600).toNat = none
    ∧ (after .transactionStart (inTxn .idle .empty)).sp.out[0]? = some 0
    ∧ (after .transactionStart (inTxn .idle .empty)).sp.out.length ≤ 1 := by decide +kernel
/-- A request in work in UNCONFIGURED. -/
theorem witness_Transactions_unconfigured : (ask 14 [1, 0, 5] State.reset).pt.mode = .unconfigured
    ∧ (ask 14 [1, 0, 5] State.reset).sp.buffer = .inWork (b8 14) [1, 0, 5]
    ∧ (ask 21 [] State.reset).sp.buffer = .inWork (b8 21) []
    ∧ (after (.setTime 1 0 5) (ask 14 [1, 0, 5] State.reset)).sp.buffer = .ready ⟨14, .refused .notConfigured, 0, []⟩ := by
  decide +kernel
/-- 10 R183: after its answer SP shifts out words of value 0. -/
theorem test_shifts_out : (after .transactionStart (inTxn .idle (.ready ⟨3, .ok, 9, []⟩))).sp.shiftsOut 2 = 9
    ∧ (after .transactionStart (inTxn .idle (.ready ⟨3, .ok, 9, []⟩))).sp.shiftsOut 4 = 0 := by decide +kernel
theorem test_request_taken : (after (.transactionEnd [0x0302, 1, 2, 9] false) (inTxn .requesting .empty)).sp.buffer
      = .inWork 3 [1, 2]
    ∧ (after (.transactionEnd [0x0302, 1] false) (inTxn .requesting .empty)).sp.portErrors = 1
    ∧ (after (.transactionEnd [0x1600] false) (inTxn .requesting .empty)).sp.buffer
      = .ready ⟨22, .refused .badArgument, 0, []⟩ := by decide +kernel
theorem test_response_phase : (after .transactionStart (inTxn .idle (.inWork 3 [1, 2]))).sp.out = [0x0100]
    ∧ (after .transactionStart (inTxn .idle .empty)).sp.out = [0]
    ∧ (after .answerDelivered (inTxn .answering (.ready ⟨3, .ok, 0, []⟩))).sp.buffer = .empty := by decide +kernel
/-- A record of 156 words: station 2, boundaries 06:00, 14:00 and 22:00, no channel, and zone parts in range but for
`lambda` of zone 0. -/
def record (lambda : Word) : List Word :=
  [2, 1, 360, 840, 1320, 1, 110, 1, lambda, 1500, 120, 300, 2000, 15000, 12500, 20, 30]
    ++ (List.replicate 3 [1100, 1500, 120, 300, 2000, 15000, 12500, 20, 30]).flatten
    ++ List.replicate 112 0
/-- LOAD_CONFIG of words in work, in UNCONFIGURED. -/
def loading (ws : List Word) : State := { State.reset with sp := { State.reset.sp with buffer := .inWork 1 ws } }
theorem witness_ConfigLoaded : (loading (record 1100)).sp.buffer = .inWork 1 (record 1100)
    ∧ (loading (record 1100)).pt.mode = .unconfigured ∧ structuralError (record 1100) = false
    ∧ structuralError (0 :: (record 1100).tail) = true ∧ structuralError (17 :: (record 1100).tail) = true
    ∧ (ask 1 (record 1100) base).sp.buffer = .inWork 1 (record 1100) ∧ (ask 1 (record 1100) base).pt.mode ≠ .unconfigured := by
  decide +kernel
theorem witness_ConfigClamped : (record 999).length = 156 ∧ numericFields (record 999) ≠ []
    ∧ (numericFields (record 999)).any (outOfRange (record 999)) = true := by decide +kernel
theorem test_load_config : (after (.loadConfig (record 1100)) (loading (record 1100))).sp.buffer = .ready ⟨1, .ok, 0, []⟩
    ∧ (after (.loadConfig (record 999)) (loading (record 999))).sp.buffer = .ready ⟨1, .clamped, 1, []⟩
    ∧ ((after (.loadConfig (record 999)) (loading (record 999))).zoneParam 0 ZoneCfg.lambda) = 1000 := by decide +kernel
/-- The READs in work. -/
theorem witness_ReadsAnswer : (ask 15 [] base).sp.buffer = .inWork 15 [] ∧ (ask 20 [] base).sp.buffer = .inWork 20 []
    ∧ (ask 2 [] base).sp.buffer = .inWork 2 [] ∧ (ask 2 [] State.reset).config = none
    ∧ (ask 16 [8] base).sp.buffer = .inWork 16 [8] ∧ (ask 16 [7] base).sp.buffer = .inWork 16 [7]
    ∧ (ask 16 [7] base).chanCfg 7 = .unused ∧ (ask 16 [0] base).chanCfg 0 ≠ .unused ∧ (ask 16 [0] base).pt.mode ≠ .unconfigured
    ∧ (ask 17 [4] base).sp.buffer = .inWork 17 [4] ∧ (ask 17 [3] base).sp.buffer = .inWork 17 [3]
    ∧ (ask 18 [0] base).sp.buffer = .inWork 18 [0] ∧ (ask 18 [17] base).sp.buffer = .inWork 18 [17]
    ∧ (ask 18 [2] base).isOwn 1 = true ∧ (ask 18 [16] base).isOwn 15 = false
    ∧ (16 : Word).toNat = stationNumber 15
    ∧ (ask 2 [] base).config = some cfg ∧ (ask 16 [0] State.reset).pt.mode = .unconfigured
    ∧ (ask 16 [0] base).chanCfg 0 = .fuel coal ∧ (ask 16 [2] base).chanCfg 2 = .fan coolFan
    ∧ (ask 16 [2] base).sp.buffer = .inWork 16 [2] := by decide +kernel
theorem witness_RunsRead : (ask 19 [1, 0, 0, 16] (listed .activeUnack true)).sp.buffer = .inWork 19 [1, 0, 0, 16]
    ∧ (ask 19 [4, 4, 0, 1] base).sp.buffer = .inWork 19 [4, 4, 0, 1] ∧ (ask 19 [4, 3, 0, 1] base).sp.buffer = .inWork 19 [4, 3, 0, 1]
    ∧ ((listed .activeUnack true).al.list.map (listed .activeUnack true).alarmWords).length = 2
    ∧ (ask 19 [1, 0, 2, 1] (listed .activeUnack true)).sp.buffer = .inWork 19 [1, 0, 2, 1] := by decide +kernel
/-- The data and the status of the answer that stands in the buffer. -/
def answer (s : State) : Option (Status × Word × Nat) :=
  match s.sp.buffer with
  | .ready a => some (a.status, a.value, a.data.length)
  | _ => none
theorem test_reads : answer (after .readStatus (ask 15 [] base)) = some (.ok, 0, 16)
    ∧ answer (after .readLineStats (ask 20 [] base)) = some (.ok, 0, 14)
    ∧ answer (after .readConfig (ask 2 [] base)) = some (.ok, 0, 156)
    ∧ answer (after (.readPeer 2) (ask 18 [2] base)) = some (.refused .badArgument, 0, 0) := by decide +kernel
theorem test_read_run : (answer (after (.readRun 1 0 1 16) (ask 19 [1, 0, 1, 16] (listed .activeUnack true)))).map (fun a => a.2.1)
      = some 1
    ∧ answer (after (.readRun 1 0 2 16) (ask 19 [1, 0, 2, 16] (listed .activeUnack true))) = some (.refused .ended, 0, 0)
    ∧ answer (after (.readRun 1 0 0 17) (ask 19 [1, 0, 0, 17] (listed .activeUnack true))) = some (.refused .badArgument, 0, 0) := by
  decide +kernel
theorem test_read_zone_channel : (answer (after (.readZone 4) (ask 17 [4] base))).map Prod.fst = some (.refused .badArgument)
    ∧ (answer (after (.readZone 3) (ask 17 [3] base))).map Prod.fst = some .ok
    ∧ (answer (after (.readChannel 7) (ask 16 [7] base))).map Prod.fst = some (.refused .badArgument)
    ∧ (answer (after (.readChannel 0) (ask 16 [0] base))).map Prod.fst = some .ok := by decide +kernel

/-! ### The invariants hold in states that a command changes -/

/-- A LIT zone with its coal channel RUNNING, a listed alarm, a SNAP waiting, and a command waiting. -/
def working (c : Instr) : State :=
  { queued [waiting .snap [] 0] (open0 (inZone 0 .lit (listed .activeUnack true))) with pending := [c] }
theorem witness_LineSoundKept : (working .collision).ModeSound ∧ (working .collision).LineSound
    ∧ ∃ t, step (working .collision) = .next t :=
  ⟨by unfold State.ModeSound; decide +kernel, by unfold State.LineSound; decide +kernel, _, rfl⟩
theorem witness_AlarmSoundKept : (listed .activeUnack true).ModeSound ∧ (listed .activeUnack true).AlarmSound
    ∧ ∃ t, step { listed .activeUnack true with pending := [.crystalCheckFail] } = .next t :=
  ⟨by unfold State.ModeSound; decide +kernel, listed_sound _ _ (.inl ⟨rfl, rfl⟩), _, rfl⟩
theorem witness_StoresSoundKept : (alerted 2 (some .shelved) 8).ViewSound ∧ (alerted 2 (some .shelved) 8).ShiftSound
    ∧ ∃ t, step { alerted 2 (some .shelved) 8 with pending := [.alertTaken] } = .next t :=
  ⟨witness_AlertsMirrored_sound, by unfold State.ShiftSound; decide +kernel, _, rfl⟩
theorem witness_FiringSafe : (working (.flameFailureExpiry 0)).ModeSound ∧ (working (.flameFailureExpiry 0)).ZoneSound
    ∧ (working (.flameFailureExpiry 0)).ShutSound ∧ ((working (.flameFailureExpiry 0)).chan 0).shutReleased = true
    ∧ ∃ t, step (working (.flameFailureExpiry 0)) = .next t := by
  refine ⟨by unfold State.ModeSound; decide +kernel, ?_, ?_, by decide +kernel, _, rfl⟩
  · unfold State.ZoneSound State.active; decide +kernel
  · intro c h
    have : c = 0 := by revert c; decide +kernel
    subst this
    exact ⟨coal, by decide +kernel, by decide +kernel⟩

end Sys2Proof.Tests
end

section
/-! PROOF. O40, the division of a grant (05 R104): what `giveUnits` and `floorShares` each do, that the units left
over are fewer than the members with span above 0, and the order in which the members of a pass stand. -/

namespace Sys2Proof.Proofs

open Sys2Proof.Machine

/-! ### The units that remain, one each in order -/

/-- How many of the spans are above 0: the members that can take a unit. -/
def openCount (spans : List Nat) : Nat := spans.countP fun x => decide (0 < x)

@[simp] theorem openCount_nil : openCount [] = 0 := rfl

@[simp] theorem openCount_cons (x : Nat) (xs : List Nat) :
    openCount (x :: xs) = openCount xs + if 0 < x then 1 else 0 := by
  simp [openCount, List.countP_cons]

theorem giveUnits_length (n : Nat) (l : List (Nat × Nat)) : (giveUnits n l).length = l.length := by
  induction l generalizing n with
  | nil => rfl
  | cons p rest ih => rw [giveUnits]; split <;> simp [ih]

theorem giveUnits_sum (n : Nat) (l : List (Nat × Nat)) :
    (giveUnits n l).sum = (l.map Prod.snd).sum + min n (openCount (l.map Prod.fst)) := by
  induction l generalizing n with
  | nil => simp [giveUnits]
  | cons p rest ih =>
    rw [giveUnits]
    split
    case isTrue h => simp [ih, h.2]; omega
    case isFalse h =>
      simp only [List.sum_cons, ih, List.map_cons, openCount_cons]
      split <;> omega

/-- A member gets a unit when its span is above 0 and fewer than `n` members before it could take one. -/
theorem giveUnits_getElem? (n i : Nat) (l : List (Nat × Nat)) :
    (giveUnits n l)[i]? = l[i]?.map fun p =>
      p.2 + if 0 < p.1 ∧ openCount ((l.take i).map Prod.fst) < n then 1 else 0 := by
  induction l generalizing n i with
  | nil => simp [giveUnits]
  | cons p rest ih =>
    rw [giveUnits]
    cases i with
    | zero => split <;> simp_all [and_comm]
    | succ i =>
      split
      case isTrue h =>
        have shift : ∀ k, k < n - 1 ↔ k + 1 < n := by omega
        simp [ih, h.2, shift]
      case isFalse h =>
        by_cases hp : 0 < p.1
        · have hn : n = 0 := by omega
          simp [ih, hn]
        · simp [ih, hp]

/-! ### The whole shares -/

/-- The whole shares at a rate of `g / t` do not exceed it, and one more unit each, given to the members with span
above 0, reaches it. Here `t` is any divisor: in a division it is the sum of all the spans. -/
theorem wholeShares_bounds {t : Nat} (ht : 0 < t) (g : Nat) (xs : List Nat) :
    (xs.map fun x => g * x / t).sum * t ≤ g * xs.sum
      ∧ g * xs.sum ≤ ((xs.map fun x => g * x / t).sum + openCount xs) * t := by
  induction xs with
  | nil => simp
  | cons x xs ih =>
    obtain ⟨lower, upper⟩ := ih
    have whole : g * x / t * t ≤ g * x := Nat.div_mul_le_self _ _
    have next : g * x ≤ (g * x / t + if 0 < x then 1 else 0) * t := by
      split
      case isTrue => exact (Nat.lt_mul_of_div_lt (Nat.lt_succ_self _) ht).le
      case isFalse closed => simp [Nat.eq_zero_of_not_pos closed]
    simp only [List.map_cons, List.sum_cons, openCount_cons, mul_add, add_mul] at lower upper next ⊢
    omega

theorem floorShares_sum_le (g : Nat) (spans : List Nat) : (floorShares g spans).sum ≤ g := by
  rcases Nat.eq_zero_or_pos spans.sum with zero | pos
  · simp [floorShares, zero]
  · exact Nat.le_of_mul_le_mul_right (wholeShares_bounds pos g spans).1 pos

/-- The units that remain never outnumber the members that can take one. -/
theorem grant_le_floorShares_sum_add {g : Nat} {spans : List Nat} (h : g ≤ spans.sum) :
    g ≤ (floorShares g spans).sum + openCount spans := by
  rcases Nat.eq_zero_or_pos spans.sum with zero | pos
  · omega
  · exact Nat.le_of_mul_le_mul_right (wholeShares_bounds pos g spans).2 pos

/-- A grant of the whole sum leaves no unit over. -/
theorem floorShares_all {spans : List Nat} (pos : 0 < spans.sum) : floorShares spans.sum spans = spans := by
  simp [floorShares, Nat.mul_div_cancel_left _ pos]

/-! ### The division -/

theorem zip_floorShares (g : Nat) (spans : List Nat) :
    spans.zip (floorShares g spans) = spans.map fun x => (x, g * x / spans.sum) :=
  List.map_prod_left_eq_zip.symm

theorem map_fst_zip_floorShares (g : Nat) (spans : List Nat) :
    (spans.zip (floorShares g spans)).map Prod.fst = spans :=
  List.map_fst_zip (by simp [floorShares])

theorem map_snd_zip_floorShares (g : Nat) (spans : List Nat) :
    (spans.zip (floorShares g spans)).map Prod.snd = floorShares g spans :=
  List.map_snd_zip (by simp [floorShares])

@[simp] theorem divide_length (g : Nat) (spans : List Nat) : (divide g spans).length = spans.length := by
  simp [divide, giveUnits_length, floorShares]

theorem divide_sum {g : Nat} {spans : List Nat} (h : g ≤ spans.sum) : (divide g spans).sum = g := by
  have lower := floorShares_sum_le g spans
  have upper := grant_le_floorShares_sum_add h
  rw [divide, giveUnits_sum, map_fst_zip_floorShares, map_snd_zip_floorShares]
  omega

theorem divide_getElem? (g i : Nat) (spans : List Nat) :
    (divide g spans)[i]? = spans[i]?.map fun x => g * x / spans.sum +
      if 0 < x ∧ openCount (spans.take i) < g - (floorShares g spans).sum then 1 else 0 := by
  rw [divide, giveUnits_getElem?, List.map_take, map_fst_zip_floorShares, zip_floorShares, List.getElem?_map,
    Option.map_map]
  rfl

/-- A share never exceeds its span: a unit is left over only when `g` is below the sum, and then the whole share of a
span above 0 is below the span. -/
theorem divide_share_le {g i x share : Nat} {spans : List Nat} (h : g ≤ spans.sum) (hx : spans[i]? = some x)
    (hs : (divide g spans)[i]? = some share) : share ≤ x := by
  rw [divide_getElem?, hx] at hs
  obtain rfl := Option.some.inj hs
  dsimp only
  split
  case isTrue unit =>
    obtain ⟨hpos, hleft⟩ := unit
    have below : g < spans.sum := by
      refine lt_of_le_of_ne h fun all => ?_
      rw [all, floorShares_all (by omega)] at hleft
      omega
    exact Nat.div_lt_of_lt_mul (Nat.mul_lt_mul_of_pos_right below hpos)
  case isFalse => exact Nat.div_le_of_le_mul (Nat.mul_le_mul_right x h)

/-! ### The order of the members of a pass -/

/-- The set that the channel `c` of station `n` joins: the entry of `State.placed` at them. -/
def placedAt (s : State) (z : Zone) (n : Station) (c : Chan) : Placed :=
  if s.isOwn n then s.placeOwn z n c
  else match (s.peer n).fuelOf c with
    | some f => placePeer z n (s.peer n).fresh f
    | none => .out

theorem placed_eq (s : State) (z : Zone) :
    s.placed z = allStations.flatMap fun n => allChans.map (placedAt s z n) := rfl

/-- The member of an entry that joins the allocatable set. -/
def allocatableMember? : Placed → Option Member
  | .allocatable m => some m
  | .fixed _ => none
  | .out => none

@[simp] theorem allocatableMember?_eq_some {p : Placed} {m : Member} :
    allocatableMember? p = some m ↔ p = .allocatable m := by
  cases p <;> simp [allocatableMember?]

theorem passInput_allocatable_eq (s : State) (z : Zone) :
    (s.passInput z).allocatable = (s.placed z).filterMap allocatableMember? := by
  dsimp only [State.passInput]
  refine congrArg (List.filterMap · (s.placed z)) (funext fun p => ?_)
  cases p <;> rfl

theorem placeMember_eq_allocatable {m m' : Member} {st : ChState} (h : placeMember m st = .allocatable m') :
    m' = m := by
  cases st <;> simp_all [placeMember]

theorem placeOwn_eq_allocatable {s : State} {z : Zone} {n : Station} {c : Chan} {m : Member}
    (h : s.placeOwn z n c = .allocatable m) : m.station = n ∧ m.chan = c := by
  rw [State.placeOwn] at h
  split at h
  case h_1 =>
    split at h
    case isTrue => simp [placeMember_eq_allocatable h]
    case isFalse => cases h
  case h_2 => cases h

theorem placePeer_eq_allocatable {z : Zone} {n : Station} {age : Freshness} {f : FuelSummary} {m : Member}
    (h : placePeer z n age f = .allocatable m) : m.station = n ∧ m.chan = f.chan := by
  rw [placePeer] at h
  split at h
  case isTrue =>
    cases age with
    | fresh => simp [placeMember_eq_allocatable h]
    | stale => simp [placeMember_eq_allocatable h]
    | expired => dsimp only at h; split at h <;> cases h
    | absent => cases h
  case isFalse => cases h

/-- The record of a peer answers for a channel with that channel's own summary. -/
theorem fuelOf_chan {r : PeerRecord} {c : Chan} {f : FuelSummary} (h : r.fuelOf c = some f) : f.chan = c := by
  obtain ⟨x, -, hx⟩ := List.exists_of_findSome?_eq_some h
  cases x with
  | fuel g =>
    obtain ⟨hc, rfl⟩ : g.chan = c ∧ g = f := by simpa using hx
    exact hc
  | fan g => cases hx

theorem placedAt_eq_allocatable {s : State} {z : Zone} {n : Station} {c : Chan} {m : Member}
    (h : placedAt s z n c = .allocatable m) : m.station = n ∧ m.chan = c := by
  rw [placedAt] at h
  split at h
  case isTrue => exact placeOwn_eq_allocatable h
  case isFalse =>
    split at h
    case h_1 f hf =>
      obtain ⟨hn, hc⟩ := placePeer_eq_allocatable h
      exact ⟨hn, hc.trans (fuelOf_chan hf)⟩
    case h_2 => cases h

/-- `a` stands before `b` in ascending (station, channel) order. -/
def MemberBefore (a b : Member) : Prop := a.station < b.station ∨ (a.station = b.station ∧ a.chan < b.chan)

/-- `p` stands before `q`: whatever allocatable members they hold stand so. -/
def PlacedBefore (p q : Placed) : Prop := ∀ a b, p = .allocatable a → q = .allocatable b → MemberBefore a b

theorem placedAt_before {s : State} {z : Zone} {n n' : Station} {c c' : Chan}
    (h : n < n' ∨ (n = n' ∧ c < c')) : PlacedBefore (placedAt s z n c) (placedAt s z n' c') := by
  intro a b ha hb
  obtain ⟨rfl, rfl⟩ := placedAt_eq_allocatable ha
  obtain ⟨rfl, rfl⟩ := placedAt_eq_allocatable hb
  exact h

theorem placed_pairwise (s : State) (z : Zone) : (s.placed z).Pairwise PlacedBefore := by
  have stations : allStations.Pairwise (· < ·) := by decide
  have chans : allChans.Pairwise (· < ·) := by decide
  rw [placed_eq, List.pairwise_flatMap]
  refine ⟨fun n _ => ?sameStation, stations.imp fun hlt => ?otherStation⟩
  case sameStation =>
    exact List.pairwise_map.mpr (chans.imp fun hlt => placedAt_before (.inr ⟨rfl, hlt⟩))
  case otherStation =>
    intro p hp q hq
    obtain ⟨c, -, rfl⟩ := List.mem_map.mp hp
    obtain ⟨c', -, rfl⟩ := List.mem_map.mp hq
    exact placedAt_before (.inl hlt)

theorem allocatable_pairwise (s : State) (z : Zone) : (s.passInput z).allocatable.Pairwise MemberBefore := by
  rw [passInput_allocatable_eq, List.pairwise_filterMap]
  exact (placed_pairwise s z).imp fun hpq a ha b hb =>
    hpq a b (allocatableMember?_eq_some.mp ha) (allocatableMember?_eq_some.mp hb)

/-- Settles O40: the shares from the rules of `giveUnits` and the bounds of the whole shares, the order from the list
of all stations and channels that the pass goes through. -/
theorem divisionExact : Obligations.DivisionExact := by
  refine ⟨fun g spans h => ⟨divide_length g spans, divide_sum h, fun i x share hx hs => ?_⟩, allocatable_pairwise⟩
  refine ⟨divide_share_le h hx hs, ?_⟩
  rw [divide_getElem?, hx] at hs
  exact (Option.some.inj hs).symm

end Sys2Proof.Proofs
end

section
/-! PROOF. O42, a bed pressure sample at a COOLER fan (06 R117 to R124). `coolerInputs` gathers what a setpoint
computation reads besides the bed pressure; the operations of the sample are stated by what they do to it, to the
channel records and to the regulator record. -/

namespace Sys2Proof.Proofs

open Sys2Proof.Machine

/-! ### What a write of a condition leaves -/

theorem setCond_ce (s : State) (id : AlarmId) (v : Bool) (x : Option Nat) : (s.setCond id v x).ce = s.ce := by
  have h : (s.setCond id v x).plant.ce = s.plant.ce := by rw [State.setCond_plant]
  exact h

theorem setCond_cr (s : State) (id : AlarmId) (v : Bool) (x : Option Nat) : (s.setCond id v x).cr = s.cr := by
  have h : (s.setCond id v x).plant.cr = s.plant.cr := by rw [State.setCond_plant]
  exact h

@[simp] theorem setCond_chan (s : State) (id : AlarmId) (v : Bool) (x : Option Nat) (d : Chan) :
    (s.setCond id v x).chan d = s.chan d := by
  rw [State.chan, setCond_ce, State.chan]

@[simp] theorem setCond_reg (s : State) (id : AlarmId) (v : Bool) (x : Option Nat) (d : Chan) :
    (s.setCond id v x).reg d = s.reg d := by
  rw [State.reg, setCond_cr, State.reg]

/-! ### The inputs of a computation (06 R117) -/

/-- What a setpoint computation reads besides the fan's bed pressure. -/
structure CoolerInputs where
  config : Option Config
  mode : Mode
  dEff : Vector Nat 4
  clinker : Point
  held : Vector Nat 4

/-- The inputs of a setpoint computation as the state holds them. -/
def coolerInputs (s : State) : CoolerInputs :=
  ⟨s.config, s.pt.mode, s.fa.demands.map DemandRecord.dEff, s.ce.clinker, s.cr.held⟩

theorem coolerInputs_plant (s : State) : coolerInputs s.plant = coolerInputs s := by
  simp [coolerInputs, State.plant, Function.comp_def]

@[simp] theorem coolerInputs_setCond (s : State) (id : AlarmId) (v : Bool) (x : Option Nat) :
    coolerInputs (s.setCond id v x) = coolerInputs s := by
  rw [← coolerInputs_plant, State.setCond_plant, coolerInputs_plant]

@[simp] theorem coolerInputs_mapReg (s : State) (c : Chan) (g : Regulator → Regulator) :
    coolerInputs (s.mapReg c g) = coolerInputs s := rfl

theorem fan?_of_coolerInputs {s t : State} (h : coolerInputs t = coolerInputs s) (c : Chan) : t.fan? c = s.fan? c := by
  have config : t.config = s.config := congrArg CoolerInputs.config h
  simp only [State.fan?, State.chanCfg, config]

theorem decides_of_coolerInputs {s t : State} (h : coolerInputs t = coolerInputs s) : t.decides = s.decides := by
  have mode : t.pt.mode = s.pt.mode := congrArg CoolerInputs.mode h
  rw [State.decides, mode, State.decides]

theorem dEff_of_coolerInputs {s t : State} (h : coolerInputs t = coolerInputs s) (z : Zone) :
    (t.demand z).dEff = (s.demand z).dEff := by
  have dEffs : t.fa.demands.map DemandRecord.dEff = s.fa.demands.map DemandRecord.dEff :=
    congrArg CoolerInputs.dEff h
  have place := congrArg (·[z]) dEffs
  simp only [Fin.getElem_fin, Vector.getElem_map] at place
  exact place

/-- States of the same inputs give the same terms at the same bed pressure. -/
theorem computation_of_coolerInputs {s t : State} (h : coolerInputs t = coolerInputs s) (c : Chan) (f : FanCfg)
    (e : Nat) :
    t.computation c f e = coolTerms f s.tLim (s.demand f.loadZone).dEff (s.zoneParam f.loadZone ZoneCfg.nominalHeat)
      ((t.chan c).bedPt.pressure f.pRef) (s.cr.held.get f.zone) s.tOut e := by
  have config : t.config = s.config := congrArg CoolerInputs.config h
  have clinker : t.ce.clinker = s.ce.clinker := congrArg CoolerInputs.clinker h
  have held : t.cr.held = s.cr.held := congrArg CoolerInputs.held h
  have tOut : t.tOut = s.tOut := by rw [State.tOut, State.clinkerPresent, config, clinker]; rfl
  simp only [State.computation, State.tLim, State.zoneParam, State.zoneCfg?, config, held, tOut,
    dEff_of_coolerInputs h]

/-! ### The terms (06 R118 to R122) -/

theorem loadRatio_eq (dEff dnom : Nat) : loadRatio dEff dnom = min 1200 (max 300 (dEff * 1000 / dnom)) := by
  simp only [loadRatio, clampNat]
  split
  case isTrue => omega
  case isFalse => split <;> omega

theorem clampFlow_eq {f : FanCfg} (h : f.fmin ≤ f.fmax) (f4 : Int) :
    (clampFlow f f4 : Int) = min (f.fmax : Int) (max (f.fmin : Int) f4) := by
  simp only [clampFlow, clampInt]
  split
  case isTrue => omega
  case isFalse => split <;> omega

/-! ### The sample (03 R39, R40) -/

/-- A bed pressure is signed and is clamped to 0 to 20000. -/
theorem sampleValue_bed (c : Chan) (v : Word) :
    sampleValue (.bed c) v = if v.toNat < 32768 then min v.toNat 20000 else 0 := by
  have bound := v.isLt
  simp only [sampleValue, clampInt, BitVec.toInt]
  repeat' split
  all_goals omega

/-- A BAD sample leaves the last good value. -/
@[simp] theorem takeBad_last (p : Point) (now : Nat) : (p.takeBad now).last = p.last := by
  unfold Point.takeBad
  cases p.cond <;> rfl

@[simp] theorem takeGood_last (p : Point) (v : Nat) (b : Bool) : (p.takeGood v b).last = some v := rfl

@[simp] theorem endSilence_chan (s : State) (d : Chan) : s.endSilence.chan d = s.chan d := setCond_chan _ _ _ _ d

@[simp] theorem endSilence_reg (s : State) (d : Chan) : s.endSilence.reg d = s.reg d := setCond_reg _ _ _ _ d

@[simp] theorem coolerInputs_endSilence (s : State) : coolerInputs s.endSilence = coolerInputs s :=
  coolerInputs_setCond _ _ _ _

/-- The bed pressure point of a fan after a sample of the value `v`. -/
def sampledBed (s : State) (c : Chan) (v : Nat) (good uncertain : Bool) : Point :=
  if good then (s.chan c).bedPt.takeGood v uncertain else (s.chan c).bedPt.takeBad s.now

theorem samplePoint_bed_chan_same (s : State) (c : Chan) (v : Nat) (good uncertain : Bool) :
    (s.samplePoint (.bed c) v good uncertain).chan c
      = { s.chan c with bedPt := sampledBed s c v good uncertain } := by
  rw [State.samplePoint, sampledBed]
  exact (setCond_chan _ _ _ _ c).trans (State.mapChan_chan_same _ _ _)

theorem samplePoint_bed_chan_other (s : State) {c d : Chan} (h : d ≠ c) (v : Nat) (good uncertain : Bool) :
    (s.samplePoint (.bed c) v good uncertain).chan d = s.chan d :=
  (setCond_chan _ _ _ _ d).trans (State.mapChan_chan_other _ _ (Ne.symm h))

@[simp] theorem samplePoint_bed_reg (s : State) (c d : Chan) (v : Nat) (good uncertain : Bool) :
    (s.samplePoint (.bed c) v good uncertain).reg d = s.reg d := setCond_reg _ _ _ _ d

@[simp] theorem coolerInputs_samplePoint_bed (s : State) (c : Chan) (v : Nat) (good uncertain : Bool) :
    coolerInputs (s.samplePoint (.bed c) v good uncertain) = coolerInputs s := coolerInputs_setCond _ _ _ _

theorem matchPoint_bed {s : State} {c : Chan} {f : FanCfg} {src : Byte} (hf : s.fan? c = some f)
    (hsrc : src.toNat = c.val) : s.matchPoint src 3 = some (.bed c) := by
  have fuel : s.fuel? c = none := by
    unfold State.fan? at hf
    unfold State.fuel?
    cases hcfg : s.chanCfg c <;> simp_all
  simp [State.matchPoint, hsrc, chanOf, fuel, hf]

/-- The state after the sample point of a fan's bed pressure has taken a record, before the regulator is handed it. -/
def afterBedRecord (s : State) (c : Chan) (v : Word) (ql : Byte) : State :=
  s.endSilence.samplePoint (.bed c) (sampleValue (.bed c) v) (qualityGood ql) (qualityUncertain ql)

/-- The bed pressure point in that state. -/
def recordedBed (s : State) (c : Chan) (v : Word) (ql : Byte) : Point :=
  sampledBed s.endSilence c (sampleValue (.bed c) v) (qualityGood ql) (qualityUncertain ql)

@[simp] theorem coolerInputs_afterBedRecord (s : State) (c : Chan) (v : Word) (ql : Byte) :
    coolerInputs (afterBedRecord s c v ql) = coolerInputs s := by
  simp [afterBedRecord]

theorem afterBedRecord_fan? (s : State) (c d : Chan) (v : Word) (ql : Byte) :
    (afterBedRecord s c v ql).fan? d = s.fan? d := fan?_of_coolerInputs (coolerInputs_afterBedRecord s c v ql) d

@[simp] theorem afterBedRecord_reg (s : State) (c d : Chan) (v : Word) (ql : Byte) :
    (afterBedRecord s c v ql).reg d = s.reg d := by
  simp [afterBedRecord]

theorem afterBedRecord_chan_same (s : State) (c : Chan) (v : Word) (ql : Byte) :
    (afterBedRecord s c v ql).chan c = { s.chan c with bedPt := recordedBed s c v ql } := by
  rw [afterBedRecord, samplePoint_bed_chan_same, endSilence_chan, recordedBed]

theorem afterBedRecord_chan_other (s : State) {c d : Chan} (h : d ≠ c) (v : Word) (ql : Byte) :
    (afterBedRecord s c v ql).chan d = s.chan d := by
  rw [afterBedRecord, samplePoint_bed_chan_other _ h, endSilence_chan]

/-- The bed pressure in use after a record: the sampled one, or of a BAD sample the last good one, P_ref if none. -/
theorem recordedBed_pressure (s : State) (c : Chan) (v : Word) (ql : Byte) (pRef : Nat) :
    (recordedBed s c v ql).pressure pRef
      = if ql.toNat ≤ 1 then (if v.toNat < 32768 then min v.toNat 20000 else 0)
        else (s.chan c).bedPt.last.getD pRef := by
  by_cases good : ql.toNat ≤ 1
  · simp [recordedBed, sampledBed, qualityGood, good, Point.pressure, sampleValue_bed]
  · simp [recordedBed, sampledBed, qualityGood, good, Point.pressure]

/-- A bed pressure record at a fan: the point takes the sample, then the regulator is handed it. -/
theorem exec_sampleRecord_bed {s : State} {c : Chan} {f : FanCfg} {src : Byte} (hc : s.configured = true)
    (hf : s.fan? c = some f) (hsrc : src.toNat = c.val) (v : Word) (ql : Byte) (el : Word) :
    exec (.sampleRecord src 3 v ql el) s
      = .next (finish s ((afterBedRecord s c v ql).takeBed c f (sampleElapsed el))) := by
  have point : s.endSilence.matchPoint src 3 = some (.bed c) :=
    matchPoint_bed ((fan?_of_coolerInputs (coolerInputs_endSilence s) c).trans hf) hsrc
  have fan : (afterBedRecord s c v ql).fan? c = some f := (afterBedRecord_fan? s c c v ql).trans hf
  calc exec (.sampleRecord src 3 v ql el) s
      = execSampleRecord src 3 v ql el s := rfl
    _ = .next (finish s ((afterBedRecord s c v ql).handSample (.bed c) (sampleValue (.bed c) v) (qualityGood ql)
          (sampleElapsed el))) := by simp only [execSampleRecord, hc, if_true, point, afterBedRecord]
    _ = _ := by simp only [State.handSample, fan]

/-! ### Blow-through (06 R123, R124) -/

@[simp] theorem clearBlow_chan (s : State) (c d : Chan) : (s.clearBlow c).chan d = s.chan d := setCond_chan _ _ _ _ d

@[simp] theorem coolerInputs_clearBlow (s : State) (c : Chan) : coolerInputs (s.clearBlow c) = coolerInputs s :=
  coolerInputs_setCond _ _ _ _

@[simp] theorem clearBlow_frozen (s : State) (c : Chan) : ((s.clearBlow c).reg c).frozen = false := by
  simp [State.clearBlow]

/-- Judging blow-through leaves the fan, starts its clock, or clears its blow-through. -/
theorem judgeBlow_cases (s : State) (c : Chan) :
    s.judgeBlow c = s ∨ (∃ d, s.judgeBlow c = s.mapReg c fun r => { r with blowClock := some d })
      ∨ s.judgeBlow c = s.clearBlow c := by
  unfold State.judgeBlow
  repeat' split
  · exact .inl rfl
  · exact .inr (.inl ⟨_, rfl⟩)
  · exact .inl rfl
  · exact .inr (.inr rfl)

@[simp] theorem judgeBlow_chan (s : State) (c d : Chan) : (s.judgeBlow c).chan d = s.chan d := by
  obtain h | ⟨_, h⟩ | h := judgeBlow_cases s c
  · rw [h]
  · rw [h]; rfl
  · rw [h, clearBlow_chan]

@[simp] theorem coolerInputs_judgeBlow (s : State) (c : Chan) : coolerInputs (s.judgeBlow c) = coolerInputs s := by
  obtain h | ⟨_, h⟩ | h := judgeBlow_cases s c
  · rw [h]
  · rw [h, coolerInputs_mapReg]
  · rw [h, coolerInputs_clearBlow]

/-- A RUNNING fan stays frozen exactly while its bed pressure in use is below P_low. -/
theorem judgeBlow_frozen {s : State} {c : Chan} {f : FanCfg} (hf : s.fan? c = some f)
    (run : (s.chan c).state = .running) :
    ((s.judgeBlow c).reg c).frozen = true
      ↔ (s.reg c).frozen = true ∧ (s.chan c).bedPt.pressure f.pRef < f.pLow := by
  simp only [State.judgeBlow, hf, run, true_and]
  split
  case isTrue low => split <;> simp [low]
  case isFalse high => simp [high]

/-! ### The setpoint (06 R122) -/

/-- A channel record handed a flow setpoint: an unchanged one leaves it; a changed one is held and its SET_FLOW is in
flight under the tag counter's value, or pending behind the command in flight. -/
def flowOrdered (ch : Channel) (v : Nat) : Channel :=
  if ch.setpoint = v then ch
  else match ch.inFlight with
    | none => { ch with
        setpoint := v
        inFlight := some ⟨.setFlow v, ch.tagCtr, 1, 0, none⟩
        tagCtr := ch.tagCtr + 1 }
    | some _ => { ch with setpoint := v, queued := some (.setFlow v) }

@[simp] theorem issue_reg (s : State) (c d : Chan) (cmd : Cmd) : (s.issue c cmd).reg d = s.reg d := by
  unfold State.issue
  split <;> rfl

@[simp] theorem setFlow_reg (s : State) (c d : Chan) (v : Nat) : (s.setFlow c v).reg d = s.reg d := by
  unfold State.setFlow
  split
  case isTrue => rfl
  case isFalse => exact issue_reg _ _ _ _

theorem sendCmd_chan (s : State) (c d : Chan) (cmd : Cmd) (n : Nat) :
    (s.sendCmd c cmd n).chan d = (s.mapChan c fun ch => { ch with
      inFlight := some ⟨cmd, (s.chan c).tagCtr, n, 0, none⟩
      proof := ch.proofSent cmd n
      tagCtr := (s.chan c).tagCtr + 1 }).chan d := rfl

theorem sendCmd_chan_other (s : State) {c d : Chan} (h : d ≠ c) (cmd : Cmd) (n : Nat) :
    (s.sendCmd c cmd n).chan d = s.chan d := by
  rw [sendCmd_chan, State.mapChan_chan_other _ _ (Ne.symm h)]

theorem issue_chan_other (s : State) {c d : Chan} (h : d ≠ c) (cmd : Cmd) : (s.issue c cmd).chan d = s.chan d := by
  unfold State.issue
  split
  case h_1 => exact sendCmd_chan_other _ h _ _
  case h_2 => exact State.mapChan_chan_other _ _ (Ne.symm h)

theorem setFlow_chan_other (s : State) {c d : Chan} (h : d ≠ c) (v : Nat) : (s.setFlow c v).chan d = s.chan d := by
  unfold State.setFlow
  split
  case isTrue => rfl
  case isFalse => rw [issue_chan_other _ h, State.mapChan_chan_other _ _ (Ne.symm h)]

/-- A SET_FLOW is in flight under the tag counter's value. -/
theorem sendCmd_setFlow_chan (s : State) (c : Chan) (v : Nat) :
    (s.sendCmd c (.setFlow v) 1).chan c = { s.chan c with
      inFlight := some ⟨.setFlow v, (s.chan c).tagCtr, 1, 0, none⟩
      tagCtr := (s.chan c).tagCtr + 1 } := by
  simp [sendCmd_chan, Channel.proofSent]

/-- A SET_FLOW takes the pending place, whatever is pending. -/
theorem enqueue_setFlow (ch : Channel) (v : Nat) :
    ch.enqueue (.setFlow v) = { ch with queued := some (.setFlow v) } := by
  simp [Channel.enqueue]

theorem setFlow_chan_same (s : State) (c : Chan) (v : Nat) :
    (s.setFlow c v).chan c = flowOrdered (s.chan c) v := by
  unfold State.setFlow flowOrdered
  split
  case isTrue => rfl
  case isFalse =>
    cases h : (s.chan c).inFlight with
    | none => simp [State.issue, h, sendCmd_setFlow_chan]
    | some fl => simp [State.issue, h, enqueue_setFlow]

@[simp] theorem flowOrdered_setpoint (ch : Channel) (v : Nat) : (flowOrdered ch v).setpoint = v := by
  unfold flowOrdered
  split
  case isTrue same => exact same
  case isFalse => split <;> rfl

@[simp] theorem flowOrdered_state (ch : Channel) (v : Nat) : (flowOrdered ch v).state = ch.state := by
  unfold flowOrdered
  split
  case isTrue => rfl
  case isFalse => split <;> rfl

theorem flowOrdered_same {ch : Channel} {v : Nat} (h : v = ch.setpoint) : flowOrdered ch v = ch := if_pos h.symm

/-- Of a changed setpoint with no command in flight: its SET_FLOW is. -/
theorem flowOrdered_idle {ch : Channel} {v : Nat} (h : v ≠ ch.setpoint) (idle : ch.inFlight = none) :
    (flowOrdered ch v).inFlight = some ⟨.setFlow v, ch.tagCtr, 1, 0, none⟩ := by
  simp [flowOrdered, h.symm, idle]

/-- Of a changed setpoint behind a command in flight: that command stays, and SET_FLOW is pending. -/
theorem flowOrdered_busy {ch : Channel} {v : Nat} (h : v ≠ ch.setpoint) (busy : ch.inFlight ≠ none) :
    (flowOrdered ch v).inFlight = ch.inFlight ∧ (flowOrdered ch v).queued = some (.setFlow v) := by
  obtain ⟨fl, hfl⟩ := Option.ne_none_iff_exists'.mp busy
  simp [flowOrdered, h.symm, hfl]

/-! ### The computation (06 R117, R122, R124) -/

/-- The setpoint that a computation of the terms `k` gives a fan: the present one while it is frozen. -/
def nextSetpoint (s : State) (c : Chan) (k : Computation) : Nat :=
  if (s.reg c).frozen then (s.chan c).setpoint else moveToward (s.chan c).setpoint k.f5 k.stepLimit

/-- The regulator record that keeps the terms `k` of a computation at a setpoint `prev`. -/
def keepTerms (r : Regulator) (k : Computation) (prev : Nat) : Regulator :=
  { r with last := some k, slewLimited := decide (k.stepLimit < absDiff prev k.f5) }

/-- A computation keeps its terms and hands CE the next setpoint; while frozen that is the present one. -/
theorem computeFan_eq {s : State} {c : Chan} {f : FanCfg} (role : f.role = .cooler)
    (run : (s.chan c).state = .running) (dec : s.decides = true) (e : Nat) :
    s.computeFan c f e = (s.mapReg c fun r => keepTerms r (s.computation c f e) (s.chan c).setpoint).setFlow c
      (nextSetpoint s c (s.computation c f e)) := by
  have mode : s.pt.mode = .normal ∨ s.pt.mode = .isolated := by simpa [State.decides] using dec
  rw [State.computeFan, if_pos ⟨role, run, mode⟩, nextSetpoint]
  dsimp only
  split
  case isTrue => exact (if_pos rfl).symm
  case isFalse => rfl

/-- The next setpoint is the present one while the fan is frozen at a bed pressure below P_low. -/
theorem nextSetpoint_judgeBlow {s : State} {c : Chan} {f : FanCfg} (hf : s.fan? c = some f)
    (run : (s.chan c).state = .running) (k : Computation) :
    nextSetpoint (s.judgeBlow c) c k
      = if (s.reg c).frozen = true ∧ (s.chan c).bedPt.pressure f.pRef < f.pLow then (s.chan c).setpoint
        else moveToward (s.chan c).setpoint k.f5 k.stepLimit := by
  simp only [nextSetpoint, judgeBlow_frozen hf run, judgeBlow_chan]

section

variable {s : State} {c : Chan} {f : FanCfg} (role : f.role = .cooler) (run : (s.chan c).state = .running)
  (dec : s.decides = true) (e : Nat)
include role run dec

/-- A sample handed to a RUNNING COOLER fan: blow-through is judged, then the next setpoint is handed to CE. -/
theorem takeBed_eq :
    s.takeBed c f e
      = ((s.judgeBlow c).mapReg c fun r => keepTerms r (s.computation c f e) (s.chan c).setpoint).setFlow c
        (nextSetpoint (s.judgeBlow c) c (s.computation c f e)) := by
  have inputs := coolerInputs_judgeBlow s c
  have terms : (s.judgeBlow c).computation c f e = s.computation c f e := by
    rw [computation_of_coolerInputs inputs, judgeBlow_chan]
    rfl
  rw [State.takeBed, computeFan_eq role (by rw [judgeBlow_chan, run]) (by rw [decides_of_coolerInputs inputs, dec]),
    terms, judgeBlow_chan]

theorem takeBed_reg :
    ((s.takeBed c f e).reg c).last = some (s.computation c f e)
      ∧ ((s.takeBed c f e).reg c).slewLimited
        = decide ((s.computation c f e).stepLimit < absDiff (s.chan c).setpoint (s.computation c f e).f5) := by
  rw [takeBed_eq role run dec, setFlow_reg, State.mapReg_reg_same]
  exact ⟨rfl, rfl⟩

theorem takeBed_chan_same :
    (s.takeBed c f e).chan c
      = flowOrdered (s.chan c) (nextSetpoint (s.judgeBlow c) c (s.computation c f e)) := by
  rw [takeBed_eq role run dec, setFlow_chan_same]
  exact congrArg (flowOrdered · _) (judgeBlow_chan s c c)

theorem takeBed_chan_other {d : Chan} (h : d ≠ c) : (s.takeBed c f e).chan d = s.chan d := by
  rw [takeBed_eq role run dec, setFlow_chan_other _ h]
  exact judgeBlow_chan s c d

end

/-! ### The sample at a fan -/

theorem afterBedRecord_computation (s : State) (c : Chan) (f : FanCfg) (v : Word) (ql : Byte) (e : Nat) :
    (afterBedRecord s c v ql).computation c f e
      = coolTerms f s.tLim (s.demand f.loadZone).dEff (s.zoneParam f.loadZone ZoneCfg.nominalHeat)
        ((recordedBed s c v ql).pressure f.pRef) (s.cr.held.get f.zone) s.tOut e := by
  rw [computation_of_coolerInputs (coolerInputs_afterBedRecord s c v ql), afterBedRecord_chan_same]

theorem afterBedRecord_nextSetpoint {s : State} {c : Chan} {f : FanCfg} (hf : s.fan? c = some f)
    (run : (s.chan c).state = .running) (v : Word) (ql : Byte) (k : Computation) :
    nextSetpoint ((afterBedRecord s c v ql).judgeBlow c) c k
      = if (s.reg c).frozen = true ∧ (recordedBed s c v ql).pressure f.pRef < f.pLow then (s.chan c).setpoint
        else moveToward (s.chan c).setpoint k.f5 k.stepLimit := by
  have fan : (afterBedRecord s c v ql).fan? c = some f := (afterBedRecord_fan? s c c v ql).trans hf
  rw [nextSetpoint_judgeBlow fan (by rw [afterBedRecord_chan_same, run]), afterBedRecord_reg, afterBedRecord_chan_same]

/-- Settles O42: the record takes its sample point, the regulator computes from the state so left, and CE is handed
the next setpoint. -/
theorem bedSampleMovesFan : Obligations.BedSampleMovesFan := by
  intro s src ql v el c f l p e prev f5 lim new f1 f2 f3 f4 hc hf hsrc role run dec limits hp he hprev hl hf1 hf2 hf3
    hf4 hf5 hlim hnew
  have chan := afterBedRecord_chan_same s c v ql
  have run' : ((afterBedRecord s c v ql).chan c).state = .running := by rw [chan, run]
  have dec' : (afterBedRecord s c v ql).decides = true :=
    (decides_of_coolerInputs (coolerInputs_afterBedRecord s c v ql)).trans dec
  have setpoint : ((afterBedRecord s c v ql).chan c).setpoint = prev := by rw [chan, hprev]
  have inFlight : ((afterBedRecord s c v ql).chan c).inFlight = (s.chan c).inFlight := by rw [chan]
  have queued : ((afterBedRecord s c v ql).chan c).queued = (s.chan c).queued := by rw [chan]
  have tag : ((afterBedRecord s c v ql).chan c).tagCtr = (s.chan c).tagCtr := by rw [chan]
  have pressure : (recordedBed s c v ql).pressure f.pRef = p := by rw [recordedBed_pressure, hp]
  have terms : (afterBedRecord s c v ql).computation c f (sampleElapsed el) = ⟨l, f1, f2, f3, f4, f5, e, lim⟩ := by
    have load : loadRatio (s.demand f.loadZone).dEff (s.zoneParam f.loadZone ZoneCfg.nominalHeat) = l := by
      rw [loadRatio_eq, hl]
    have base : (roundDiv (f.fbase * l) 1000 : Int) = f1 := hf1.symm
    have bed : f1 + bedTerm f p = f2 := hf2.symm
    have pull : f2 + (ceilDiv (s.cr.held.get f.zone * f.pull) 1000 : Nat) = f3 := hf3.symm
    have temp : f3 + tempTerm f s.tLim s.tOut = f4 := hf4.symm
    have goal : clampFlow f f4 = f5 := Int.ofNat.inj ((clampFlow_eq limits f4).trans hf5.symm)
    have elapsed : sampleElapsed el = e := he.symm
    have limit : stepLimit f.slew e = lim := hlim.symm
    rw [afterBedRecord_computation]
    simp only [coolTerms, pressure, load, base, bed, pull, temp, goal, elapsed, limit]
  have next : nextSetpoint ((afterBedRecord s c v ql).judgeBlow c) c ⟨l, f1, f2, f3, f4, f5, e, lim⟩ = new := by
    rw [afterBedRecord_nextSetpoint hf run, pressure, ← hprev, hnew, moveToward]
  have after := takeBed_chan_same role run' dec' (sampleElapsed el)
  rw [terms, next] at after
  obtain ⟨last, slewLimited⟩ := takeBed_reg role run' dec' (sampleElapsed el)
  rw [terms] at last slewLimited
  refine ⟨_, exec_sampleRecord_bed hc hf hsrc v ql el, ?setpoint, last, ?slewLimited, fun same => ?unchanged,
    fun changed idle => ?idle, fun changed busy => ?busy, ?state, fun d hd => ?others⟩
  case setpoint => rw [after, flowOrdered_setpoint]
  case slewLimited => rw [slewLimited, setpoint, absDiff, Nat.add_comm]
  case unchanged =>
    rw [after, flowOrdered_same (same.trans setpoint.symm)]
    exact ⟨inFlight, queued⟩
  case idle => rw [after, flowOrdered_idle (setpoint ▸ changed) (inFlight.trans idle), tag]
  case busy =>
    rw [after, ← inFlight]
    exact flowOrdered_busy (setpoint ▸ changed) (inFlight ▸ busy)
  case state => rw [after, flowOrdered_state, run']
  case others => rw [takeBed_chan_other role run' dec' _ hd, afterBedRecord_chan_other _ hd]

end Sys2Proof.Proofs
end

section
/-! PROOF. The transmit and the receive queue (01 section 1.3): what makes a queue sound, and that each operation on a
queue keeps it so. -/

namespace Sys2Proof.Proofs

open Sys2Proof.Machine

/-! ### A sound transmit queue -/

/-- Two frames that coalescing never leaves waiting beside each other: ALERTs or DEMANDs of one key (01 R11). -/
def SameAlertKey (f g : TxFrame) : Prop := (f.cls = .alert ∨ f.cls = .demand) ∧ matchesKey f.cls f.payload g = true

/-- The part of `State.LineSound` that speaks of the transmit queue of a configured station. -/
structure TxSound (q : List TxFrame) : Prop where
  length_le : q.length ≤ 12
  ordered : q.Pairwise fun f g => f.cls.code ≤ g.cls.code
  oneInSend : q.countP TxFrame.inSend ≤ 1
  oneSnap : q.countP (fun f => f.cls == .snap) ≤ 1
  coalesced : (q.filter fun f => !f.inSend).Pairwise fun f g => ¬ SameAlertKey f g

theorem lineSound_iff (s : State) : s.LineSound ↔ TxSound s.li.tx ∧ s.li.rx.length ≤ 8
    ∧ (s.pt.mode = .unconfigured → s.li.tx = [] ∧ s.li.rx = []) :=
  ⟨fun ⟨h1, h2, h3, h4, h5, h6, h7⟩ => ⟨⟨h1, h2, h3, h4, h5⟩, h6, h7⟩,
    fun ⟨⟨h1, h2, h3, h4, h5⟩, h6, h7⟩ => ⟨h1, h2, h3, h4, h5, h6, h7⟩⟩

theorem txSound_nil : TxSound [] := ⟨by simp, by simp, by simp, by simp, by simp⟩

/-- A part of a sound queue is sound. -/
theorem TxSound.sublist {q r : List TxFrame} (h : TxSound q) (sub : r.Sublist q) : TxSound r where
  length_le := sub.length_le.trans h.length_le
  ordered := h.ordered.sublist sub
  oneInSend := (sub.countP_le).trans h.oneInSend
  oneSnap := (sub.countP_le).trans h.oneSnap
  coalesced := h.coalesced.sublist (sub.filter _)

theorem matchesKey_congr (cls : FrameClass) (p : List Word) {f g : TxFrame} (hc : g.cls = f.cls)
    (hp : g.payload = f.payload) : matchesKey cls p g = matchesKey cls p f := by
  simp only [matchesKey, hc, hp]

/-- A rewriting of the frames that leaves class, payload and the send in progress leaves what makes a queue sound. -/
theorem txSound_map (q : List TxFrame) {r : TxFrame → TxFrame} (hc : ∀ f, (r f).cls = f.cls)
    (hp : ∀ f, (r f).payload = f.payload) (hs : ∀ f, (r f).inSend = f.inSend) : TxSound (q.map r) ↔ TxSound q := by
  have key : ∀ f g, SameAlertKey (r f) (r g) ↔ SameAlertKey f g := fun f g => by
    simp only [SameAlertKey, hc, hp, matchesKey_congr f.cls f.payload (hc g) (hp g)]
  have coalesced : ((q.map r).filter fun f => !f.inSend).Pairwise (fun f g => ¬ SameAlertKey f g)
      ↔ (q.filter fun f => !f.inSend).Pairwise fun f g => ¬ SameAlertKey f g := by
    simp only [List.filter_map, Function.comp_def, hs, List.pairwise_map, key]
  constructor
  · intro h
    exact ⟨by simpa using h.length_le, by simpa [List.pairwise_map, hc] using h.ordered,
      by simpa [List.countP_map, Function.comp_def, hs] using h.oneInSend,
      by simpa [List.countP_map, Function.comp_def, hc] using h.oneSnap, coalesced.mp h.coalesced⟩
  · intro h
    exact ⟨by simpa using h.length_le, by simpa [List.pairwise_map, hc] using h.ordered,
      by simpa [List.countP_map, Function.comp_def, hs] using h.oneInSend,
      by simpa [List.countP_map, Function.comp_def, hc] using h.oneSnap, coalesced.mpr h.coalesced⟩

/-- The part of a frame that the soundness of its queue reads. -/
def frameCore (f : TxFrame) : TxFrame := ⟨f.cls, 0, f.payload, 0, 0, f.inSend, 0, 0⟩

/-- A frame rewritten in its place, but for class, payload and the send in progress, leaves its queue sound. -/
theorem TxSound.set {q : List TxFrame} (h : TxSound q) {i : Nat} {f g : TxFrame} (hg : q[i]? = some g)
    (core : frameCore f = frameCore g) : TxSound (q.set i f) := by
  have soundCore : ∀ l : List TxFrame, TxSound (l.map frameCore) ↔ TxSound l := fun l =>
    txSound_map l (fun _ => rfl) (fun _ => rfl) fun _ => rfl
  obtain ⟨hi, rfl⟩ := List.getElem?_eq_some_iff.mp hg
  rw [← soundCore, List.map_set, core, ← List.getElem_map frameCore (h := by simpa using hi), List.set_getElem_self,
    soundCore]
  exact h

/-! ### A new frame (01 R10) -/

theorem insertFrame_perm (f : TxFrame) (q : List TxFrame) : (insertFrame f q).Perm (f :: q) := by
  induction q with
  | nil => exact .refl _
  | cons g rest ih =>
    rw [insertFrame]
    split
    case isTrue => exact (ih.cons g).trans (.swap f g rest)
    case isFalse => exact .refl _

@[simp] theorem mem_insertFrame {f g : TxFrame} {q : List TxFrame} : g ∈ insertFrame f q ↔ g = f ∨ g ∈ q := by
  rw [(insertFrame_perm f q).mem_iff, List.mem_cons]

theorem insertFrame_ordered (f : TxFrame) {q : List TxFrame} (h : q.Pairwise fun f g => f.cls.code ≤ g.cls.code) :
    (insertFrame f q).Pairwise fun f g => f.cls.code ≤ g.cls.code := by
  induction q with
  | nil => simp [insertFrame]
  | cons g rest ih =>
    rw [List.pairwise_cons] at h
    obtain ⟨below, rest_ordered⟩ := h
    rw [insertFrame]
    split
    case isTrue le =>
      rw [List.pairwise_cons]
      refine ⟨fun x hx => ?_, ih rest_ordered⟩
      obtain rfl | hx := mem_insertFrame.mp hx
      · exact le
      · exact below x hx
    case isFalse gt =>
      rw [List.pairwise_cons]
      refine ⟨fun x hx => ?_, List.pairwise_cons.mpr ⟨below, rest_ordered⟩⟩
      obtain rfl | hx := List.mem_cons.mp hx
      · omega
      · have := below x hx
        omega

theorem sameAlertKey_symm {f g : TxFrame} (h : SameAlertKey f g) : SameAlertKey g f := by
  obtain ⟨hc, hk⟩ := h
  simp only [matchesKey, Bool.and_eq_true, beq_iff_eq] at hk
  obtain ⟨cls, key⟩ := hk
  refine ⟨cls ▸ hc, ?_⟩
  obtain hc | hc := hc <;> simp_all [matchesKey, sameKey]

/-- A frame for which nothing waits under its key, no SNAP beside another, joins a queue with a free place. -/
theorem TxSound.insert {q : List TxFrame} (h : TxSound q) {f : TxFrame} (free : q.length < 12)
    (waits : f.inSend = false) (snap : f.cls = .snap → ∀ g ∈ q, g.cls ≠ .snap)
    (key : ∀ g ∈ q, g.inSend = false → ¬ SameAlertKey f g) : TxSound (insertFrame f q) where
  length_le := by rw [(insertFrame_perm f q).length_eq]; exact free
  ordered := insertFrame_ordered f h.ordered
  oneInSend := by
    rw [(insertFrame_perm f q).countP_eq, List.countP_cons]
    simpa [waits] using h.oneInSend
  oneSnap := by
    rw [(insertFrame_perm f q).countP_eq, List.countP_cons]
    by_cases hf : f.cls = .snap
    · have none : q.countP (fun g => g.cls == .snap) = 0 := by
        simpa [List.countP_eq_zero] using snap hf
      simp [none, hf]
    · simpa [hf] using h.oneSnap
  coalesced := by
    have perm : ((insertFrame f q).filter fun g => !g.inSend).Perm (f :: q.filter fun g => !g.inSend) := by
      simpa [waits] using (insertFrame_perm f q).filter fun g => !g.inSend
    refine (perm.pairwise_iff fun hfg hgf => hfg (sameAlertKey_symm hgf)).mpr ?_
    refine List.pairwise_cons.mpr ⟨fun g hg => ?_, h.coalesced⟩
    simp only [List.mem_filter, Bool.not_eq_true'] at hg
    exact key g hg.1 hg.2

/-! ### The frame of a key replaced (01 R11) -/

theorem replaceable_iff {cls : FrameClass} {p : List Word} {g : TxFrame} :
    replaceable cls p g = true ↔ g.inSend = false ∧ cls ≠ .ack ∧ matchesKey cls p g = true := by
  simp [replaceable, and_assoc]

theorem matchesKey_cls {cls : FrameClass} {p : List Word} {g : TxFrame} (h : matchesKey cls p g = true) :
    g.cls = cls := by
  simp only [matchesKey, Bool.and_eq_true, beq_iff_eq] at h
  exact h.1

/-- The offered frame in the place of `g`: with the age and the collision count of `g` (01 R6, R10, R11). -/
def replacedBy (f g : TxFrame) : TxFrame :=
  if replaceable f.cls f.payload g then { f with age := g.age, collisions := g.collisions } else g

theorem enqueueReplace_tx (s : State) (f : TxFrame) : (s.enqueueReplace f).li.tx = s.li.tx.map (replacedBy f) := rfl

theorem replacedBy_cls (f g : TxFrame) : (replacedBy f g).cls = g.cls := by
  unfold replacedBy
  split
  case isTrue h => exact (matchesKey_cls (replaceable_iff.mp h).2.2).symm
  case isFalse => rfl

theorem replacedBy_inSend {f : TxFrame} (hf : f.inSend = false) (g : TxFrame) :
    (replacedBy f g).inSend = g.inSend := by
  unfold replacedBy
  split
  case isTrue h => exact hf.trans (replaceable_iff.mp h).1.symm
  case isFalse => rfl

/-- Of a class that coalesces by key, the replacing frame carries the key of the frame it replaces. -/
theorem sameAlertKey_replacedBy {f a b : TxFrame} (h : SameAlertKey (replacedBy f a) (replacedBy f b)) :
    SameAlertKey a b := by
  have cls := matchesKey_cls h.2
  rw [replacedBy_cls, replacedBy_cls] at cls
  obtain ⟨hc, hk⟩ := h
  rw [replacedBy_cls] at hc hk
  refine ⟨hc, ?_⟩
  have keyOf : ∀ g : TxFrame, g.cls = .alert ∨ g.cls = .demand →
      hiByte ((replacedBy f g).payload.headD 0) = hiByte (g.payload.headD 0) := by
    intro g hg
    unfold replacedBy
    split
    case isTrue r =>
      have m := (replaceable_iff.mp r).2.2
      have same := matchesKey_cls m
      simp only [matchesKey, Bool.and_eq_true, beq_iff_eq] at m
      obtain hg | hg := hg
      · simpa [sameKey, ← same, hg] using m.2
      · simpa [sameKey, ← same, hg] using m.2
    case isFalse => rfl
  have ka := keyOf a hc
  have kb := keyOf b (cls ▸ hc)
  simp only [matchesKey, replacedBy_cls, cls, beq_self_eq_true, Bool.true_and] at hk ⊢
  obtain hc | hc := hc
  · simpa only [hc, sameKey, ka, kb] using hk
  · simpa only [hc, sameKey, ka, kb] using hk

theorem TxSound.replace {q : List TxFrame} (h : TxSound q) {f : TxFrame} (waits : f.inSend = false) :
    TxSound (q.map (replacedBy f)) where
  length_le := by simpa using h.length_le
  ordered := by simpa [List.pairwise_map, replacedBy_cls] using h.ordered
  oneInSend := by simpa [List.countP_map, Function.comp_def, replacedBy_inSend waits] using h.oneInSend
  oneSnap := by simpa [List.countP_map, Function.comp_def, replacedBy_cls] using h.oneSnap
  coalesced := by
    rw [List.filter_map, List.pairwise_map]
    simp only [Function.comp_def, replacedBy_inSend waits]
    exact h.coalesced.imp fun hab hk => hab (sameAlertKey_replacedBy hk)

/-! ### Eviction (01 R12) -/

theorem youngestOf_some {m i : Nat} {q : List TxFrame} (h : youngestOf m q = some i) :
    ∃ g, q[i]? = some g ∧ g.inSend = false ∧ g.cls.code = m := by
  unfold youngestOf at h
  obtain ⟨x, hx, rfl⟩ := Option.map_eq_some_iff.mp h
  have hx := List.mem_of_getLast? hx
  simp only [List.mem_filter, Bool.and_eq_true, Bool.not_eq_true', beq_iff_eq] at hx
  exact ⟨x.1, List.mem_zipIdx_iff_getElem?.mp hx.1, hx.2.1, hx.2.2⟩

theorem surplusTrip_some {i : Nat} {q : List TxFrame} (h : surplusTrip q = some i) :
    ∃ g, q[i]? = some g ∧ g.inSend = false ∧ g.cls = .trip := by
  unfold surplusTrip at h
  obtain ⟨hi, hg, -⟩ := List.findIdx?_eq_some_iff_getElem.mp h
  simp only [Bool.and_eq_true, Bool.not_eq_true', beq_iff_eq] at hg
  exact ⟨q[i], List.getElem?_eq_getElem hi, hg.1.1, hg.1.2⟩

/-- What is evicted waits in the queue. -/
theorem evictee_some {cls : FrameClass} {q : List TxFrame} {i : Nat} {b : Bool} (h : evictee cls q = some (i, b)) :
    ∃ g, q[i]? = some g ∧ g.inSend = false := by
  unfold evictee at h
  split at h
  · obtain ⟨j, hj, e⟩ := Option.map_eq_some_iff.mp h
    cases e
    obtain ⟨g, hg, hs, -⟩ := youngestOf_some hj
    exact ⟨g, hg, hs⟩
  · split at h
    · obtain ⟨j, hj, e⟩ := Option.map_eq_some_iff.mp h
      cases e
      obtain ⟨g, hg, hs, -⟩ := surplusTrip_some hj
      exact ⟨g, hg, hs⟩
    · cases h

@[simp] theorem loseFrame_li (s : State) (f : TxFrame) : (s.loseFrame f).li = s.li := by
  unfold State.loseFrame
  repeat' split
  all_goals rfl

@[simp] theorem loseFrame_pt (s : State) (f : TxFrame) : (s.loseFrame f).pt = s.pt := by
  unfold State.loseFrame
  repeat' split
  all_goals rfl

@[simp] theorem loseFrame_config (s : State) (f : TxFrame) : (s.loseFrame f).config = s.config := by
  unfold State.loseFrame
  repeat' split
  all_goals rfl

theorem evictAt_tx {s : State} {i : Nat} {g : TxFrame} (h : s.li.tx[i]? = some g) (b : Bool) :
    (s.evictAt i b).li.tx = s.li.tx.eraseIdx i := by
  unfold State.evictAt
  rw [h]
  dsimp only
  split
  · rfl
  · rw [loseFrame_li]; rfl

@[simp] theorem evictAt_rx (s : State) (i : Nat) (b : Bool) : (s.evictAt i b).li.rx = s.li.rx := by
  unfold State.evictAt
  split
  · split
    · rfl
    · rw [loseFrame_li]; rfl
  · rfl

@[simp] theorem evictAt_pt (s : State) (i : Nat) (b : Bool) : (s.evictAt i b).pt = s.pt := by
  unfold State.evictAt
  split
  · split
    · rfl
    · rw [loseFrame_pt]; rfl
  · rfl

/-! ### An offer (01 R11, R12) -/

/-- The cases of an offer: refused or already queued, replacing, joining, or joining in the place of an evicted frame. -/
theorem offer_cases (s : State) (cls : FrameClass) (p : List Word) (r k : Nat) :
    ((s.offer cls p r k).1 = s ∧ (s.offer cls p r k).2 ≠ .accepted)
    ∨ (s.pt.mode ≠ .unconfigured ∧ (s.offer cls p r k).2 = .accepted
      ∧ ((s.li.tx.any (replaceable cls p) = true
          ∧ (s.offer cls p r k).1 = s.enqueueReplace (s.newFrame cls p r k))
        ∨ (s.li.tx.any (replaceable cls p) = false ∧ (cls = .snap → s.li.tx.any (matchesKey cls p) = false)
          ∧ ((s.li.tx.length < 12 ∧ (s.offer cls p r k).1 = s.enqueueNew (s.newFrame cls p r k))
            ∨ (12 ≤ s.li.tx.length ∧ ∃ i b, evictee cls s.li.tx = some (i, b)
              ∧ (s.offer cls p r k).1 = (s.evictAt i b).enqueueNew (s.newFrame cls p r k)))))) := by
  unfold State.offer
  dsimp only
  split
  case isTrue => exact .inl ⟨rfl, by simp⟩
  case isFalse mode =>
  split
  case isTrue => exact .inl ⟨rfl, by simp⟩
  case isFalse =>
  split
  case isTrue rep => exact .inr ⟨mode, rfl, .inl ⟨rep, rfl⟩⟩
  case isFalse rep =>
  split
  case isTrue => exact .inl ⟨rfl, by simp⟩
  case isFalse snap =>
  have rep : s.li.tx.any (replaceable cls p) = false := by simpa using rep
  have snap : cls = .snap → s.li.tx.any (matchesKey cls p) = false := by simpa using snap
  split
  case isTrue free => exact .inr ⟨mode, rfl, .inr ⟨rep, snap, .inl ⟨free, rfl⟩⟩⟩
  case isFalse full =>
  split
  case h_1 i b he => exact .inr ⟨mode, rfl, .inr ⟨rep, snap, .inr ⟨by omega, i, b, he, rfl⟩⟩⟩
  case h_2 => exact .inl ⟨rfl, by simp⟩

@[simp] theorem offer_rx (s : State) (cls : FrameClass) (p : List Word) (r k : Nat) :
    (s.offer cls p r k).1.li.rx = s.li.rx := by
  obtain ⟨h, -⟩ | ⟨-, -, ⟨-, h⟩ | ⟨-, -, ⟨-, h⟩ | ⟨-, i, b, -, h⟩⟩⟩ := offer_cases s cls p r k
  · rw [h]
  · rw [h]; rfl
  · rw [h]; rfl
  · rw [h]; exact evictAt_rx s i b

@[simp] theorem offer_pt (s : State) (cls : FrameClass) (p : List Word) (r k : Nat) :
    (s.offer cls p r k).1.pt = s.pt := by
  obtain ⟨h, -⟩ | ⟨-, -, ⟨-, h⟩ | ⟨-, -, ⟨-, h⟩ | ⟨-, i, b, -, h⟩⟩⟩ := offer_cases s cls p r k
  · rw [h]
  · rw [h]; rfl
  · rw [h]; rfl
  · rw [h]; exact evictAt_pt s i b

/-- A new frame of a queue in which nothing is replaceable by it. -/
theorem TxSound.insertNew {s : State} {q : List TxFrame} (h : TxSound q) (sub : q.Sublist s.li.tx) (free : q.length < 12)
    {cls : FrameClass} {p : List Word} {r k : Nat} (rep : s.li.tx.any (replaceable cls p) = false)
    (snap : cls = .snap → s.li.tx.any (matchesKey cls p) = false) :
    TxSound (insertFrame (s.newFrame cls p r k) q) := by
  refine h.insert free rfl (fun hc g hg hgc => ?_) (fun g hg hs hk => ?_)
  · have hc : cls = .snap := hc
    have none := List.any_eq_false.mp (snap hc) g (sub.subset hg)
    simp [matchesKey, hgc, hc, sameKey] at none
  · obtain ⟨hc, hk⟩ := hk
    have none := List.any_eq_false.mp rep g (sub.subset hg)
    refine none (replaceable_iff.mpr ⟨hs, ?_, hk⟩)
    rintro rfl
    obtain hc | hc := hc <;> cases hc

theorem offer_txSound {s : State} (h : TxSound s.li.tx) (cls : FrameClass) (p : List Word) (r k : Nat) :
    TxSound (s.offer cls p r k).1.li.tx := by
  obtain ⟨e, -⟩ | ⟨-, -, ⟨-, e⟩ | ⟨rep, snap, ⟨free, e⟩ | ⟨full, i, b, he, e⟩⟩⟩ := offer_cases s cls p r k
  · rw [e]; exact h
  · rw [e, enqueueReplace_tx]; exact h.replace rfl
  · rw [e]; exact h.insertNew (.refl _) free rep snap
  · obtain ⟨g, hg, -⟩ := evictee_some he
    have hi : i < s.li.tx.length := (List.getElem?_eq_some_iff.mp hg).1
    have sub := List.eraseIdx_sublist s.li.tx i
    have tx := evictAt_tx hg b
    rw [e]
    change TxSound (insertFrame (s.newFrame cls p r k) (s.evictAt i b).li.tx)
    rw [tx]
    refine (h.sublist sub).insertNew sub ?_ rep snap
    have := h.length_le
    rw [List.length_eraseIdx_of_lt hi]
    omega

theorem offer_unconfigured {s : State} (h : s.pt.mode = .unconfigured) (cls : FrameClass) (p : List Word) (r k : Nat) :
    (s.offer cls p r k).1 = s := by
  unfold State.offer
  simp [h]

theorem offer_lineSound {s : State} (h : s.LineSound) (cls : FrameClass) (p : List Word) (r k : Nat) :
    (s.offer cls p r k).1.LineSound := by
  obtain ⟨tx, rx, off⟩ := (lineSound_iff s).mp h
  refine (lineSound_iff _).mpr ⟨offer_txSound tx cls p r k, by rw [offer_rx]; exact rx, fun hm => ?_⟩
  rw [offer_pt] at hm
  rw [offer_unconfigured hm]
  exact off hm

/-! ### The send of a frame (01 R3, R5) -/

/-- Without a send in progress the head may start its send. -/
theorem TxSound.startSend {f : TxFrame} {rest : List TxFrame} (h : TxSound (f :: rest))
    (idle : (f :: rest).any TxFrame.inSend = false) : TxSound ({ f with inSend := true } :: rest) where
  length_le := h.length_le
  ordered := by simpa [List.pairwise_cons] using h.ordered
  oneInSend := by
    have none : rest.countP TxFrame.inSend = 0 := by
      simp only [List.any_cons, Bool.or_eq_false_iff, List.any_eq_false] at idle
      exact List.countP_eq_zero.mpr idle.2
    simp [none]
  oneSnap := by simpa [List.countP_cons] using h.oneSnap
  coalesced := by
    refine h.coalesced.sublist ?_
    rw [List.filter_cons_of_neg (by simp)]
    exact (List.sublist_cons_self f rest).filter _

/-- After a collision without a newer frame of its key the frame waits again in its place. -/
theorem TxSound.stopSend {q : List TxFrame} (h : TxSound q) (n : Nat)
    (single : ∀ f ∈ q, f.inSend = true → ∀ g ∈ q, g.inSend = false → ¬ SameAlertKey f g) :
    TxSound (q.map fun g => if g.inSend then { g with inSend := false, collisions := n } else g) := by
  have cls : ∀ g : TxFrame, (if g.inSend then { g with inSend := false, collisions := n } else g).cls = g.cls := by
    intro g; split <;> rfl
  have payload : ∀ g : TxFrame,
      (if g.inSend then { g with inSend := false, collisions := n } else g).payload = g.payload := by
    intro g; split <;> rfl
  have waits : ∀ g : TxFrame,
      (if g.inSend then { g with inSend := false, collisions := n } else g).inSend = false := by
    intro g; split
    · rfl
    · simp_all
  constructor
  case length_le => simpa using h.length_le
  case ordered => simpa [List.pairwise_map, cls] using h.ordered
  case oneInSend => simp [List.countP_map, Function.comp_def, waits]
  case oneSnap => simpa [List.countP_map, Function.comp_def, cls] using h.oneSnap
  case coalesced =>
    have key : ∀ f g : TxFrame, SameAlertKey (if f.inSend then { f with inSend := false, collisions := n } else f)
        (if g.inSend then { g with inSend := false, collisions := n } else g) ↔ SameAlertKey f g := fun f g => by
      simp only [SameAlertKey, cls, payload, matchesKey_congr f.cls f.payload (cls g) (payload g)]
    simp only [List.filter_map, Function.comp_def, waits, Bool.not_false, List.filter_true, List.pairwise_map, key]
    have waiting := List.pairwise_filter.mp h.coalesced
    have inSend : q.Pairwise fun f g => f.inSend = true → g.inSend = true → False := by
      have := h.oneInSend
      rw [List.countP_eq_length_filter] at this
      have pair : (q.filter TxFrame.inSend).Pairwise fun _ _ => False := by
        match hl : q.filter TxFrame.inSend with
        | [] => exact .nil
        | [x] => exact List.pairwise_singleton _ _
        | x :: y :: l => simp [hl] at this
      simpa [List.pairwise_filter] using pair
    refine (waiting.and inSend).imp_of_mem ?_
    rintro f g hf hg ⟨hw, hs⟩ hk
    cases ef : f.inSend <;> cases eg : g.inSend
    · exact hw (by simp [ef]) (by simp [eg]) hk
    · exact single g hg eg f hf ef (sameAlertKey_symm hk)
    · exact single f hf ef g hg eg hk
    · exact hs ef eg

theorem newerFrame_none {f : TxFrame} {q : List TxFrame} (h : newerFrame f (q.filter fun g => !g.inSend) = none) :
    ∀ g ∈ q, g.inSend = false → ¬ SameAlertKey f g := by
  rintro g hg hs ⟨hc, hk⟩
  unfold newerFrame at h
  rw [if_pos hc, List.findIdx?_eq_none_iff] at h
  have := h g (by simp [hg, hs])
  simp [hs, hk] at this

/-- The frame in send is the only one. -/
theorem TxSound.inSend_unique {q : List TxFrame} (h : TxSound q) {f g : TxFrame} (hf : f ∈ q) (sf : f.inSend = true)
    (hg : g ∈ q) (sg : g.inSend = true) : f = g := by
  have one := h.oneInSend
  rw [List.countP_eq_length_filter] at one
  have mf : f ∈ q.filter TxFrame.inSend := List.mem_filter.mpr ⟨hf, sf⟩
  have mg : g ∈ q.filter TxFrame.inSend := List.mem_filter.mpr ⟨hg, sg⟩
  match hl : q.filter TxFrame.inSend, one with
  | [], _ => simp [hl] at mf
  | [x], _ =>
    rw [hl] at mf mg
    rw [List.mem_singleton.mp mf, List.mem_singleton.mp mg]

/-- The queue after a collision of the frame in send is sound. -/
theorem collideQueue_txSound {q : List TxFrame} {f : TxFrame} (h : TxSound q)
    (hf : q.find? TxFrame.inSend = some f) : TxSound (collideQueue f q).1 := by
  have rest : TxSound (q.filter fun g => !g.inSend) := h.sublist List.filter_sublist
  unfold collideQueue
  dsimp only
  split
  case h_1 i hi =>
    split
    case h_1 g hg =>
      exact rest.set hg rfl
    case h_2 => exact rest
  case h_2 none =>
    refine h.stopSend _ fun x hx hs g hg hw => ?_
    obtain rfl := h.inSend_unique hx hs (List.mem_of_find?_eq_some hf) (List.find?_some hf)
    exact newerFrame_none none g hg hw

/-! ### A change of LI -/

theorem lineSound_congr {s t : State} (li : t.li = s.li) (mode : t.pt.mode = s.pt.mode) :
    t.LineSound ↔ s.LineSound := by
  unfold State.LineSound
  rw [li, mode]

theorem lineSound_mapLi {s : State} {f : LineIf → LineIf} (h : s.LineSound) (tx : TxSound s.li.tx → TxSound (f s.li).tx)
    (rx : s.li.rx.length ≤ 8 → (f s.li).rx.length ≤ 8)
    (off : s.pt.mode = .unconfigured → s.li.tx = [] → s.li.rx = [] → (f s.li).tx = [] ∧ (f s.li).rx = []) :
    (s.mapLi f).LineSound := by
  obtain ⟨htx, hrx, hoff⟩ := (lineSound_iff s).mp h
  exact (lineSound_iff _).mpr ⟨tx htx, rx hrx, fun hm => off hm (hoff hm).1 (hoff hm).2⟩

/-- A change of LI that leaves both queues. -/
theorem lineSound_sameQueues {s : State} {f : LineIf → LineIf} (tx : (f s.li).tx = s.li.tx)
    (rx : (f s.li).rx = s.li.rx) (h : s.LineSound) : (s.mapLi f).LineSound :=
  lineSound_mapLi h (fun ht => tx ▸ ht) (fun hr => rx ▸ hr) fun _ ht hr => ⟨tx ▸ ht, rx ▸ hr⟩

theorem startSend_lineSound {s : State} (idle : s.li.sending = false) (h : s.LineSound) :
    (s.mapLi LineIf.startSend).LineSound := by
  have cases_tx : (s.li.tx = [] ∧ s.li.startSend = s.li) ∨ ∃ f rest, s.li.tx = f :: rest
      ∧ s.li.startSend = { s.li with tx := { f with inSend := true } :: rest, quietSince := none } := by
    unfold LineIf.startSend
    split
    case h_1 e => exact .inl ⟨e, rfl⟩
    case h_2 f rest e => exact .inr ⟨f, rest, e, rfl⟩
  obtain ⟨-, e⟩ | ⟨f, rest, hq, e⟩ := cases_tx
  · exact lineSound_sameQueues (by rw [e]) (by rw [e]) h
  · refine lineSound_mapLi h (fun ht => ?_) (fun hr => by rw [e]; exact hr) fun _ ht _ => ?_
    · rw [e]
      rw [hq] at ht
      refine ht.startSend ?_
      rw [← hq]
      exact idle
    · rw [hq] at ht
      cases ht

/-- A change of LI that takes frames out of the transmit queue. -/
theorem lineSound_fewer {s : State} {f : LineIf → LineIf} (tx : (f s.li).tx.Sublist s.li.tx)
    (rx : (f s.li).rx = s.li.rx) (h : s.LineSound) : (s.mapLi f).LineSound :=
  lineSound_mapLi h (fun ht => ht.sublist tx) (fun hr => rx ▸ hr) fun _ ht hr =>
    ⟨List.sublist_nil.mp (ht ▸ tx), rx ▸ hr⟩

theorem receive_length_le {li : LineIf} (h : li.rx.length ≤ 8) (f : RxFrame) : (li.receive f).rx.length ≤ 8 := by
  unfold LineIf.receive
  split
  case isTrue free => simpa using free
  case isFalse =>
    split
    case isTrue =>
      split
      case h_1 i hi =>
        obtain ⟨hl, -⟩ := List.findIdx?_eq_some_iff_getElem.mp hi
        simp only [List.length_append, List.length_eraseIdx_of_lt hl, List.length_singleton]
        omega
      case h_2 => exact h
    case isFalse => exact h

theorem receive_tx (li : LineIf) (f : RxFrame) : (li.receive f).tx = li.tx := by
  unfold LineIf.receive
  repeat' split
  all_goals rfl

theorem popRx_lineSound {s : State} (h : s.LineSound) : s.popRx.LineSound := by
  refine lineSound_mapLi h id (fun hr => ?_) fun _ ht hr => ⟨ht, ?_⟩
  · dsimp only
    rw [List.length_tail]
    omega
  · simp only [hr, List.tail_nil]

end Sys2Proof.Proofs
end

section
/-! PROOF. The operations of the alarm list as sequences of elementary changes: of the own list and its records, of the
positions a removal lowers, of the transmit queue by the offer of an ALERT, and of the notice set (07). -/

namespace Sys2Proof.Proofs

open Sys2Proof.Machine

/-- One elementary change that an operation of the alarm list makes. -/
inductive ListMove : State → State → Prop
  | list (s : State) (f : AlarmList → AlarmList) : ListMove s (s.mapAl f)
  | removal (s : State) (p : Nat) : ListMove s (s.rollRemoval p)
  | offer (s : State) (id : AlarmId) : ListMove s (s.offer .alert (s.alertMsg id).words 0 0).1
  | notify (s : State) (k : Notice) (h : k ≠ .configNeeded) : ListMove s (s.notify k)

/-- A sequence of elementary changes of the alarm list. -/
abbrev ListMoves : State → State → Prop := Relation.ReflTransGen ListMove

theorem ListMove.one {s t : State} (h : ListMove s t) : ListMoves s t := .single h

/-- What each elementary change keeps, a sequence keeps. -/
theorem ListMoves.keep {s t : State} (P : State → Prop) (h : ∀ a b, ListMove a b → P a → P b) (m : ListMoves s t)
    (p : P s) : P t := by
  induction m with
  | refl => exact p
  | tail _ m ih => exact h _ _ m ih

theorem ListMoves.foldl {α : Type} (f : State → α → State) (h : ∀ s a, ListMoves s (f s a)) (l : List α) (s : State) :
    ListMoves s (l.foldl f s) := by
  induction l generalizing s with
  | nil => exact .refl
  | cons a l ih => exact (h s a).trans (ih _)

variable (s : State)

theorem mapAlarm_listMoves (id : AlarmId) (f : AlarmRec → AlarmRec) : ListMoves s (s.mapAlarm id f) :=
  (ListMove.list s _).one

theorem mapEntry_listMoves (id : AlarmId) (f : AlarmEntry → AlarmEntry) : ListMoves s (s.mapEntry id f) :=
  (ListMove.list s _).one

theorem unlist_listMoves (id : AlarmId) : ListMoves s (s.unlist id) := by
  unfold State.unlist
  split
  · exact (ListMove.removal s _).one.tail (.list _ _)
  · exact .refl

theorem announce_listMoves (id : AlarmId) : ListMoves s (s.announce id) := by
  unfold State.announce
  exact (ListMove.offer s id).one.trans (mapAlarm_listMoves _ _ _)

theorem publishAlarm_listMoves (id : AlarmId) : ListMoves s (s.publishAlarm id) :=
  (announce_listMoves s id).tail (.notify _ _ (by decide))

theorem raiseAlarm_listMoves (id : AlarmId) : ListMoves s (s.raiseAlarm id) := by
  have noticed : ∀ {t u : State} (p : Prop) [Decidable p], ListMoves t u →
      ListMoves t (if p then u.notify .p1Raised else u) := by
    intro t u p _ m
    split
    · exact m.tail (.notify _ _ (by decide))
    · exact m
  refine noticed _ ((Relation.ReflTransGen.tail ?_ (.list _ _)).trans (publishAlarm_listMoves _ id))
  exact (unlist_listMoves s id).tail (.list _ _)

theorem removeEntry_listMoves (id : AlarmId) : ListMoves s (s.removeEntry id) :=
  (unlist_listMoves s id).trans (publishAlarm_listMoves _ id)

theorem refill_listMoves : ListMoves s s.refill := ListMoves.foldl _ raiseAlarm_listMoves _ _

theorem displace_listMoves (id : AlarmId) : ListMoves s (s.displace id) := by
  unfold State.displace
  dsimp only
  split
  · exact (removeEntry_listMoves s id).trans (mapAlarm_listMoves _ _ _)
  · exact removeEntry_listMoves s id

theorem raiseNew_listMoves (id : AlarmId) : ListMoves s (s.raiseNew id) := by
  unfold State.raiseNew
  split
  · exact raiseAlarm_listMoves s id
  · split
    · exact (displace_listMoves s _).trans (raiseAlarm_listMoves _ id)
    · exact mapAlarm_listMoves s _ _

theorem condRise_listMoves (id : AlarmId) : ListMoves s (s.condRise id) := by
  unfold State.condRise
  split
  · exact raiseNew_listMoves s id
  · split
    · exact raiseAlarm_listMoves s id
    all_goals exact .refl

theorem condFall_listMoves (id : AlarmId) : ListMoves s (s.condFall id) := by
  unfold State.condFall
  split
  · exact mapAlarm_listMoves s _ _
  · split
    · exact (mapEntry_listMoves s _ _).trans (publishAlarm_listMoves _ id)
    · exact (removeEntry_listMoves s id).trans (refill_listMoves _)
    all_goals exact .refl

theorem fullNotice_listMoves {s t : State} (b : State) (m : ListMoves s t) : ListMoves s (fullNotice b t) := by
  unfold fullNotice
  split
  · exact m
  · exact m.tail (.notify _ _ (by decide))

theorem setCond_listMoves (id : AlarmId) (v : Bool) (x : Option Nat) : ListMoves s (s.setCond id v x) := by
  unfold State.setCond
  split
  · exact .refl
  · split
    · exact fullNotice_listMoves _ ((mapAlarm_listMoves s _ _).trans (condRise_listMoves _ id))
    · exact fullNotice_listMoves _ ((mapAlarm_listMoves s _ _).trans (condFall_listMoves _ id))

theorem ackOwn_listMoves (id : Nat) (seq : Word) : ListMoves s (s.ackOwn id seq).1 := by
  unfold State.ackOwn
  split
  · exact .refl
  split
  · exact .refl
  split
  · exact .refl
  split
  · exact (mapEntry_listMoves s _ _).trans (publishAlarm_listMoves _ _)
  · exact fullNotice_listMoves _ ((removeEntry_listMoves s _).trans (refill_listMoves _))
  · exact .refl
  · exact .refl

theorem shelveEntry_listMoves (id : AlarmId) (m : Nat) : ListMoves s (s.shelveEntry id m) :=
  (mapEntry_listMoves s _ _).trans (publishAlarm_listMoves _ id)

theorem endShelve_listMoves (id : AlarmId) : ListMoves s (s.endShelve id) := by
  unfold State.endShelve
  split
  · exact raiseAlarm_listMoves s id
  · exact fullNotice_listMoves _ ((removeEntry_listMoves s _).trans (refill_listMoves _))

/-! ### What they keep -/

/-- A removal lowers resume indexes of waiting SNAPs, and nothing that makes the queue sound. -/
theorem rollRemoval_lineSound {p : Nat} (h : s.LineSound) : (s.rollRemoval p).LineSound := by
  unfold State.rollRemoval
  refine lineSound_mapLi (lineSound_congr (s := s) rfl rfl |>.mpr h) (fun ht => ?_) id fun _ ht hr => ⟨?_, hr⟩
  · refine (txSound_map _ ?_ ?_ ?_).mpr ht <;> intro f <;> split <;> rfl
  · simp only [ht, List.map_nil]

theorem ListMove.lineSound {s t : State} (m : ListMove s t) (h : s.LineSound) : t.LineSound := by
  cases m with
  | list f => exact h
  | removal p => exact rollRemoval_lineSound s h
  | offer id => exact offer_lineSound h _ _ _ _
  | notify k => exact h

theorem ListMoves.lineSound {s t : State} (m : ListMoves s t) (h : s.LineSound) : t.LineSound :=
  m.keep State.LineSound (fun _ _ => ListMove.lineSound) h

end Sys2Proof.Proofs
end

section
/-! PROOF. What each operation of the alarm list does to the own list and to the alarm records, all but the announce
marks, which the outcome of an offer and the loss of a frame write (07). -/

namespace Sys2Proof.Proofs

open Sys2Proof.Machine

/-! ### The alarm list without its announce marks -/

/-- An alarm record without its announce mark. -/
def quiet (r : AlarmRec) : AlarmRec := { r with announce := false }

/-- The alarm list without the announce marks of its records. -/
def bare (s : State) : AlarmList := { s.al with recs := s.al.recs.map quiet }

theorem list_of_bare {s t : State} (h : bare t = bare s) : t.al.list = s.al.list :=
  show (bare t).list = (bare s).list by rw [h]
theorem counter_of_bare {s t : State} (h : bare t = bare s) : t.al.counter = s.al.counter :=
  show (bare t).counter = (bare s).counter by rw [h]

theorem get_map {α β : Type} {n : Nat} (v : Vector α n) (f : α → β) (i : Fin n) : (v.map f).get i = f (v.get i) :=
  Vector.getElem_map f i.isLt

theorem get_ofFn {α : Type} {n : Nat} (f : Fin n → α) (i : Fin n) : (Vector.ofFn f).get i = f i :=
  Vector.getElem_ofFn i.isLt

theorem bare_recs (s : State) (j : AlarmId) : (bare s).recs.get j = quiet (s.alarm j) := get_map _ _ _

theorem quiet_of_bare {s t : State} (h : bare t = bare s) (j : AlarmId) : quiet (t.alarm j) = quiet (s.alarm j) := by
  rw [← bare_recs, ← bare_recs, h]

theorem waiting_of_quiet {a b : AlarmRec} (h : quiet a = quiet b) : a.waiting = b.waiting :=
  show (quiet a).waiting = (quiet b).waiting by rw [h]

theorem condValue_of_quiet {a b : AlarmRec} (h : quiet a = quiet b) : a.condValue = b.condValue :=
  show (quiet a).condValue = (quiet b).condValue by rw [h]

theorem cond_of_quiet {a b : AlarmRec} (h : quiet a = quiet b) : a.cond = b.cond :=
  show (quiet a).cond = (quiet b).cond by rw [h]

theorem mapAlarm_quiet (s : State) (id : AlarmId) (f : AlarmRec → AlarmRec) (h : ∀ r, quiet (f r) = quiet r) :
    bare (s.mapAlarm id f) = bare s := by
  unfold bare
  rw [show (s.mapAlarm id f).al.recs.map quiet = s.al.recs.map quiet from upd_map_same _ _ _ _ (h _)]
  rfl

@[simp] theorem notify_bare (s : State) (k : Notice) : bare (s.notify k) = bare s := by cases k <;> rfl

@[simp] theorem loseFrame_bare (s : State) (f : TxFrame) : bare (s.loseFrame f) = bare s := by
  unfold State.loseFrame
  repeat' split
  · exact mapAlarm_quiet _ _ _ fun _ => rfl
  all_goals rfl

@[simp] theorem evictAt_bare (s : State) (i : Nat) (b : Bool) : bare (s.evictAt i b) = bare s := by
  unfold State.evictAt
  split
  · split
    · rfl
    · exact loseFrame_bare _ _
  · rfl

@[simp] theorem offer_bare (s : State) (cls : FrameClass) (p : List Word) (r k : Nat) :
    bare (s.offer cls p r k).1 = bare s := by
  obtain ⟨h, -⟩ | ⟨-, -, ⟨-, h⟩ | ⟨-, -, ⟨-, h⟩ | ⟨-, i, b, -, h⟩⟩⟩ := offer_cases s cls p r k
  · rw [h]
  · rw [h]; rfl
  · rw [h]; rfl
  · rw [h]; exact evictAt_bare s i b

@[simp] theorem announce_bare (s : State) (id : AlarmId) : bare (s.announce id) = bare s := by
  unfold State.announce
  refine (mapAlarm_quiet _ _ _ ?_).trans (offer_bare _ _ _ _ _)
  exact fun _ => rfl

@[simp] theorem publishAlarm_bare (s : State) (id : AlarmId) : bare (s.publishAlarm id) = bare s := by
  simp [State.publishAlarm]

@[simp] theorem fullNotice_bare (s t : State) : bare (fullNotice s t) = bare t := by
  unfold fullNotice
  split <;> simp

/-! ### The list without an id -/

/-- The entries of the own list but for that of an id. -/
def others (s : State) (id : AlarmId) : List AlarmEntry := s.al.list.eraseP fun e => e.id == id

theorem unlist_bare (s : State) (id : AlarmId) : bare (s.unlist id) = { bare s with list := others s id } := by
  unfold State.unlist AlarmList.position? others
  rw [List.eraseP_eq_eraseIdx]
  split
  · rename_i h; rw [h]; rfl
  · rename_i h; rw [h]; rfl

theorem removeEntry_bare (s : State) (id : AlarmId) :
    bare (s.removeEntry id) = { bare s with list := others s id } := by
  simp [State.removeEntry, unlist_bare]

theorem entry?_none {s : State} {id : AlarmId} : s.al.entry? id = none ↔ ∀ e ∈ s.al.list, e.id ≠ id := by
  simp [AlarmList.entry?]

theorem entry?_some {s : State} {id : AlarmId} {e : AlarmEntry} (h : s.al.entry? id = some e) :
    e ∈ s.al.list ∧ e.id = id :=
  ⟨List.mem_of_find?_eq_some h, by simpa using List.find?_some h⟩

theorem others_unlisted {s : State} {id : AlarmId} (h : s.al.entry? id = none) : others s id = s.al.list :=
  List.eraseP_of_forall_not fun e he => by simpa using entry?_none.mp h e he

theorem others_eq_filter {s : State} {id : AlarmId} (h : (s.al.list.map AlarmEntry.id).Nodup) :
    others s id = s.al.list.filter fun e => decide (e.id ≠ id) := by
  unfold others
  revert h
  induction s.al.list with
  | nil => exact fun _ => rfl
  | cons x l ih =>
    intro h
    rw [List.map_cons, List.nodup_cons] at h
    obtain ⟨fresh, h⟩ := h
    by_cases hx : x.id = id
    · have rest : l.filter (fun e => decide (e.id ≠ id)) = l :=
        List.filter_eq_self.mpr fun e he => by
          simpa using fun hid : e.id = id => fresh (List.mem_map.mpr ⟨e, he, hid.trans hx.symm⟩)
      rw [List.eraseP_cons_of_pos (by simpa using hx), List.filter_cons_of_neg (by simpa using hx), rest]
    · rw [List.eraseP_cons_of_neg (by simpa using hx), List.filter_cons_of_pos (by simpa using hx), ih h]

/-! ### A raise -/

/-- The raise sequence that the next raise of an id takes (07 R134). -/
def raiseSeq (s : State) (id : AlarmId) : Word := freeSeq ((others s id).map AlarmEntry.seq) 48 s.al.counter

/-- The record of an id after a raise, without its announce mark. -/
def raisedRec (s : State) (id : AlarmId) : AlarmRec :=
  { quiet (s.alarm id) with
    waiting := false
    shiftRaises := satAdd (s.alarm id).shiftRaises 1 255
    lastSeq := some (raiseSeq s id)
    lastTime := some s.stamp
    lastValue := (s.alarm id).condValue.map fun v => min v 65535 }

theorem unlist_al (s : State) (id : AlarmId) : (s.unlist id).al = { s.al with list := others s id } := by
  unfold State.unlist AlarmList.position? others
  rw [List.eraseP_eq_eraseIdx]
  split
  · rename_i h; rw [h]; rfl
  · rename_i h; rw [h]

theorem countRaise_recs (al : AlarmList) (p : Nat) : (al.countRaise p).recs = al.recs := by
  unfold AlarmList.countRaise
  repeat' split
  all_goals rfl

/-- The state right after the entry of a raise stands at the tail, before its ALERT and its notices. -/
def entered (s : State) (id : AlarmId) : State :=
  ((s.unlist id).mapAl fun al =>
    { al.countRaise (alarmPriority id) with
      list := al.list ++ [s.raisedEntry id (raiseSeq s id)]
      counter := raiseSeq s id }).mapAlarm id fun a => { a with
        waiting := false
        shiftRaises := satAdd a.shiftRaises 1 255
        lastSeq := some (raiseSeq s id)
        lastTime := some s.stamp
        lastValue := (s.alarm id).condValue.map fun v => min v 65535 }

theorem raiseAlarm_eq (s : State) (id : AlarmId) :
    s.raiseAlarm id = if alarmPriority id = 1 then ((entered s id).publishAlarm id).notify .p1Raised
      else (entered s id).publishAlarm id := by
  have e : freeSeq ((s.unlist id).al.list.map AlarmEntry.seq) 48 (s.unlist id).al.counter = raiseSeq s id := by
    rw [unlist_al]; rfl
  unfold State.raiseAlarm
  simp only [e]
  rfl

theorem raiseAlarm_bare (s : State) (id : AlarmId) : bare (s.raiseAlarm id) = bare (entered s id) := by
  rw [raiseAlarm_eq]
  split <;> simp

theorem raiseAlarm_list (s : State) (id : AlarmId) :
    (s.raiseAlarm id).al.list = others s id ++ [s.raisedEntry id (raiseSeq s id)] := by
  rw [list_of_bare (raiseAlarm_bare s id)]
  change (s.unlist id).al.list ++ _ = _
  rw [unlist_al]

theorem raiseAlarm_counter (s : State) (id : AlarmId) : (s.raiseAlarm id).al.counter = raiseSeq s id :=
  counter_of_bare (raiseAlarm_bare s id)

theorem raiseAlarm_quiet (s : State) (id j : AlarmId) :
    quiet ((s.raiseAlarm id).alarm j) = if j = id then raisedRec s id else quiet (s.alarm j) := by
  have kept : ∀ k, ((s.unlist id).mapAl fun al =>
      { al.countRaise (alarmPriority id) with
        list := al.list ++ [s.raisedEntry id (raiseSeq s id)]
        counter := raiseSeq s id }).alarm k = s.alarm k := by
    intro k
    change ((s.unlist id).al.countRaise (alarmPriority id)).recs.get k = s.al.recs.get k
    rw [countRaise_recs, unlist_al]
  rw [quiet_of_bare (raiseAlarm_bare s id)]
  unfold entered
  split
  case isTrue h =>
    subst h
    rw [State.mapAlarm_alarm_same, kept]
    rfl
  case isFalse h => rw [State.mapAlarm_alarm_other _ _ (Ne.symm h), kept]

end Sys2Proof.Proofs
end

section
/-! PROOF. The own alarm list stays sound (07 R133 to R136, R143, R144): a free raise sequence is found, each operation
keeps the entries in agreement with the conditions, and a free place is filled from the pending ids. -/

namespace Sys2Proof.Proofs

open Sys2Proof.Machine

/-! ### A free raise sequence (07 R134) -/

theorem freeSeq_tried {used : List Word} {fuel : Nat} {c : Word} (h : freeSeq used fuel c ∈ used) :
    ∀ k ≤ fuel, c + 1 + BitVec.ofNat 16 k ∈ used := by
  induction fuel generalizing c with
  | zero =>
    intro k hk
    obtain rfl : k = 0 := by omega
    simpa [freeSeq] using h
  | succ fuel ih =>
    rw [freeSeq] at h
    split at h
    case isFalse no => exact absurd h no
    case isTrue first =>
      intro k hk
      cases k with
      | zero => simpa using first
      | succ k =>
        have next := ih h k (by omega)
        have e : c + 1 + BitVec.ofNat 16 (k + 1) = c + 1 + 1 + BitVec.ofNat 16 k := by
          rw [Nat.add_comm k 1, BitVec.ofNat_add, ← BitVec.add_assoc]
          rfl
        rw [e]
        exact next

/-- The search ends before its bound, since a list of 48 values cannot hold 49 of them. -/
theorem freeSeq_not_mem {used : List Word} (h : used.length ≤ 48) (c : Word) : freeSeq used 48 c ∉ used := by
  intro mem
  have tried := freeSeq_tried mem
  have distinct : ((List.range 49).map fun k => c + 1 + BitVec.ofNat 16 k).Nodup := by
    refine List.Nodup.map_on (fun i hi j hj e => ?_) List.nodup_range
    rw [List.mem_range] at hi hj
    bv_omega
  have sub : ((List.range 49).map fun k => c + 1 + BitVec.ofNat 16 k) ⊆ used := by
    intro x hx
    obtain ⟨k, hk, rfl⟩ := List.mem_map.mp hx
    exact tried k (by rw [List.mem_range] at hk; omega)
  have := (distinct.subperm sub).length_le
  simp only [List.length_map, List.length_range] at this
  omega

theorem freeSeq_first {used : List Word} {c : Word} (h : c + 1 ∉ used) : freeSeq used 48 c = c + 1 := by
  rw [freeSeq, if_neg h]

/-! ### The catalog priorities -/

theorem alarmPriority_ne_one {id : AlarmId} : alarmPriority id ≠ 1 ↔ 2 ≤ alarmPriority id := by
  unfold alarmPriority
  repeat' split
  all_goals simp

theorem alarmPriority_range (id : AlarmId) : alarmPriority id = 1 ∨ alarmPriority id = 2 ∨ alarmPriority id = 3 := by
  unfold alarmPriority
  repeat' split
  all_goals simp

theorem alarmPriority_cases {id : AlarmId} (h : alarmPriority id ≠ 1) : alarmPriority id = 2 ∨ alarmPriority id = 3 :=
  (alarmPriority_range id).resolve_left h

/-- The catalog has 21 ids of priority 1. -/
theorem priority_one_count : (allAlarms.filter fun id => decide (alarmPriority id = 1)).length = 21 := by
  decide

/-- Entries of priority 2 or 3 in a list. -/
def lowOf (l : List AlarmEntry) : Nat := l.countP fun e => decide (2 ≤ alarmPriority e.id)

theorem lowCount_eq (al : AlarmList) : al.lowCount = lowOf al.list := rfl

/-- A list of entries of distinct ids holds at most 21 entries besides those of priority 2 or 3. -/
theorem length_le_lowOf {l : List AlarmEntry} (h : (l.map AlarmEntry.id).Nodup) : l.length ≤ lowOf l + 21 := by
  have split := List.length_eq_countP_add_countP (fun e : AlarmEntry => decide (2 ≤ alarmPriority e.id)) (l := l)
  have top : (l.map AlarmEntry.id).countP (fun id => decide (alarmPriority id = 1)) ≤ 21 := by
    rw [List.countP_eq_length_filter, ← priority_one_count]
    refine ((h.filter _).subperm fun id hid => ?_).length_le
    rw [List.mem_filter] at hid ⊢
    exact ⟨List.mem_finRange id, hid.2⟩
  have same : l.countP (fun e => decide ¬ (decide (2 ≤ alarmPriority e.id) = true))
      = (l.map AlarmEntry.id).countP fun id => decide (alarmPriority id = 1) := by
    rw [List.countP_map]
    refine List.countP_congr fun e _ => ?_
    have := @alarmPriority_ne_one e.id
    simp only [decide_eq_true_eq, Function.comp_apply]
    tauto
  rw [same] at split
  unfold lowOf
  omega

/-! ### What makes the own list sound -/

/-- Of a sound own list, all but the places: ids and sequences are distinct, and the entries and the pending marks of
the ids in `P` agree with their conditions. -/
structure ListAgrees (P : AlarmId → Prop) (s : State) : Prop where
  ids : (s.al.list.map AlarmEntry.id).Nodup
  seqs : (s.al.list.map AlarmEntry.seq).Nodup
  agrees : ∀ e ∈ s.al.list, P e.id → e.agrees (s.cond e.id)
  pending : ∀ j, P j → ((s.alarm j).waiting = true ↔ (s.cond j = true ∧ s.al.entry? j = none))
  pendingLow : ∀ j, (s.alarm j).waiting = true → alarmPriority j ≠ 1

/-- Of a sound own list, the places: at most 27 entries of priority 2 or 3, and a pending id only beside 27. -/
structure PlacesSound (s : State) : Prop where
  low_le : lowOf s.al.list ≤ 27
  full : ∀ j, (s.alarm j).waiting = true → lowOf s.al.list = 27

theorem alarmSound_iff (s : State) : s.AlarmSound ↔ ListAgrees (fun _ => True) s ∧ PlacesSound s
    ∧ (s.config = none → s.al.list = [] ∧ ∀ id, s.cond id = false) := by
  constructor
  · rintro ⟨ids, seqs, low, agrees, pending, full, off⟩
    exact ⟨⟨ids, seqs, fun e he _ => agrees e he, fun j _ => pending j, fun j hj => (full j hj).1⟩,
      ⟨low, fun j hj => (full j hj).2⟩, off⟩
  · rintro ⟨⟨ids, seqs, agrees, pending, pendingLow⟩, ⟨low, full⟩, off⟩
    exact ⟨ids, seqs, low, fun e he => agrees e he trivial, fun j => pending j trivial,
      fun j hj => ⟨pendingLow j hj, full j hj⟩, off⟩

/-- Two states with one own list, apart from announce marks. -/
theorem ListAgrees.of_bare {P : AlarmId → Prop} {s t : State} (h : ListAgrees P s) (e : bare t = bare s) :
    ListAgrees P t := by
  have list := list_of_bare e
  have cond : ∀ j, t.cond j = s.cond j := fun j => cond_of_quiet (quiet_of_bare e j)
  have waiting : ∀ j, (t.alarm j).waiting = (s.alarm j).waiting := fun j => waiting_of_quiet (quiet_of_bare e j)
  have entry : ∀ j, t.al.entry? j = s.al.entry? j := fun j => by rw [AlarmList.entry?, list]; rfl
  exact ⟨by rw [list]; exact h.ids, by rw [list]; exact h.seqs, by rw [list]; simpa only [cond] using h.agrees,
    by simpa only [cond, waiting, entry] using h.pending, by simpa only [waiting] using h.pendingLow⟩

theorem PlacesSound.of_bare {s t : State} (h : PlacesSound s) (e : bare t = bare s) : PlacesSound t := by
  have list := list_of_bare e
  have waiting : ∀ j, (t.alarm j).waiting = (s.alarm j).waiting := fun j => waiting_of_quiet (quiet_of_bare e j)
  exact ⟨by rw [list]; exact h.low_le, by simpa only [list, waiting] using h.full⟩

/-! ### An id leaves the list -/

theorem others_sublist (s : State) (id : AlarmId) : (others s id).Sublist s.al.list := List.eraseP_sublist

theorem mem_others {s : State} {id : AlarmId} (h : (s.al.list.map AlarmEntry.id).Nodup) {e : AlarmEntry} :
    e ∈ others s id ↔ e ∈ s.al.list ∧ e.id ≠ id := by
  rw [others_eq_filter h, List.mem_filter]
  simp

/-- The entries of priority 2 or 3 but for that of a listed id of such a priority. -/
theorem lowOf_others_listed {s : State} {id : AlarmId} {e : AlarmEntry} (h : s.al.entry? id = some e)
    (low : alarmPriority id ≠ 1) : lowOf (others s id) + 1 = lowOf s.al.list := by
  obtain ⟨mem, rfl⟩ := entry?_some h
  obtain ⟨a, b, c, -, ha, hl, he⟩ := List.exists_of_eraseP (p := fun x => x.id == e.id) mem (by simp)
  have ha : a.id = e.id := by simpa using ha
  unfold lowOf others
  rw [he, hl, List.countP_append, List.countP_append, List.countP_cons, if_pos]
  · rfl
  · rw [ha]
    simpa using alarmPriority_ne_one.mp low

theorem lowOf_others_le (s : State) (id : AlarmId) : lowOf (others s id) ≤ lowOf s.al.list :=
  (others_sublist s id).countP_le

/-- An entry of priority 1 leaves the count of the others. -/
theorem lowOf_others_top {s : State} {id : AlarmId} (top : alarmPriority id = 1) :
    lowOf (others s id) = lowOf s.al.list := by
  unfold lowOf others
  induction s.al.list with
  | nil => rfl
  | cons x l ih =>
    by_cases hx : x.id = id
    · rw [List.eraseP_cons_of_pos (by simpa using hx), List.countP_cons, if_neg]
      · rfl
      · rw [hx, top]; decide
    · rw [List.eraseP_cons_of_neg (by simpa using hx), List.countP_cons, List.countP_cons, ih]

theorem removeEntry_list (s : State) (id : AlarmId) : (s.removeEntry id).al.list = others s id :=
  congrArg AlarmList.list (removeEntry_bare s id)

theorem removeEntry_quiet (s : State) (id j : AlarmId) :
    quiet ((s.removeEntry id).alarm j) = quiet (s.alarm j) := by
  rw [← bare_recs, ← bare_recs, removeEntry_bare]

/-- A removal keeps the agreement of the other ids. -/
theorem ListAgrees.removeEntry {P : AlarmId → Prop} {s : State} (h : ListAgrees P s) (id : AlarmId) :
    ListAgrees (fun j => P j ∧ j ≠ id) (s.removeEntry id) := by
  have list := removeEntry_list s id
  have cond : ∀ j, (s.removeEntry id).cond j = s.cond j := fun j => cond_of_quiet (removeEntry_quiet s id j)
  have waiting : ∀ j, ((s.removeEntry id).alarm j).waiting = (s.alarm j).waiting := fun j =>
    waiting_of_quiet (removeEntry_quiet s id j)
  constructor
  case ids => rw [list]; exact h.ids.sublist ((others_sublist s id).map _)
  case seqs => rw [list]; exact h.seqs.sublist ((others_sublist s id).map _)
  case agrees =>
    intro e he hj
    rw [list] at he
    rw [cond]
    exact h.agrees e ((others_sublist s id).subset he) hj.1
  case pending =>
    intro j hj
    rw [waiting, cond, h.pending j hj.1, entry?_none, entry?_none, list]
    refine and_congr_right fun _ => ⟨fun none e he => none e ((others_sublist s id).subset he), fun none e he => ?_⟩
    by_cases hid : e.id = id
    · rw [hid]; exact Ne.symm hj.2
    · exact none e ((mem_others h.ids).mpr ⟨he, hid⟩)
  case pendingLow => simpa only [waiting] using h.pendingLow

/-- A removed id is not listed. -/
theorem removeEntry_unlisted {s : State} {id : AlarmId} (h : (s.al.list.map AlarmEntry.id).Nodup) :
    (s.removeEntry id).al.entry? id = none := by
  rw [entry?_none, removeEntry_list]
  exact fun e he => ((mem_others h).mp he).2

/-- The agreement of every id follows from that of the other ids and of its own, not listed and not pending. -/
theorem ListAgrees.complete {s : State} {id : AlarmId} (h : ListAgrees (· ≠ id) s) (unlisted : s.al.entry? id = none)
    (own : (s.alarm id).waiting = true ↔ s.cond id = true) : ListAgrees (fun _ => True) s where
  ids := h.ids
  seqs := h.seqs
  agrees := fun e he _ => h.agrees e he (entry?_none.mp unlisted e he)
  pending := fun j _ => by
    by_cases hj : j = id
    · subst hj; simp [own, unlisted]
    · exact h.pending j hj
  pendingLow := h.pendingLow

theorem ListAgrees.mono {P Q : AlarmId → Prop} {s : State} (h : ListAgrees P s) (sub : ∀ j, Q j → P j) :
    ListAgrees Q s :=
  ⟨h.ids, h.seqs, fun e he hq => h.agrees e he (sub _ hq), fun j hq => h.pending j (sub j hq), h.pendingLow⟩

/-! ### A raise -/

theorem raiseAlarm_entry? {s : State} {id j : AlarmId} (h : (s.al.list.map AlarmEntry.id).Nodup) :
    (s.raiseAlarm id).al.entry? j = none ↔ s.al.entry? j = none ∧ j ≠ id := by
  rw [entry?_none, entry?_none, raiseAlarm_list]
  constructor
  · intro none
    have hj : j ≠ id := fun hj => none (s.raisedEntry id (raiseSeq s id)) (by simp) hj.symm
    refine ⟨fun e he => ?_, hj⟩
    by_cases hid : e.id = id
    · rw [hid]; exact Ne.symm hj
    · exact none e (List.mem_append_left _ ((mem_others h).mpr ⟨he, hid⟩))
  · rintro ⟨none, hj⟩ e he
    obtain he | he := List.mem_append.mp he
    · exact none e ((others_sublist s id).subset he)
    · rw [List.mem_singleton.mp he]; exact Ne.symm hj

/-- The sequence of a raise is held by no other entry. -/
theorem raiseSeq_free {s : State} (h : (s.al.list.map AlarmEntry.id).Nodup) (low : lowOf s.al.list ≤ 27) (id : AlarmId) :
    raiseSeq s id ∉ (others s id).map AlarmEntry.seq := by
  refine freeSeq_not_mem ?_ _
  rw [List.length_map]
  have := length_le_lowOf (h.sublist ((others_sublist s id).map _))
  have := lowOf_others_le s id
  omega

/-- A raise of an id whose condition is true brings its entry into agreement. -/
theorem ListAgrees.raiseAlarm {s : State} {id : AlarmId} (h : ListAgrees (· ≠ id) s) (low : lowOf s.al.list ≤ 27)
    (on : s.cond id = true) : ListAgrees (fun _ => True) (s.raiseAlarm id) := by
  have list := raiseAlarm_list s id
  have cond : ∀ j, (s.raiseAlarm id).cond j = s.cond j := fun j => State.cond_of_conds (State.raiseAlarm_conds s id) j
  have waiting : ∀ j, j ≠ id → ((s.raiseAlarm id).alarm j).waiting = (s.alarm j).waiting := fun j hj =>
    waiting_of_quiet (by rw [raiseAlarm_quiet, if_neg hj])
  have raised : ((s.raiseAlarm id).alarm id).waiting = false := by
    have := raiseAlarm_quiet s id id
    rw [if_pos rfl] at this
    exact waiting_of_quiet (b := raisedRec s id) this
  constructor
  case ids =>
    rw [list, List.map_append]
    refine (h.ids.sublist ((others_sublist s id).map _)).append (List.nodup_singleton _) ?_
    rw [List.map_singleton, List.disjoint_singleton, List.mem_map]
    rintro ⟨e, he, hid⟩
    exact ((mem_others h.ids).mp he).2 hid
  case seqs =>
    rw [list, List.map_append]
    refine (h.seqs.sublist ((others_sublist s id).map _)).append (List.nodup_singleton _) ?_
    rw [List.map_singleton, List.disjoint_singleton]
    exact raiseSeq_free h.ids low id
  case agrees =>
    intro e he _
    rw [cond]
    rw [list] at he
    obtain he | he := List.mem_append.mp he
    · obtain ⟨he, hid⟩ := (mem_others h.ids).mp he
      exact h.agrees e he hid
    · rw [List.mem_singleton.mp he]
      exact ⟨on, rfl⟩
  case pending =>
    intro j _
    rw [cond, raiseAlarm_entry? h.ids]
    by_cases hj : j = id
    · subst hj; simp [raised]
    · rw [waiting j hj, h.pending j hj]; simp [hj]
  case pendingLow =>
    intro j hj
    by_cases hid : j = id
    · subst hid; rw [raised] at hj; cases hj
    · exact h.pendingLow j (waiting j hid ▸ hj)

theorem lowOf_raiseAlarm (s : State) (id : AlarmId) :
    lowOf (s.raiseAlarm id).al.list = lowOf (others s id) + if alarmPriority id = 1 then 0 else 1 := by
  rw [raiseAlarm_list, lowOf, List.countP_append, List.countP_singleton]
  congr 1
  change (if decide (2 ≤ alarmPriority id) = true then 1 else 0) = _
  have := @alarmPriority_ne_one id
  split <;> split <;> simp_all

/-! ### The free places are filled (07 R144) -/

theorem mem_pendingIds {s : State} {id : AlarmId} (low : ∀ j, (s.alarm j).waiting = true → alarmPriority j ≠ 1) :
    id ∈ s.pendingIds ↔ (s.alarm id).waiting = true := by
  simp only [State.pendingIds, List.mem_append, List.mem_filter, allAlarms, List.mem_finRange, true_and,
    Bool.and_eq_true, beq_iff_eq]
  constructor
  · rintro (h | h) <;> exact h.1
  · intro h
    obtain p | p := alarmPriority_cases (low id h)
    · exact .inl ⟨h, p⟩
    · exact .inr ⟨h, p⟩

theorem pendingIds_nodup (s : State) : s.pendingIds.Nodup := by
  have all : allAlarms.Nodup := List.nodup_finRange 114
  refine (all.filter _).append (all.filter _) fun id h2 h3 => ?_
  simp only [List.mem_filter, Bool.and_eq_true, beq_iff_eq] at h2 h3
  omega

/-- Raising pending ids, no more than there are free places: each takes a place, and the others stay pending. -/
theorem raisePending {l : List AlarmId} {s : State} (h : ListAgrees (fun _ => True) s) (nodup : l.Nodup)
    (pending : ∀ id ∈ l, (s.alarm id).waiting = true) (room : lowOf s.al.list + l.length ≤ 27) :
    ListAgrees (fun _ => True) (l.foldl State.raiseAlarm s)
      ∧ lowOf (l.foldl State.raiseAlarm s).al.list = lowOf s.al.list + l.length
      ∧ ∀ j, ((l.foldl State.raiseAlarm s).alarm j).waiting = true → (s.alarm j).waiting = true ∧ j ∉ l := by
  induction l generalizing s with
  | nil => exact ⟨h, rfl, fun j hj => ⟨hj, by simp⟩⟩
  | cons id l ih =>
    obtain ⟨fresh, nodup⟩ := List.nodup_cons.mp nodup
    have own := pending id (by simp)
    obtain ⟨on, unlisted⟩ := (h.pending id trivial).mp own
    rw [List.length_cons] at room
    have raised := (h.mono fun _ _ => trivial).raiseAlarm (id := id) (by omega) on
    have low : lowOf (s.raiseAlarm id).al.list = lowOf s.al.list + 1 := by
      rw [lowOf_raiseAlarm, others_unlisted unlisted, if_neg (h.pendingLow id own)]
    have waiting : ∀ j, j ≠ id → ((s.raiseAlarm id).alarm j).waiting = (s.alarm j).waiting := fun j hj =>
      waiting_of_quiet (by rw [raiseAlarm_quiet, if_neg hj])
    obtain ⟨agrees, count, left⟩ := ih raised nodup
      (fun j hj => by rw [waiting j fun e => fresh (e ▸ hj)]; exact pending j (by simp [hj])) (by omega)
    refine ⟨agrees, by rw [List.foldl_cons, count, low, List.length_cons]; omega, fun j hj => ?_⟩
    obtain ⟨hw, hl⟩ := left j hj
    have hid : j ≠ id := by
      rintro rfl
      have := (raised.pending j trivial).mp hw
      exact ((raiseAlarm_entry? h.ids).mp this.2).2 rfl
    exact ⟨waiting j hid ▸ hw, by simp [hid, hl]⟩

/-- After a refill the places are filled while an id is pending. -/
theorem refill_sound {s : State} (h : ListAgrees (fun _ => True) s) (low : lowOf s.al.list ≤ 27) :
    ListAgrees (fun _ => True) s.refill ∧ PlacesSound s.refill := by
  have len : (s.pendingIds.take (27 - lowOf s.al.list)).length = min (27 - lowOf s.al.list) s.pendingIds.length :=
    List.length_take
  obtain ⟨agrees, count, left⟩ := raisePending (l := s.pendingIds.take (27 - lowOf s.al.list)) h
    ((pendingIds_nodup s).sublist (List.take_sublist _ _))
    (fun id hid => (mem_pendingIds h.pendingLow).mp (List.mem_of_mem_take hid)) (by omega)
  refine ⟨agrees, ⟨?_, fun j hj => ?_⟩⟩
  · change lowOf ((s.pendingIds.take (27 - lowOf s.al.list)).foldl State.raiseAlarm s).al.list ≤ 27
    omega
  · change lowOf ((s.pendingIds.take (27 - lowOf s.al.list)).foldl State.raiseAlarm s).al.list = 27
    obtain ⟨hw, hl⟩ := left j hj
    by_contra free
    refine hl ?_
    rw [List.take_of_length_le (by omega)]
    exact (mem_pendingIds h.pendingLow).mpr hw

/-- The end of a listing: the id leaves, and the pending ids take the free place. -/
theorem removeEntry_refill_sound {s : State} {id : AlarmId} (h : ListAgrees (· ≠ id) s) (low : lowOf s.al.list ≤ 27)
    (off : s.cond id = false) (idle : (s.alarm id).waiting = false) :
    ListAgrees (fun _ => True) (s.removeEntry id).refill ∧ PlacesSound (s.removeEntry id).refill := by
  have cond : (s.removeEntry id).cond id = false := (cond_of_quiet (removeEntry_quiet s id id)).trans off
  have waiting : ((s.removeEntry id).alarm id).waiting = false :=
    (waiting_of_quiet (removeEntry_quiet s id id)).trans idle
  have agrees : ListAgrees (· ≠ id) (s.removeEntry id) := (h.removeEntry id).mono fun _ hj => ⟨hj, hj⟩
  refine refill_sound (agrees.complete (removeEntry_unlisted h.ids) (by simp [cond, waiting])) ?_
  rw [removeEntry_list]
  exact (lowOf_others_le s id).trans low

/-! ### An entry changed in its position -/

theorem mapEntry_entry? {s : State} {id : AlarmId} {f : AlarmEntry → AlarmEntry} (hf : ∀ e, (f e).id = e.id)
    (j : AlarmId) : (s.mapEntry id f).al.entry? j = none ↔ s.al.entry? j = none := by
  rw [entry?_none, entry?_none]
  change (∀ e ∈ s.al.list.map fun e => if e.id = id then f e else e, e.id ≠ j) ↔ _
  rw [List.forall_mem_map]
  refine forall_congr' fun e => forall_congr' fun _ => ?_
  split <;> simp [hf]

theorem mapEntry_ids (l : List AlarmEntry) (id : AlarmId) {f : AlarmEntry → AlarmEntry} (hf : ∀ e, (f e).id = e.id) :
    (l.map fun e => if e.id = id then f e else e).map AlarmEntry.id = l.map AlarmEntry.id := by
  rw [List.map_map]
  refine List.map_congr_left fun e _ => ?_
  rw [Function.comp_apply]
  split <;> simp [hf]

theorem lowOf_congr {l m : List AlarmEntry} (h : l.map AlarmEntry.id = m.map AlarmEntry.id) : lowOf l = lowOf m := by
  have key : ∀ l : List AlarmEntry, lowOf l = (l.map AlarmEntry.id).countP fun id => decide (2 ≤ alarmPriority id) :=
    fun l => by rw [List.countP_map]; rfl
  rw [key, key, h]

/-- A change of one entry that leaves its id and its sequence, and brings it into agreement. -/
theorem mapEntry_sound {s : State} {id : AlarmId} {f : AlarmEntry → AlarmEntry} (hf : ∀ e, (f e).id = e.id)
    (hs : ∀ e, (f e).seq = e.seq) (h : ListAgrees (· ≠ id) s) (p : PlacesSound s)
    (own : ∀ e ∈ s.al.list, e.id = id → (f e).agrees (s.cond id))
    (idle : (s.alarm id).waiting = true ↔ (s.cond id = true ∧ s.al.entry? id = none)) :
    ListAgrees (fun _ => True) (s.mapEntry id f) ∧ PlacesSound (s.mapEntry id f) := by
  have list : (s.mapEntry id f).al.list = s.al.list.map fun e => if e.id = id then f e else e := rfl
  have ids := mapEntry_ids s.al.list id hf
  refine ⟨⟨?_, ?_, ?_, ?_, h.pendingLow⟩, ⟨?_, fun j hj => ?_⟩⟩
  · rw [list, ids]; exact h.ids
  · have seqs : (s.mapEntry id f).al.list.map AlarmEntry.seq = s.al.list.map AlarmEntry.seq := by
      rw [list, List.map_map]
      refine List.map_congr_left fun e _ => ?_
      rw [Function.comp_apply]
      split <;> simp [hs]
    rw [seqs]; exact h.seqs
  · intro e he _
    rw [list] at he
    obtain ⟨x, hx, rfl⟩ := List.mem_map.mp he
    change AlarmEntry.agrees _ (s.cond _)
    split
    case isTrue hid => rw [hf, hid]; exact own x hx hid
    case isFalse hid => exact h.agrees x hx hid
  · intro j _
    rw [mapEntry_entry? hf]
    change (s.alarm j).waiting = true ↔ s.cond j = true ∧ _
    by_cases hj : j = id
    · subst hj; exact idle
    · exact h.pending j hj
  · rw [list, lowOf_congr ids]; exact p.low_le
  · rw [list, lowOf_congr ids]; exact p.full j hj

/-! ### The write of a condition (07 R131, R135, R136, R142 to R144) -/

/-- The record of an id is written, all but the condition of the id standing as it was. -/
theorem ListAgrees.mapAlarm {P : AlarmId → Prop} {s : State} {id : AlarmId} (h : ListAgrees P s) (free : ¬ P id)
    {f : AlarmRec → AlarmRec} (low : (f (s.alarm id)).waiting = true → alarmPriority id ≠ 1) :
    ListAgrees P (s.mapAlarm id f) := by
  have other : ∀ j, j ≠ id → (s.mapAlarm id f).alarm j = s.alarm j := fun j hj =>
    State.mapAlarm_alarm_other s f (Ne.symm hj)
  refine ⟨h.ids, h.seqs, fun e he hj => ?_, fun j hj => ?_, fun j hj => ?_⟩
  · rw [State.cond, other _ fun e => free (e ▸ hj)]; exact h.agrees e he hj
  · rw [State.cond, other _ fun e => free (e ▸ hj)]; exact h.pending j hj
  · by_cases hid : j = id
    · subst hid
      rw [State.mapAlarm_alarm_same] at hj
      exact low hj
    · exact h.pendingLow j (other j hid ▸ hj)

theorem displaceable_some {al : AlarmList} {p : Nat} {e : AlarmEntry} (h : al.displaceable p = some e) :
    e ∈ al.list ∧ alarmPriority e.id ≠ 1 := by
  have found : ∀ {st : AlarmState} {q : Nat} {x : AlarmEntry},
      (al.list.find? fun e => e.state == st && alarmPriority e.id == q) = some x →
        x ∈ al.list ∧ alarmPriority x.id = q := fun {st q x} hx =>
    ⟨List.mem_of_find?_eq_some hx, by have := List.find?_some hx; simp_all⟩
  unfold AlarmList.displaceable at h
  dsimp only at h
  split at h
  · rename_i x _ _ h1
    cases h
    obtain ⟨mem, p⟩ := found h1
    exact ⟨mem, by omega⟩
  · rename_i x _ _ h2
    cases h
    split at h2
    · obtain ⟨mem, p⟩ := found h2
      exact ⟨mem, by omega⟩
    · cases h2
  · obtain ⟨mem, p⟩ := found h
    exact ⟨mem, by omega⟩

theorem displace_list (s : State) (d : AlarmId) : (s.displace d).al.list = others s d := by
  unfold State.displace
  dsimp only
  split
  · exact removeEntry_list s d
  · exact removeEntry_list s d

/-- A displaced id leaves the list, and is pending exactly if its condition is true. -/
theorem ListAgrees.displace {P : AlarmId → Prop} {s : State} {d : AlarmId} {e : AlarmEntry} (h : ListAgrees P s)
    (hd : P d) (listed : s.al.entry? d = some e) (low : alarmPriority d ≠ 1) : ListAgrees P (s.displace d) := by
  have removed := h.removeEntry d
  have cond : (s.removeEntry d).cond d = s.cond d := cond_of_quiet (removeEntry_quiet s d d)
  have waiting : ((s.removeEntry d).alarm d).waiting = false := by
    rw [waiting_of_quiet (removeEntry_quiet s d d), Bool.eq_false_iff, ne_eq, h.pending d hd, listed]
    simp
  have own : ∀ t : State, ListAgrees (fun j => P j ∧ j ≠ d) t → t.al.list = others s d →
      ((t.alarm d).waiting = true ↔ t.cond d = true) → ListAgrees P t := by
    intro t ht list hw
    refine ⟨ht.ids, ht.seqs, fun x hx hp => ?_, fun j hp => ?_, ht.pendingLow⟩
    · exact ht.agrees x hx ⟨hp, ((mem_others h.ids).mp (list ▸ hx)).2⟩
    · by_cases hj : j = d
      · subst hj
        have unlisted : t.al.entry? j = none :=
          entry?_none.mpr fun x hx => ((mem_others h.ids).mp (list ▸ hx)).2
        simp [hw, unlisted]
      · exact ht.pending j ⟨hp, hj⟩
  refine own _ ?_ (displace_list s d) ?_
  · unfold State.displace
    dsimp only
    split
    · exact removed.mapAlarm (fun hj => hj.2 rfl) fun _ => low
    · exact removed
  · unfold State.displace
    dsimp only
    split
    case isTrue on => simpa [State.cond] using on
    case isFalse off => simpa [waiting] using off

theorem lowOf_displace {s : State} {d : AlarmId} {e : AlarmEntry} (listed : s.al.entry? d = some e)
    (low : alarmPriority d ≠ 1) : lowOf (s.displace d).al.list + 1 = lowOf s.al.list := by
  rw [displace_list]
  exact lowOf_others_listed listed low

theorem entry?_of_mem {s : State} (h : (s.al.list.map AlarmEntry.id).Nodup) {e : AlarmEntry} (he : e ∈ s.al.list) :
    s.al.entry? e.id = some e := by
  cases hf : s.al.entry? e.id with
  | none => exact absurd rfl (entry?_none.mp hf e he)
  | some x =>
    obtain ⟨hx, hid⟩ := entry?_some hf
    rw [List.inj_on_of_nodup_map h hx he hid]

/-- A raise of a pending or new id leaves the places sound when one is free for it. -/
theorem raiseAlarm_sound {s : State} {id : AlarmId} (h : ListAgrees (· ≠ id) s) (low : lowOf s.al.list ≤ 27)
    (on : s.cond id = true)
    (room : lowOf (others s id) + (if alarmPriority id = 1 then 0 else 1) ≤ 27)
    (full : ∀ j, j ≠ id → (s.alarm j).waiting = true →
      lowOf (others s id) + (if alarmPriority id = 1 then 0 else 1) = 27) :
    ListAgrees (fun _ => True) (s.raiseAlarm id) ∧ PlacesSound (s.raiseAlarm id) := by
  have agrees := h.raiseAlarm low on
  refine ⟨agrees, by rw [lowOf_raiseAlarm]; exact room, fun j hj => ?_⟩
  have hid : j ≠ id := by
    rintro rfl
    exact ((raiseAlarm_entry? h.ids).mp ((agrees.pending j trivial).mp hj).2).2 rfl
  rw [lowOf_raiseAlarm]
  exact full j hid (by rw [← hj]; exact (waiting_of_quiet (by rw [raiseAlarm_quiet, if_neg hid])).symm)

/-- A listed id is raised again in its own place. -/
theorem raiseListed_sound {s : State} {id : AlarmId} {e : AlarmEntry} (h : ListAgrees (· ≠ id) s) (p : PlacesSound s)
    (on : s.cond id = true) (listed : s.al.entry? id = some e) :
    ListAgrees (fun _ => True) (s.raiseAlarm id) ∧ PlacesSound (s.raiseAlarm id) := by
  have same : lowOf (others s id) + (if alarmPriority id = 1 then 0 else 1) = lowOf s.al.list := by
    split
    case isTrue top => exact lowOf_others_top top
    case isFalse low => exact lowOf_others_listed listed low
  exact raiseAlarm_sound h p.low_le on (same ▸ p.low_le) fun j _ hj => same ▸ p.full j hj

theorem condRise_sound {s : State} {id : AlarmId} (h : ListAgrees (· ≠ id) s) (p : PlacesSound s)
    (on : s.cond id = true) (idle : (s.alarm id).waiting = false)
    (own : ∀ e ∈ s.al.list, e.id = id → e.state = .clearedUnack ∨ (e.state = .shelved ∧ e.shelveEnd.isSome = true)) :
    ListAgrees (fun _ => True) (s.condRise id) ∧ PlacesSound (s.condRise id) := by
  unfold State.condRise
  split
  case h_1 unlisted =>
    have same := others_unlisted unlisted
    unfold State.raiseNew
    split
    case isTrue room =>
      refine raiseAlarm_sound h p.low_le on ?_ fun j _ hj => ?_
      · rw [same]
        have := p.low_le
        rw [lowCount_eq] at room
        split <;> omega
      · have full := p.full j hj
        rw [lowCount_eq] at room
        rw [same]
        split <;> omega
    case isFalse room =>
      obtain ⟨low, fullHouse⟩ := not_or.mp room
      rw [lowCount_eq] at fullHouse
      have := p.low_le
      split
      case h_1 d hd =>
        obtain ⟨mem, dlow⟩ := displaceable_some hd
        have listed := entry?_of_mem h.ids mem
        have hid : id ≠ d.id := (entry?_none.mp unlisted d mem).symm
        have count := lowOf_displace listed dlow
        have agrees := h.displace (P := (· ≠ id)) hid.symm listed dlow
        have cond : (s.displace d.id).cond id = true :=
          (State.cond_of_conds (State.displace_conds s d.id) id).trans on
        have gone : others (s.displace d.id) id = (s.displace d.id).al.list := by
          refine others_unlisted (entry?_none.mpr fun x hx => ?_)
          rw [displace_list] at hx
          exact entry?_none.mp unlisted x ((others_sublist s d.id).subset hx)
        refine raiseAlarm_sound agrees (by omega) cond ?_ fun j _ _ => ?_
        · rw [gone, if_neg low]; omega
        · rw [gone, if_neg low]; omega
      case h_2 =>
        have set := h.mapAlarm (id := id) (f := fun a => { a with waiting := true }) (fun hne => hne rfl) fun _ => low
        refine ⟨set.complete unlisted ?_, p.low_le, fun j _ => ?_⟩
        · simpa [State.cond] using on
        · change lowOf s.al.list = 27
          omega
  case h_2 e listed =>
    obtain ⟨mem, hid⟩ := entry?_some listed
    have mine := own e mem hid
    split
    case h_1 => exact raiseListed_sound h p on listed
    case h_2 st => simp [st] at mine
    case h_3 st => simp [st] at mine
    case h_4 st =>
      refine ⟨⟨h.ids, h.seqs, fun x hx _ => ?_, fun j _ => ?_, h.pendingLow⟩, p⟩
      · by_cases hx' : x.id = id
        · obtain rfl : x = e := List.inj_on_of_nodup_map h.ids hx mem (hx'.trans hid.symm)
          have := (mine.resolve_left (by simp [st])).2
          simpa [AlarmEntry.agrees, st] using this
        · exact h.agrees x hx hx'
      · by_cases hj : j = id
        · subst hj; simp [idle, listed]
        · exact h.pending j hj

theorem condFall_sound {s : State} {id : AlarmId} (h : ListAgrees (· ≠ id) s) (p : PlacesSound s)
    (off : s.cond id = false) (low : (s.alarm id).waiting = true → s.al.entry? id = none)
    (own : ∀ e ∈ s.al.list, e.id = id → e.state ≠ .clearedUnack ∧ (e.state = .shelved → e.shelveEnd.isSome = true)
      ∧ (e.state ≠ .shelved → e.shelveEnd = none)) :
    ListAgrees (fun _ => True) (s.condFall id) ∧ PlacesSound (s.condFall id) := by
  unfold State.condFall
  split
  case h_1 unlisted =>
    have set := h.mapAlarm (id := id) (f := fun a => { a with waiting := false }) (fun hne => hne rfl) fun e => by cases e
    refine ⟨set.complete unlisted ?_, p.low_le, fun j hj => ?_⟩
    · simpa [State.cond] using off
    · by_cases hid : j = id
      · subst hid; simp at hj
      · rw [State.mapAlarm_alarm_other _ _ (Ne.symm hid)] at hj
        exact p.full j hj
  case h_2 e listed =>
    obtain ⟨mem, hid⟩ := entry?_some listed
    obtain ⟨notCleared, shelved, unshelved⟩ := own e mem hid
    have idle : (s.alarm id).waiting = false := by
      rw [Bool.eq_false_iff]
      intro hw
      rw [low hw] at listed
      cases listed
    have same : ∀ x ∈ s.al.list, x.id = id → x = e := fun x hx hx' =>
      List.inj_on_of_nodup_map h.ids hx mem (hx'.trans hid.symm)
    split
    case h_1 st =>
      have set := mapEntry_sound (id := id)
        (f := fun x => { x with state := .clearedUnack, clearTime := some s.stamp }) (fun _ => rfl) (fun _ => rfl) h p
        (fun x hx hx' => by
          rw [same x hx hx']
          exact ⟨off, unshelved (by simp [st])⟩)
        (by simp [idle, listed])
      exact ⟨set.1.of_bare (publishAlarm_bare _ _), set.2.of_bare (publishAlarm_bare _ _)⟩
    case h_2 => exact removeEntry_refill_sound h p.low_le off idle
    case h_3 st => exact absurd st notCleared
    case h_4 st =>
      refine ⟨⟨h.ids, h.seqs, fun x hx _ => ?_, fun j _ => ?_, h.pendingLow⟩, p⟩
      · by_cases hx' : x.id = id
        · rw [same x hx hx']
          simpa [AlarmEntry.agrees, st] using shelved st
        · exact h.agrees x hx hx'
      · by_cases hj : j = id
        · subst hj; simp [idle, listed]
        · exact h.pending j hj

theorem config_of_plant {s t : State} (h : t.plant = s.plant) : t.config = s.config := by
  change t.plant.config = s.plant.config
  rw [h]

/-- The own list of a configured station, changed by an operation that leaves the plant. -/
theorem alarmSound_configured {s t : State} (hc : s.config ≠ none) (plant : t.plant = s.plant)
    (h : ListAgrees (fun _ => True) t ∧ PlacesSound t) : t.AlarmSound :=
  (alarmSound_iff t).mpr ⟨h.1, h.2, fun off => absurd (config_of_plant plant ▸ off) hc⟩

/-- A listed id shows that the station is configured. -/
theorem configured_of_listed {s : State} (h : s.AlarmSound) {id : AlarmId} {e : AlarmEntry}
    (listed : s.al.entry? id = some e) : s.config ≠ none := fun off => by
  obtain ⟨-, -, empty⟩ := (alarmSound_iff s).mp h
  have mem := (entry?_some listed).1
  rw [(empty off).1] at mem
  cases mem

theorem fullNotice_sound {b s : State} (h : ListAgrees (fun _ => True) s ∧ PlacesSound s) :
    ListAgrees (fun _ => True) (fullNotice b s) ∧ PlacesSound (fullNotice b s) :=
  ⟨h.1.of_bare (fullNotice_bare _ _), h.2.of_bare (fullNotice_bare _ _)⟩

/-- Every write of a condition keeps the own list sound. -/
theorem setCond_alarmSound {s : State} (h : s.AlarmSound) (id : AlarmId) (v : Bool) (x : Option Nat) :
    (s.setCond id v x).AlarmSound := by
  obtain ⟨agrees, places, -⟩ := (alarmSound_iff s).mp h
  by_cases same : (!s.configured || s.cond id == v) = true
  · unfold State.setCond
    rw [if_pos same]
    exact h
  have hc : s.config ≠ none := by
    intro off
    simp [State.configured, off] at same
  have others : ListAgrees (· ≠ id) s := agrees.mono fun _ _ => trivial
  refine alarmSound_configured hc (State.setCond_plant s id v x) ?_
  unfold State.setCond
  rw [if_neg same]
  simp only [Bool.or_eq_true, Bool.not_eq_true', beq_iff_eq, not_or] at same
  have kept : ∀ f : AlarmRec → AlarmRec, (∀ r, (f r).waiting = r.waiting) → PlacesSound (s.mapAlarm id f) := by
    intro f hf
    refine ⟨places.low_le, fun j hj => places.full j ?_⟩
    by_cases hid : j = id
    · subst hid; rw [State.mapAlarm_alarm_same, hf] at hj; exact hj
    · rw [State.mapAlarm_alarm_other _ _ (Ne.symm hid)] at hj; exact hj
  cases v with
  | true =>
    have was : s.cond id = false := by simpa using same.2
    have idle : (s.alarm id).waiting = false := by
      rw [Bool.eq_false_iff]
      intro hw
      have := ((agrees.pending id trivial).mp hw).1
      rw [was] at this
      cases this
    refine fullNotice_sound (condRise_sound (others.mapAlarm (fun hne => hne rfl) fun hw => ?_) (kept _ fun _ => rfl)
      (by simp [State.cond]) (by simpa using idle) fun e he hid => ?_)
    · exact absurd hw (by simp [idle])
    · have own := agrees.agrees e he trivial
      rw [hid, was] at own
      unfold AlarmEntry.agrees at own
      split at own <;> simp_all
  | false =>
    have was : s.cond id = true := by simpa using same.2
    refine fullNotice_sound (condFall_sound (others.mapAlarm (fun hne => hne rfl) fun hw => ?_) (kept _ fun _ => rfl)
      (by simp [State.cond]) (fun hw => ?_) fun e he hid => ?_)
    · exact agrees.pendingLow id hw
    · rw [State.mapAlarm_alarm_same] at hw
      exact ((agrees.pending id trivial).mp hw).2
    · have own := agrees.agrees e he trivial
      rw [hid, was] at own
      unfold AlarmEntry.agrees at own
      split at own <;> simp_all

/-! ### Acknowledgement and shelving (07 R138 to R141) -/

theorem idle_of_listed {s : State} (h : ListAgrees (fun _ => True) s) {id : AlarmId} {e : AlarmEntry}
    (listed : s.al.entry? id = some e) : (s.alarm id).waiting = false := by
  rw [Bool.eq_false_iff]
  intro hw
  have := ((h.pending id trivial).mp hw).2
  rw [listed] at this
  cases this

theorem ackOwn_alarmSound {s : State} (h : s.AlarmSound) (n : Nat) (seq : Word) : (s.ackOwn n seq).1.AlarmSound := by
  obtain ⟨agrees, places, -⟩ := (alarmSound_iff s).mp h
  have others : ∀ id, ListAgrees (· ≠ id) s := fun _ => agrees.mono fun _ _ => trivial
  unfold State.ackOwn
  split
  case h_1 => exact h
  case h_2 id _ =>
  split
  case h_1 => exact h
  case h_2 e listed =>
  obtain ⟨mem, hid⟩ := entry?_some listed
  have hc := configured_of_listed h listed
  have idle := idle_of_listed agrees listed
  have own := agrees.agrees e mem trivial
  split
  case isTrue => exact h
  case isFalse =>
  split
  case h_1 st =>
    simp only [AlarmEntry.agrees, st, hid] at own
    have set := mapEntry_sound (id := id) (f := fun x => { x with state := .activeAcked }) (fun _ => rfl)
      (fun _ => rfl) (others id) places (fun x hx hx' => by
        rw [List.inj_on_of_nodup_map agrees.ids hx mem (hx'.trans hid.symm)]
        exact own) (by simp [idle, listed])
    exact alarmSound_configured hc (by simp)
      ⟨set.1.of_bare (publishAlarm_bare _ _), set.2.of_bare (publishAlarm_bare _ _)⟩
  case h_2 st =>
    simp only [AlarmEntry.agrees, st, hid] at own
    exact alarmSound_configured hc (by simp)
      (fullNotice_sound (removeEntry_refill_sound (others id) places.low_le own.1 idle))
  case h_3 => exact h
  case h_4 => exact h

theorem shelveEntry_alarmSound {s : State} (h : s.AlarmSound) {id : AlarmId} {e : AlarmEntry}
    (listed : s.al.entry? id = some e) (m : Nat) : (s.shelveEntry id m).AlarmSound := by
  obtain ⟨agrees, places, -⟩ := (alarmSound_iff s).mp h
  refine alarmSound_configured (configured_of_listed h listed) (State.shelveEntry_plant s id m) ?_
  have set := mapEntry_sound (id := id)
    (f := fun x => { x with state := .shelved, shelveEnd := some (s.now + seconds (60 * m)) }) (fun _ => rfl)
    (fun _ => rfl) (agrees.mono fun _ _ => trivial) places (fun _ _ _ => rfl)
    (by simp [idle_of_listed agrees listed, listed])
  exact ⟨set.1.of_bare (publishAlarm_bare _ _), set.2.of_bare (publishAlarm_bare _ _)⟩

theorem endShelve_alarmSound {s : State} (h : s.AlarmSound) {id : AlarmId} {e : AlarmEntry}
    (listed : s.al.entry? id = some e) : (s.endShelve id).AlarmSound := by
  obtain ⟨agrees, places, -⟩ := (alarmSound_iff s).mp h
  have others : ListAgrees (· ≠ id) s := agrees.mono fun _ _ => trivial
  refine alarmSound_configured (configured_of_listed h listed) (State.endShelve_plant s id) ?_
  unfold State.endShelve
  split
  case isTrue on => exact raiseListed_sound others places on listed
  case isFalse off =>
    exact fullNotice_sound (removeEntry_refill_sound others places.low_le (by simpa using off)
      (idle_of_listed agrees listed))

/-- The own list of a state with the same records, list and configuration, apart from announce marks. -/
theorem alarmSound_of_bare {s t : State} (h : s.AlarmSound) (e : bare t = bare s) (config : t.config = s.config) :
    t.AlarmSound := by
  obtain ⟨agrees, places, off⟩ := (alarmSound_iff s).mp h
  refine (alarmSound_iff t).mpr ⟨agrees.of_bare e, places.of_bare e, fun hc => ?_⟩
  obtain ⟨list, conds⟩ := off (config ▸ hc)
  exact ⟨(list_of_bare e).trans list, fun j => (cond_of_quiet (quiet_of_bare e j)).trans (conds j)⟩

end Sys2Proof.Proofs
end

section
/-! PROOF. The floor alarm view, the shift ring and the floor summary stay within their bounds (08 R150, R153; 09 R163,
R171, R177, R179). -/

namespace Sys2Proof.Proofs

open Sys2Proof.Machine

/-! ### The floor alarm view -/

/-- No two mirrors of one origin and id. -/
def MirrorsDistinct (v : List Mirror) : Prop := v.Pairwise fun m k => ¬ (m.origin = k.origin ∧ m.id = k.id)

theorem viewSound_congr {s t : State} (h : t.fv.view = s.fv.view) (full : t.fv.full = s.fv.full) :
    t.ViewSound ↔ s.ViewSound := by
  unfold State.ViewSound
  rw [h, full]

theorem setView_fv (s : State) (v : List Mirror) (full : Bool) :
    (s.setView v full).fv = { s.fv with view := v, full := full && decide (64 ≤ v.length) } := by
  unfold State.setView
  dsimp only
  split <;> rfl

theorem setView_viewSound {v : List Mirror} (len : v.length ≤ 64) (dist : MirrorsDistinct v) (s : State)
    (full : Bool) : (s.setView v full).ViewSound := by
  refine ⟨?_, ?_, ?_⟩ <;> rw [setView_fv]
  · exact len
  · exact dist
  · intro hf
    simp only [Bool.and_eq_true, decide_eq_true_eq] at hf
    exact Nat.le_antisymm len hf.2

/-- A view with fewer mirrors. -/
theorem setView_sublist {s : State} (h : s.ViewSound) {v : List Mirror} (sub : v.Sublist s.fv.view) (full : Bool) :
    (s.setView v full).ViewSound :=
  setView_viewSound (sub.length_le.trans h.1) (h.2.1.sublist sub) s full

theorem mirrorsDistinct_map {v : List Mirror} (h : MirrorsDistinct v) {f : Mirror → Mirror}
    (ho : ∀ m, (f m).origin = m.origin) (hi : ∀ m, (f m).id = m.id) : MirrorsDistinct (v.map f) := by
  unfold MirrorsDistinct
  rw [List.pairwise_map]
  simp only [ho, hi]
  exact h

/-- A view with its mirrors changed in their positions. -/
theorem setView_map {s : State} (h : s.ViewSound) {v : List Mirror} (sub : v.Sublist s.fv.view) {f : Mirror → Mirror}
    (ho : ∀ m, (f m).origin = m.origin) (hi : ∀ m, (f m).id = m.id) (full : Bool) :
    (s.setView (v.map f) full).ViewSound :=
  setView_viewSound (by rw [List.length_map]; exact sub.length_le.trans h.1)
    (mirrorsDistinct_map (h.2.1.sublist sub) ho hi) s full

theorem mapMirror_viewSound {s : State} (h : s.ViewSound) (n : Station) (id : AlarmId) {f : Mirror → Mirror}
    (ho : ∀ m, (f m).origin = m.origin) (hi : ∀ m, (f m).id = m.id) : (s.mapMirror n id f).ViewSound := by
  refine setView_map h (.refl _) (fun m => ?_) (fun m => ?_) _
  · split
    · exact ho m
    · rfl
  · split
    · exact hi m
    · rfl

theorem mirror?_none {fv : FloorView} {n : Station} {id : AlarmId} :
    fv.mirror? n id = none ↔ ∀ m ∈ fv.view, ¬ (m.origin = n ∧ m.id = id) := by
  simp [FloorView.mirror?]

theorem mirrorsDistinct_append {v : List Mirror} (h : MirrorsDistinct v) {m : Mirror}
    (fresh : ∀ k ∈ v, ¬ (k.origin = m.origin ∧ k.id = m.id)) : MirrorsDistinct (v ++ [m]) := by
  unfold MirrorsDistinct
  rw [List.pairwise_append]
  refine ⟨h, List.pairwise_singleton _ _, fun k hk x hx => ?_⟩
  rw [List.mem_singleton.mp hx]
  exact fresh k hk

theorem insertMirror_viewSound {s : State} (h : s.ViewSound) {m : Mirror} (fresh : s.fv.mirror? m.origin m.id = none) :
    (s.insertMirror m).ViewSound := by
  have fresh := mirror?_none.mp fresh
  unfold State.insertMirror
  split
  case isTrue room =>
    refine setView_viewSound ?_ (mirrorsDistinct_append h.2.1 fresh) s _
    rw [List.length_append, List.length_singleton]
    omega
  case isFalse =>
    split
    case h_1 i hi =>
      obtain ⟨hl, -⟩ := List.findIdx?_eq_some_iff_getElem.mp hi
      have sub := List.eraseIdx_sublist s.fv.view i
      refine setView_viewSound ?_
        (mirrorsDistinct_append (h.2.1.sublist sub) fun k hk => fresh k (sub.subset hk)) s _
      have := h.1
      rw [List.length_append, List.length_eraseIdx_of_lt hl, List.length_singleton]
      omega
    case h_2 => exact setView_viewSound h.1 h.2.1 s true

theorem judgeReport_new {m : Option Mirror} {seq : Word} {st : AlarmState} (h : judgeReport m seq st = .new) :
    m = none := by
  unfold judgeReport at h
  split at h
  · rfl
  · repeat' split at h
    all_goals cases h

theorem takeReport_viewSound {s : State} (h : s.ViewSound) (n : Station) (id : AlarmId) (st : AlarmState) (seq : Word)
    (time : Stamp) : (s.takeReport n id st seq time).ViewSound := by
  unfold State.takeReport
  split
  case h_1 new => exact insertMirror_viewSound h (judgeReport_new new)
  case h_2 => exact mapMirror_viewSound h _ _ (fun _ => rfl) fun _ => rfl
  case h_3 => exact mapMirror_viewSound h _ _ (fun _ => rfl) fun _ => rfl
  case h_4 => exact mapMirror_viewSound h _ _ (fun _ => rfl) fun _ => rfl
  case h_5 => exact h

theorem takeRemoved_viewSound {s : State} (h : s.ViewSound) (n : Station) (id : AlarmId) (seq : Word) :
    (s.takeRemoved n id seq).ViewSound := by
  unfold State.takeRemoved
  split
  case h_1 => exact h
  case h_2 =>
    split
    · exact setView_sublist h List.filter_sublist _
    · exact h

theorem endPass_viewSound {s : State} (h : s.ViewSound) (n : Station) : (s.endPass n).ViewSound := by
  unfold State.endPass
  refine setView_map h ?_ (fun m => ?_) (fun m => ?_) _
  · split
    · exact List.filter_sublist
    · exact .refl _
  · split <;> rfl
  · split <;> rfl

theorem mapRoll_viewSound {s : State} (h : s.ViewSound) (n : Station) (f : RollCall → RollCall) :
    (s.mapRoll n f).ViewSound := h

theorem viewRestart_viewSound {s : State} (h : s.ViewSound) (n : Station) : (s.viewRestart n).ViewSound :=
  mapRoll_viewSound (setView_sublist h List.filter_sublist _) n _

theorem viewExpired_viewSound {s : State} (h : s.ViewSound) (n : Station) : (s.viewExpired n).ViewSound :=
  mapRoll_viewSound (setView_map h (.refl _) (fun m => by split <;> rfl) (fun m => by split <;> rfl) _) n _

theorem rollPass_viewSound {s : State} (h : s.ViewSound) (n : Station) (i : Nat) : (s.rollPass n i).ViewSound := by
  unfold State.rollPass
  dsimp only
  split
  · exact h
  split
  · exact mapRoll_viewSound (endPass_viewSound h n) n _
  split
  · exact h
  · exact h

theorem takeRoll_viewSound {s : State} (h : s.ViewSound) (n : Station) (listed index : Nat) (e : Option RollEntry) :
    (s.takeRoll n listed index e).ViewSound := by
  unfold State.takeRoll
  split
  · exact h
  · dsimp only
    refine mapRoll_viewSound ?_ n _
    split
    · exact takeReport_viewSound (rollPass_viewSound h n index) _ _ _ _ _
    · exact rollPass_viewSound h n index

/-! ### The shift store -/

/-- What `State.ShiftSound` says of the floor summary. -/
structure SummarySound (l : List SummarySlot) : Prop where
  length_le : l.length ≤ 4
  numbers : (l.map SummarySlot.number).Nodup
  entries : ∀ sl ∈ l, sl.entries.Pairwise fun a b => a.station < b.station

theorem shiftSound_iff (s : State) : s.ShiftSound ↔ s.sr.sec < 86400 ∧ s.sr.zoneTrips ≤ 65535 ∧ s.sr.ring.length ≤ 8
    ∧ SummarySound s.sr.summary :=
  ⟨fun ⟨h1, h2, h3, h4, h5, h6⟩ => ⟨h1, h2, h3, h4, h5, h6⟩, fun ⟨h1, h2, h3, h4, h5, h6⟩ => ⟨h1, h2, h3, h4, h5, h6⟩⟩

theorem mem_putEntry {e x : StationSummary} {l : List StationSummary} (h : x ∈ putEntry e l) : x = e ∨ x ∈ l := by
  induction l with
  | nil => simpa [putEntry] using h
  | cons y rest ih =>
    rw [putEntry] at h
    split at h
    · rw [List.mem_cons] at h ⊢; tauto
    split at h
    · simpa using h
    · rw [List.mem_cons] at h ⊢; tauto

theorem putEntry_ordered (e : StationSummary) {l : List StationSummary}
    (h : l.Pairwise fun a b => a.station < b.station) : (putEntry e l).Pairwise fun a b => a.station < b.station := by
  induction l with
  | nil => simp [putEntry]
  | cons y rest ih =>
    obtain ⟨first, tail⟩ := List.pairwise_cons.mp h
    rw [putEntry]
    split
    case isTrue same => exact List.pairwise_cons.mpr ⟨fun x hx => same ▸ first x hx, tail⟩
    case isFalse differ =>
      split
      case isTrue less =>
        refine List.pairwise_cons.mpr ⟨fun x hx => ?_, h⟩
        obtain rfl | hx := List.mem_cons.mp hx
        · exact less
        · exact less.trans (first x hx)
      case isFalse greater =>
        refine List.pairwise_cons.mpr ⟨fun x hx => ?_, ih tail⟩
        obtain rfl | hx := mem_putEntry hx
        · exact lt_of_le_of_ne (not_lt.mp greater) differ
        · exact first x hx

theorem putSlot_perm (slot : SummarySlot) (l : List SummarySlot) : (putSlot slot l).Perm (slot :: l) := by
  induction l with
  | nil => exact .refl _
  | cons x rest ih =>
    rw [putSlot]
    split
    · exact .refl _
    · exact (ih.cons x).trans (.swap slot x rest)

/-- A new slot joins fewer than 4. -/
theorem putSlot_sound {l : List SummarySlot} (h : SummarySound l) (room : l.length < 4) {n : Word}
    (fresh : ∀ x ∈ l, x.number ≠ n) (e : StationSummary) : SummarySound (putSlot ⟨n, [e]⟩ l) := by
  have perm := putSlot_perm ⟨n, [e]⟩ l
  refine ⟨?_, ?_, fun sl hsl => ?_⟩
  · rw [perm.length_eq]; exact room
  · rw [(perm.map SummarySlot.number).nodup_iff, List.map_cons, List.nodup_cons, List.mem_map]
    exact ⟨fun ⟨x, hx, he⟩ => fresh x hx he, h.numbers⟩
  · rw [perm.mem_iff, List.mem_cons] at hsl
    obtain rfl | hsl := hsl
    · exact List.pairwise_singleton _ _
    · exact h.entries sl hsl

theorem fileSummary_sound (n : Word) (e : StationSummary) {l : List SummarySlot} (h : SummarySound l) :
    SummarySound (fileSummary n e l) := by
  unfold fileSummary
  split
  case isTrue =>
    refine ⟨by simpa using h.length_le, ?_, fun sl hsl => ?_⟩
    · have same : (l.map fun x => if x.number = n then { x with entries := putEntry e x.entries } else x).map
          SummarySlot.number = l.map SummarySlot.number := by
        rw [List.map_map]
        refine List.map_congr_left fun x _ => ?_
        rw [Function.comp_apply]
        split <;> rfl
      rw [same]
      exact h.numbers
    · obtain ⟨x, hx, rfl⟩ := List.mem_map.mp hsl
      split
      · exact putEntry_ordered e (h.entries x hx)
      · exact h.entries x hx
  case isFalse none =>
    have fresh : ∀ x ∈ l, x.number ≠ n := by simpa using none
    split
    case isTrue room => exact putSlot_sound h room fresh e
    case isFalse =>
      split
      case h_1 oldest last =>
        split
        case isTrue =>
          have sub := List.dropLast_sublist l
          have shorter : SummarySound l.dropLast := ⟨sub.length_le.trans h.length_le, h.numbers.sublist (sub.map _),
            fun sl hsl => h.entries sl (sub.subset hsl)⟩
          refine putSlot_sound shorter ?_ (fun x hx => fresh x (sub.subset hx)) e
          have := h.length_le
          rw [List.length_dropLast]
          omega
        case isFalse => exact h
      case h_2 => exact h

theorem fileShift_shiftSound {s : State} (h : s.ShiftSound) (m : ShiftMsg) : (s.fileShift m).ShiftSound := by
  obtain ⟨sec, trips, ring, summary⟩ := (shiftSound_iff s).mp h
  exact (shiftSound_iff _).mpr ⟨sec, trips, ring, fileSummary_sound _ _ summary⟩

/-- The parts of SR that `State.ShiftSound` reads. -/
theorem shiftSound_congr {s t : State} (sec : t.sr.sec = s.sr.sec) (trips : t.sr.zoneTrips = s.sr.zoneTrips)
    (ring : t.sr.ring.length = s.sr.ring.length) (summary : t.sr.summary = s.sr.summary) :
    t.ShiftSound ↔ s.ShiftSound := by
  unfold State.ShiftSound
  rw [sec, trips, ring, summary]

theorem fv_of_still {s t : State} (h : t.still = s.still) : t.fv = s.fv := by
  change t.still.fv = s.still.fv; rw [h]

theorem sec_of_still {s t : State} (h : t.still = s.still) : t.sr.sec = s.sr.sec := by
  change t.still.sr.sec = s.still.sr.sec; rw [h]

theorem zoneTrips_of_still {s t : State} (h : t.still = s.still) : t.sr.zoneTrips = s.sr.zoneTrips := by
  change t.still.sr.zoneTrips = s.still.sr.zoneTrips; rw [h]

theorem summary_of_still {s t : State} (h : t.still = s.still) : t.sr.summary = s.sr.summary := by
  change t.still.sr.summary = s.still.sr.summary; rw [h]

theorem ringLength_of_still {s t : State} (h : t.still = s.still) : t.sr.ring.length = s.sr.ring.length := by
  have ring : t.still.sr.ring.length = s.still.sr.ring.length := by rw [h]
  simpa [State.still, State.plant] using ring

/-- States with one still part hold one view and one shift store, but for announce marks and running times. -/
theorem storesSound_of_still {s t : State} (h : t.still = s.still) :
    (t.ViewSound ↔ s.ViewSound) ∧ (t.ShiftSound ↔ s.ShiftSound) :=
  ⟨viewSound_congr (by rw [fv_of_still h]) (by rw [fv_of_still h]),
    shiftSound_congr (sec_of_still h) (zoneTrips_of_still h) (ringLength_of_still h) (summary_of_still h)⟩

/-- An offer leaves the floor view, and of the shift store all but announce marks. -/
theorem offer_stores (s : State) (cls : FrameClass) (p : List Word) (r k : Nat) :
    (s.offer cls p r k).1.fv = s.fv ∧ (s.offer cls p r k).1.sr.sec = s.sr.sec
      ∧ (s.offer cls p r k).1.sr.zoneTrips = s.sr.zoneTrips
      ∧ (s.offer cls p r k).1.sr.ring.length = s.sr.ring.length
      ∧ (s.offer cls p r k).1.sr.summary = s.sr.summary := by
  have lost : ∀ (x : State) (f : TxFrame), x.fv = s.fv → x.sr = s.sr → (x.loseFrame f).fv = s.fv
      ∧ (x.loseFrame f).sr.sec = s.sr.sec ∧ (x.loseFrame f).sr.zoneTrips = s.sr.zoneTrips
      ∧ (x.loseFrame f).sr.ring.length = s.sr.ring.length ∧ (x.loseFrame f).sr.summary = s.sr.summary := by
    intro x f fv sr
    have still := State.still_of_plant (State.loseFrame_plant x f)
    exact ⟨(fv_of_still still).trans fv, by rw [sec_of_still still, sr], by rw [zoneTrips_of_still still, sr],
      by rw [ringLength_of_still still, sr], by rw [summary_of_still still, sr]⟩
  obtain ⟨h, -⟩ | ⟨-, -, ⟨-, h⟩ | ⟨-, -, ⟨-, h⟩ | ⟨-, i, b, -, h⟩⟩⟩ := offer_cases s cls p r k
  · rw [h]; exact ⟨rfl, rfl, rfl, rfl, rfl⟩
  · rw [h]; exact ⟨rfl, rfl, rfl, rfl, rfl⟩
  · rw [h]; exact ⟨rfl, rfl, rfl, rfl, rfl⟩
  · rw [h]
    unfold State.evictAt
    split
    · split
      · exact ⟨rfl, rfl, rfl, rfl, rfl⟩
      · exact lost _ _ rfl rfl
    · exact ⟨rfl, rfl, rfl, rfl, rfl⟩

theorem tick_shiftSound {s : State} (h : s.ShiftSound) (cfg : Option Config) :
    (s.mapSr fun r => r.tick cfg).ShiftSound := by
  obtain ⟨sec, trips, ring, summary⟩ := (shiftSound_iff s).mp h
  refine (shiftSound_iff _).mpr ⟨?_, trips, ring, summary⟩
  change (if s.sr.sec = 86399 then 0 else s.sr.sec + 1) < 86400
  split <;> omega

theorem countZoneTrip_shiftSound {s : State} (h : s.ShiftSound) : s.countZoneTrip.ShiftSound := by
  obtain ⟨sec, -, ring, summary⟩ := (shiftSound_iff s).mp h
  exact (shiftSound_iff _).mpr ⟨sec, Nat.min_le_right _ _, ring, summary⟩

theorem startShift_shiftSound {s : State} (h : s.ShiftSound) (closed : ShiftRecord) (next : Word) :
    (s.startShift closed next).ShiftSound := by
  obtain ⟨sec, -, -, summary⟩ := (shiftSound_iff s).mp h
  refine (shiftSound_iff _).mpr ⟨sec, Nat.zero_le _, ?_, summary⟩
  change ((closed :: s.sr.ring).take 8).length ≤ 8
  rw [List.length_take]
  exact Nat.min_le_left _ _

end Sys2Proof.Proofs
end

section
/-! PROOF. What each operation of the channel engine leaves unchanged, and what it makes of the record of its channel: the
rules by which the channel obligations read a state after such operations (03). -/

namespace Sys2Proof.Proofs

open Sys2Proof.Machine

/-! ### What the plant shows -/

section

variable {s t : State} (h : t.plant = s.plant)

include h

theorem ce_of_plant : t.ce = s.ce := by change t.plant.ce = s.plant.ce; rw [h]
theorem zs_of_plant : t.zs = s.zs := by change t.plant.zs = s.plant.zs; rw [h]
theorem cr_of_plant : t.cr = s.cr := by change t.plant.cr = s.plant.cr; rw [h]
theorem firings_of_plant : t.fa.zones = s.fa.zones := by change t.plant.fa.zones = s.plant.fa.zones; rw [h]
theorem accts_of_plant : t.sr.accts = s.sr.accts := by change t.plant.sr.accts = s.plant.sr.accts; rw [h]
theorem buffer_of_plant : t.sp.buffer = s.sp.buffer := by change t.plant.sp.buffer = s.plant.sp.buffer; rw [h]
theorem mode_of_plant : t.pt.mode = s.pt.mode := by change t.plant.pt.mode = s.plant.pt.mode; rw [h]
theorem peers_of_plant : t.pt.peers = s.pt.peers := by change t.plant.pt.peers = s.plant.pt.peers; rw [h]
theorem now_of_plant : t.now = s.now := by change t.plant.now = s.plant.now; rw [h]

theorem chan_of_plant (d : Chan) : t.chan d = s.chan d := by rw [State.chan, ce_of_plant h, State.chan]
theorem acct_of_plant (d : Chan) : t.acct d = s.acct d := by rw [State.acct, accts_of_plant h, State.acct]
theorem firing_of_plant (z : Zone) : t.firing z = s.firing z := by rw [State.firing, firings_of_plant h, State.firing]

end

/-! ### One channel's operations -/

/-- The alarm ids that the state of a channel writes: its trip, its lockout, its fan fault and its feed deviation. -/
def stateIds (c : Chan) : List AlarmId := [idChannelTrip c, idChannelLockout c, idFanFault c, idFeedDeviation c]

/-- One elementary change that an operation on a channel makes: a notice, a write of a condition of the channel's state,
the queue of command records, the record of the channel, its account. -/
inductive ChanMove (c : Chan) : State → State → Prop
  | notify (s : State) (k : Notice) : ChanMove c s (s.notify k)
  | cond (s : State) (id : AlarmId) (v : Bool) (x : Option Nat) (h : id ∈ stateIds c) : ChanMove c s (s.setCond id v x)
  | record (s : State) (f : Channel → Channel) : ChanMove c s (s.mapChan c f)
  | waiting (s : State) (w : List CmdRecord) : ChanMove c s (s.mapCe fun e => { e with waiting := w })
  | account (s : State) (f : Account → Account) : ChanMove c s (s.mapAcct c f)

/-- A sequence of elementary changes of one channel. -/
abbrev ChanMoves (c : Chan) : State → State → Prop := Relation.ReflTransGen (ChanMove c)

section

variable {c : Chan} {s t : State}

theorem ChanMoves.notify (m : ChanMoves c s t) (k : Notice) : ChanMoves c s (t.notify k) := m.tail (.notify _ _)
theorem ChanMoves.record (m : ChanMoves c s t) (f : Channel → Channel) : ChanMoves c s (t.mapChan c f) :=
  m.tail (.record _ _)
theorem ChanMoves.account (m : ChanMoves c s t) (f : Account → Account) : ChanMoves c s (t.mapAcct c f) :=
  m.tail (.account _ _)
theorem ChanMoves.waiting (m : ChanMoves c s t) (w : List CmdRecord) :
    ChanMoves c s (t.mapCe fun e => { e with waiting := w }) := m.tail (.waiting _ _)
theorem ChanMoves.cond (m : ChanMoves c s t) {id : AlarmId} (h : id ∈ stateIds c) (v : Bool) (x : Option Nat) :
    ChanMoves c s (t.setCond id v x) := m.tail (.cond _ _ _ _ h)

/-- What each elementary change of a channel leaves: a value of the state that none of them writes. -/
theorem ChanMoves.leaves {β : Sort _} (P : State → β) (h : ∀ a b, ChanMove c a b → P b = P a) (m : ChanMoves c s t) :
    P t = P s := by
  induction m with
  | refl => rfl
  | tail _ m ih => exact (h _ _ m).trans ih

theorem ChanMoves.chan_other (m : ChanMoves c s t) {d : Chan} (hd : d ≠ c) : t.chan d = s.chan d := by
  refine m.leaves (fun x => x.chan d) fun a b hm => ?_
  cases hm with
  | notify k => rfl
  | cond id v x h => exact setCond_chan _ _ _ _ d
  | record f => exact State.mapChan_chan_other _ _ (Ne.symm hd)
  | waiting w => rfl
  | account f => rfl

theorem ChanMoves.acct_other (m : ChanMoves c s t) {d : Chan} (hd : d ≠ c) : t.acct d = s.acct d := by
  refine m.leaves (fun x => x.acct d) fun a b hm => ?_
  cases hm with
  | notify k => rfl
  | cond id v x h => exact acct_of_plant (State.setCond_plant _ _ _ _) d
  | record f => rfl
  | waiting w => rfl
  | account f => exact State.mapAcct_acct_other _ _ (Ne.symm hd)

/-- The parts of the state that no operation on a channel writes. -/
theorem ChanMoves.zs (m : ChanMoves c s t) : t.zs = s.zs := by
  refine m.leaves State.zs fun a b hm => ?_
  cases hm with
  | cond id v x h => exact zs_of_plant (State.setCond_plant _ _ _ _)
  | _ => rfl

theorem ChanMoves.cr (m : ChanMoves c s t) : t.cr = s.cr := by
  refine m.leaves State.cr fun a b hm => ?_
  cases hm with
  | cond id v x h => exact cr_of_plant (State.setCond_plant _ _ _ _)
  | _ => rfl

theorem ChanMoves.firings (m : ChanMoves c s t) : t.fa.zones = s.fa.zones := by
  refine m.leaves (fun x => x.fa.zones) fun a b hm => ?_
  cases hm with
  | cond id v x h => exact firings_of_plant (State.setCond_plant _ _ _ _)
  | _ => rfl

theorem ChanMoves.buffer (m : ChanMoves c s t) : t.sp.buffer = s.sp.buffer := by
  refine m.leaves (fun x => x.sp.buffer) fun a b hm => ?_
  cases hm with
  | cond id v x h => exact buffer_of_plant (State.setCond_plant _ _ _ _)
  | _ => rfl

theorem ChanMoves.mode (m : ChanMoves c s t) : t.pt.mode = s.pt.mode := by
  refine m.leaves (fun x => x.pt.mode) fun a b hm => ?_
  cases hm with
  | cond id v x h => exact mode_of_plant (State.setCond_plant _ _ _ _)
  | _ => rfl

theorem ChanMoves.config (m : ChanMoves c s t) : t.config = s.config := by
  refine m.leaves State.config fun a b hm => ?_
  cases hm with
  | cond id v x h => exact config_of_plant (State.setCond_plant _ _ _ _)
  | _ => rfl

theorem ChanMoves.now (m : ChanMoves c s t) : t.now = s.now := by
  refine m.leaves State.now fun a b hm => ?_
  cases hm with
  | cond id v x h => exact now_of_plant (State.setCond_plant _ _ _ _)
  | _ => rfl

theorem ChanMoves.zone (m : ChanMoves c s t) (z : Zone) : t.zone z = s.zone z := by
  rw [State.zone, m.zs, State.zone]

theorem ChanMoves.fuel? (m : ChanMoves c s t) (d : Chan) : t.fuel? d = s.fuel? d := by
  simp only [State.fuel?, State.chanCfg, m.config]

/-- A condition that the state of the channel does not write. -/
theorem ChanMoves.cond_other (m : ChanMoves c s t) {id : AlarmId} (hid : id ∉ stateIds c) : t.cond id = s.cond id := by
  refine m.leaves (fun x => x.cond id) fun a b hm => ?_
  cases hm with
  | notify k => rfl
  | cond j v x h =>
    by_cases hc : a.configured = true
    · rw [State.setCond_cond _ _ _ _ hc, if_neg]
      rintro rfl
      exact hid h
    · simp [State.setCond, Bool.eq_false_iff.mpr hc]
  | record f => rfl
  | waiting w => rfl
  | account f => rfl

end

/-! ### A channel's record beside other writes -/

section

variable (s : State) (c d : Chan)

@[simp] theorem notify_chan (k : Notice) : (s.notify k).chan d = s.chan d := rfl
@[simp] theorem mapAcct_chan (f : Account → Account) : (s.mapAcct c f).chan d = s.chan d := rfl
@[simp] theorem mapZone_chan (z : Zone) (f : ZoneRec → ZoneRec) : (s.mapZone z f).chan d = s.chan d := rfl
@[simp] theorem mapSp_chan (f : StationPort → StationPort) : (s.mapSp f).chan d = s.chan d := rfl
@[simp] theorem mapSr_chan (f : ShiftStore → ShiftStore) : (s.mapSr f).chan d = s.chan d := rfl
@[simp] theorem mapLi_chan (f : LineIf → LineIf) : (s.mapLi f).chan d = s.chan d := rfl
@[simp] theorem mapPt_chan (f : PeerTable → PeerTable) : (s.mapPt f).chan d = s.chan d := rfl
@[simp] theorem mapFiring_chan (z : Zone) (f : Firing → Firing) : (s.mapFiring z f).chan d = s.chan d := rfl
@[simp] theorem mapCr_chan (f : Cooler → Cooler) : (s.mapCr f).chan d = s.chan d := rfl

end

/-! ### The actuator handshake (03 section 3.3) -/

/-- The record of a channel after a command is sent. -/
def sentRec (ch : Channel) (cmd : Cmd) (attempt : Nat) : Channel :=
  { ch with
    inFlight := some ⟨cmd, ch.tagCtr, attempt, 0, none⟩
    proof := ch.proofSent cmd attempt
    tagCtr := ch.tagCtr + 1 }

/-- The record of a channel after a command is issued. -/
def issuedRec (ch : Channel) (cmd : Cmd) : Channel :=
  match ch.inFlight with
  | none => sentRec ch cmd 1
  | some _ => ch.enqueue cmd

/-- The record of a channel after the command in flight has ended. -/
def nextRec (ch : Channel) : Channel :=
  match ch.queued with
  | some cmd => sentRec { ch with inFlight := none, queued := none } cmd 1
  | none =>
    if ch.igniterOff then sentRec { ch with inFlight := none, igniterOff := false } (.igniter false) 1
    else if ch.feedDue then sentRec { ch with inFlight := none, feedDue := false } (.setFeed ch.setpoint) 1
    else { ch with inFlight := none }

variable (s : State) (c : Chan)

theorem sendCmd_chanMoves (cmd : Cmd) (a : Nat) : ChanMoves c s (s.sendCmd c cmd a) :=
  (ChanMoves.record .refl _).waiting _

@[simp] theorem sendCmd_chan_same (cmd : Cmd) (a : Nat) : (s.sendCmd c cmd a).chan c = sentRec (s.chan c) cmd a := by
  rw [sendCmd_chan, State.mapChan_chan_same]
  rfl

theorem issue_chanMoves (cmd : Cmd) : ChanMoves c s (s.issue c cmd) := by
  unfold State.issue
  split
  · exact sendCmd_chanMoves s c cmd 1
  · exact .record .refl _

@[simp] theorem issue_chan_same (cmd : Cmd) : (s.issue c cmd).chan c = issuedRec (s.chan c) cmd := by
  unfold State.issue issuedRec
  cases h : (s.chan c).inFlight <;> simp

theorem nextCmd_chanMoves : ChanMoves c s (s.nextCmd c) := by
  unfold State.nextCmd
  dsimp only
  have m : ChanMoves c s (s.mapChan c fun x => { x with inFlight := none }) := .record .refl _
  repeat' split
  · exact (m.record _).trans (sendCmd_chanMoves _ c _ 1)
  · exact (m.record _).trans (sendCmd_chanMoves _ c _ 1)
  · exact (m.record _).trans (sendCmd_chanMoves _ c _ 1)
  · exact m

@[simp] theorem nextCmd_chan_same : (s.nextCmd c).chan c = nextRec (s.chan c) := by
  unfold State.nextCmd nextRec
  dsimp only
  cases hq : (s.chan c).queued with
  | some cmd => simp
  | none =>
    dsimp only
    split
    · simp [hq]
    split <;> simp [hq]

/-! ### Changes of state (03 section 3.7) -/

theorem setChState_chanMoves (st : ChState) : ChanMoves c s (s.setChState c st) := by
  unfold State.setChState
  split
  · exact .refl
  · exact (((((ChanMoves.record .refl _).notify _).account _).cond (by simp [stateIds]) _ _).cond
      (by simp [stateIds]) _ _).cond (by simp [stateIds]) _ _

@[simp] theorem setChState_chan_same (st : ChState) :
    (s.setChState c st).chan c = { s.chan c with state := st } := by
  unfold State.setChState
  split
  case isTrue h => rw [← h]
  case isFalse => simp

/-- The record of a channel after its tracking has ended. -/
def untrackedRec (ch : Channel) : Channel :=
  { ch with track := none, unlockedClock := none, acquiringClock := none, hmaxEff := ch.hmax }

theorem endTracking_chanMoves : ChanMoves c s (s.endTracking c) :=
  (ChanMoves.record .refl _).cond (by simp [stateIds]) _ _

@[simp] theorem endTracking_chan_same : (s.endTracking c).chan c = untrackedRec (s.chan c) := by
  simp [State.endTracking, untrackedRec]

/-- The record of a fuel channel that has entered OFF. -/
def offRec (ch : Channel) : Channel :=
  { untrackedRec ch with
    state := .off
    cause := none
    alloc := 0
    target := 0
    setpoint := 0
    rampNext := none
    proof := none
    shutReleased := false }

theorem enterOff_chanMoves : ChanMoves c s (s.enterOff c) :=
  ((ChanMoves.record .refl _).trans (endTracking_chanMoves _ c)).trans (setChState_chanMoves _ c _)

@[simp] theorem enterOff_chan_same : (s.enterOff c).chan c = offRec (s.chan c) := by
  simp [State.enterOff, offRec, untrackedRec]

theorem offWith_chanMoves (off : Bool) : ChanMoves c s (s.offWith c off) := by
  unfold State.offWith
  dsimp only
  have m := (enterOff_chanMoves s c).trans (issue_chanMoves _ c (.setFeed 0))
  split
  · exact m.trans (issue_chanMoves _ c _)
  · exact m

/-- The record of a channel that is OFF with SET_FEED 0, and IGNITER off if it is to go off. -/
def offWithRec (ch : Channel) (off : Bool) : Channel :=
  if off then issuedRec (issuedRec (offRec ch) (.setFeed 0)) (.igniter false) else issuedRec (offRec ch) (.setFeed 0)

@[simp] theorem offWith_chan_same (off : Bool) : (s.offWith c off).chan c = offWithRec (s.chan c) off := by
  unfold State.offWith offWithRec
  dsimp only
  split <;> simp

/-! ### What the handshake keeps -/

section

variable (ch : Channel) (cmd : Cmd)

@[simp] theorem sentRec_shut (a : Nat) : (sentRec ch cmd a).shutReleased = ch.shutReleased := rfl
@[simp] theorem sentRec_state (a : Nat) : (sentRec ch cmd a).state = ch.state := rfl

@[simp] theorem enqueue_shut : (ch.enqueue cmd).shutReleased = ch.shutReleased := by
  unfold Channel.enqueue; split <;> rfl
@[simp] theorem enqueue_state : (ch.enqueue cmd).state = ch.state := by
  unfold Channel.enqueue; split <;> rfl

@[simp] theorem issuedRec_shut : (issuedRec ch cmd).shutReleased = ch.shutReleased := by
  unfold issuedRec; split <;> simp
@[simp] theorem issuedRec_state : (issuedRec ch cmd).state = ch.state := by
  unfold issuedRec; split <;> simp

@[simp] theorem offWithRec_shut (off : Bool) : (offWithRec ch off).shutReleased = false := by
  unfold offWithRec; split <;> simp [offRec]
@[simp] theorem offWithRec_state (off : Bool) : (offWithRec ch off).state = .off := by
  unfold offWithRec; split <;> simp [offRec]

end

end Sys2Proof.Proofs
end

section
/-! PROOF. SHUT lines and zone states: what the elementary changes and a change of a zone's state keep of the firing's
safety (03 R53; 04 R64, R78, R87). -/

namespace Sys2Proof.Proofs

open Sys2Proof.Machine

/-! ### A zone's fuel is shut -/

theorem loseZone_chanMoves (s : State) (c : Chan) : ChanMoves c s (s.loseZone c) := offWith_chanMoves s c _

@[simp] theorem loseZone_shut_same (s : State) (c : Chan) : ((s.loseZone c).chan c).shutReleased = false := by
  unfold State.loseZone
  simp

/-- After channels have lost their zone, a SHUT line still released is not of theirs. -/
theorem foldl_loseZone_shut {l : List Chan} {s : State} {c : Chan}
    (h : ((l.foldl State.loseZone s).chan c).shutReleased = true) : (s.chan c).shutReleased = true ∧ c ∉ l := by
  induction l generalizing s with
  | nil => exact ⟨h, List.not_mem_nil⟩
  | cons d l ih =>
    obtain ⟨released, notIn⟩ := ih h
    have hd : c ≠ d := by
      rintro rfl
      rw [loseZone_shut_same] at released
      cases released
    rw [(loseZone_chanMoves s d).chan_other hd] at released
    exact ⟨released, by simp [hd, notIn]⟩

theorem mem_allChans (c : Chan) : c ∈ allChans := by
  revert c
  decide

theorem mem_ownFuels {s : State} {z : Zone} {c : Chan} :
    c ∈ s.ownFuels z ↔ ∃ f, s.fuel? c = some f ∧ f.zone = z := by
  simp only [State.ownFuels, List.mem_filter, mem_allChans, true_and, State.ownFuel]
  cases s.fuel? c <;> simp

/-- After a zone's fuel is closed, a SHUT line still released is of no own fuel channel of the zone. -/
theorem closeFuel_shut {s : State} {z : Zone} {c : Chan} (h : ((s.closeFuel z).chan c).shutReleased = true) :
    (s.chan c).shutReleased = true ∧ c ∉ s.ownFuels z := by
  obtain ⟨released, notIn⟩ := foldl_loseZone_shut h
  refine ⟨released, fun mem => notIn (List.mem_filter.mpr ⟨mem, ?_⟩)⟩
  rw [released, Bool.true_or]

/-! ### A change of a zone's state -/

/-- The record of a zone as the change of its state leaves it. -/
def enteredRec (s : State) (z : Zone) (st : ZoneState) (r : ZoneRec) : ZoneRec :=
  r.enter st s.now (s.zoneParam z ZoneCfg.readyWindow) (s.zoneParam z ZoneCfg.tripHold) (s.firing z).air.airShort

/-- The state after the record of a zone is written, and FA is told that the zone leaves or enters LIT. -/
def zoneHanded (s : State) (z : Zone) (st : ZoneState) : State :=
  let s1 := (s.mapZone z (enteredRec s z st)).notify .zoneState
  let s2 := if (s.zone z).state = .lit then s1.firingLeavesLit z else s1
  if st = .lit then (s2.setCond (idPurgeAborted z) false none).firingEntersLit z else s2

/-- The state after ZONE_TRIP is written too, before CE closes what the new state does not permit. -/
def zoneWritten (s : State) (z : Zone) (st : ZoneState) : State :=
  (zoneHanded s z st).setCond (idZoneTrip z) (st == .tripped)
    (((zoneHanded s z st).zone z).epoch.map BitVec.toNat)

theorem setZone_eq {s : State} {z : Zone} {st : ZoneState} (h : (s.zone z).state ≠ st) :
    s.setZone z st = if st.firesFuel = true then zoneWritten s z st else (zoneWritten s z st).closeFuel z := by
  unfold State.setZone
  dsimp only
  rw [if_neg h]
  rfl

theorem zoneHanded_moves {e : Bool} (s : State) (z : Zone) (st : ZoneState) :
    Moves e (s.mapZone z (enteredRec s z st)) (zoneHanded s z st) := by
  have left : Moves e (s.mapZone z (enteredRec s z st)) (if (s.zone z).state = .lit then
      ((s.mapZone z (enteredRec s z st)).notify .zoneState).firingLeavesLit z
      else (s.mapZone z (enteredRec s z st)).notify .zoneState) := by
    split
    · exact (Moves.notify _ .refl).andThen (State.firingLeavesLit_moves _ z)
    · exact Moves.notify _ .refl
  unfold zoneHanded
  dsimp only
  split
  · exact (left.cond _ _ _).andThen (State.firingEntersLit_moves _ z)
  · exact left

/-- A change of a zone's state writes its record and makes elementary changes, before CE closes fuel. -/
theorem zoneWritten_moves {e : Bool} (s : State) (z : Zone) (st : ZoneState) :
    Moves e (s.mapZone z (enteredRec s z st)) (zoneWritten s z st) := (zoneHanded_moves s z st).cond _ _ _

/-- To show that moves keep something, show it of the moves that leave the zones' states, and of a change of one. -/
theorem moves_keepBoth {e : Bool} {s t : State} (P : State → Prop) (m : Moves e s t)
    (still : ∀ a b, Move false a b → P a → P b)
    (enter : ∀ a z st, (st = .dark ∨ (a.zone z).state.trippable = true ∨
        (a.decides = true ∧ a.participates z = true ∧ (st = .tripped ∨ a.esd = false))) →
      (a.zone z).state ≠ st → P a → P (a.setZone z st)) (p : P s) : P t := by
  refine m.keep P (fun a b h pa => ?_) p
  cases h with
  | enter z st he h =>
    by_cases same : (a.zone z).state = st
    · rw [a.setZone_same z st same]; exact pa
    · exact enter a z st h same pa
  | notify k => exact still _ _ (.notify _ _) pa
  | offer cls q r k h => exact still _ _ (.offer _ _ _ _ _ h) pa
  | announce id => exact still _ _ (.announce _ _) pa
  | cond id v x => exact still _ _ (.cond _ _ _ _) pa
  | snapTable i m t q => exact still _ _ (.snapTable _ _ _ _ _) pa
  | port w b r => exact still _ _ (.port _ _ _ _) pa
  | chan c f h hs => exact still _ _ (.chan _ _ _ h hs) pa
  | release c g f h hf hz => exact still _ _ (.release _ _ _ _ h hf hz) pa
  | acct c f h => exact still _ _ (.acct _ _ _ h) pa
  | zone z f h => exact still _ _ (.zone _ _ _ h) pa
  | firing z f => exact still _ _ (.firing _ _ _) pa
  | cooler f => exact still _ _ (.cooler _ _) pa
  | demandMark z b => exact still _ _ (.demandMark _ _ _) pa
  | ringMark b => exact still _ _ (.ringMark _ _) pa

/-- What a change of any zone's record and the moves that leave the zones' states keep, all moves keep. -/
theorem moves_keepZones {e : Bool} {s t : State} (P : State → Prop) (m : Moves e s t)
    (still : ∀ a b, Move false a b → P a → P b) (zone : ∀ a z f, P a → P (a.mapZone z f)) (p : P s) : P t := by
  refine moves_keepBoth P m still (fun a z st _ differ pa => ?_) p
  obtain ⟨f, -, moves⟩ := a.setZone_moves z st differ
  exact moves.keep P still (zone a z f pa)

/-! ### The SHUT lines -/

/-- `State.ShutSound` of the channels whose zone is one of `P`. -/
def ShutFor (P : Zone → Prop) (s : State) : Prop :=
  ∀ c, (s.chan c).shutReleased = true →
    ∃ f, s.fuel? c = some f ∧ (P f.zone → (s.zone f.zone).state.firesFuel = true)

theorem shutSound_iff (s : State) : s.ShutSound ↔ ShutFor (fun _ => True) s := by
  simp [State.ShutSound, ShutFor]

/-- A SHUT line released after a move was released before, or its channel fires a zone that permits fuel. -/
theorem move_shut_false {s t : State} (m : Move false s t) {c : Chan} (h : (t.chan c).shutReleased = true) :
    (s.chan c).shutReleased = true ∨ ∃ f, s.fuel? c = some f ∧ (s.zone f.zone).state.firesFuel = true := by
  cases m with
  | notify k => exact .inl h
  | offer cls q r k hne => exact .inl (chan_of_plant (s.offer_plant hne _ _ _) c ▸ h)
  | announce id => exact .inl (chan_of_plant (s.announce_plant id) c ▸ h)
  | cond id v x => exact .inl (setCond_chan s id v x c ▸ h)
  | chan d f hs hshut =>
    by_cases hd : d = c
    · subst hd
      rw [State.mapChan_chan_same] at h
      exact .inl (hshut h)
    · rw [State.mapChan_chan_other _ _ hd] at h
      exact .inl h
  | release d g f hs hf hz =>
    by_cases hd : d = c
    · subst hd
      exact .inr ⟨f, hf, hz⟩
    · rw [State.mapChan_chan_other _ _ hd] at h
      exact .inl h
  | enter z st he _ => cases he
  | _ => exact .inl h

theorem move_shutFor_false {P : Zone → Prop} {s t : State} (m : Move false s t) (h : ShutFor P s) : ShutFor P t := by
  intro c hc
  have fuel := State.fuel?_of_still m.still c
  rw [fuel]
  obtain released | ⟨f, hf, fires⟩ := move_shut_false m hc
  · obtain ⟨f, hf, fires⟩ := h c released
    exact ⟨f, hf, fun hp => by rw [m.state_false]; exact fires hp⟩
  · exact ⟨f, hf, fun _ => by rw [m.state_false]; exact fires⟩

theorem setZone_shutSound {s : State} {z : Zone} {st : ZoneState} (differ : (s.zone z).state ≠ st)
    (h : s.ShutSound) : (s.setZone z st).ShutSound := by
  have moves : Moves false (s.mapZone z (enteredRec s z st)) (zoneWritten s z st) := zoneWritten_moves s z st
  have others : ShutFor (· ≠ z) (s.mapZone z (enteredRec s z st)) := by
    intro c hc
    obtain ⟨f, hf, fires⟩ := h c hc
    refine ⟨f, hf, fun hz => ?_⟩
    rw [State.mapZone_zone_other _ _ (Ne.symm hz)]
    exact fires
  have others : ShutFor (· ≠ z) (zoneWritten s z st) := moves.keep (ShutFor (· ≠ z)) (fun _ _ m p => move_shutFor_false m p) others
  rw [setZone_eq differ]
  split
  case isTrue fires =>
    intro c hc
    obtain ⟨f, hf, hz⟩ := others c hc
    refine ⟨f, hf, ?_⟩
    by_cases hfz : f.zone = z
    · rw [hfz, moves.state_false, State.mapZone_zone_same]
      exact fires
    · exact hz hfz
  case isFalse =>
    intro c hc
    obtain ⟨released, notOwn⟩ := closeFuel_shut hc
    obtain ⟨f, hf, hz⟩ := others c released
    have close : Moves false (zoneWritten s z st) ((zoneWritten s z st).closeFuel z) := State.closeFuel_moves _ z
    refine ⟨f, (State.fuel?_of_still close.still c).trans hf, ?_⟩
    rw [close.state_false]
    exact hz fun hfz => notOwn (mem_ownFuels.mpr ⟨f, hf, hfz⟩)

theorem moves_shutSound {e : Bool} {s t : State} (m : Moves e s t) (h : s.ShutSound) : t.ShutSound :=
  moves_keepBoth State.ShutSound m (fun a b hm p => (shutSound_iff b).mpr (move_shutFor_false hm ((shutSound_iff a).mp p)))
    (fun _ _ _ _ differ p => setZone_shutSound differ p) h

/-! ### The zones -/

/-- The part of `State.ZoneSound` that ESD_N does not enter: a zone out of DARK participates, in a mode that decides. -/
def ZonesDecided (s : State) : Prop := ∀ z, (s.zone z).state ≠ .dark → s.decides = true ∧ s.participates z = true

/-- With ESD_N asserted no zone is PURGING, READY or LIT. -/
def EsdQuiet (s : State) : Prop := s.esd = true → ∀ z, ¬ s.active z

theorem move_zonesDecided_false {s t : State} (m : Move false s t) (h : ZonesDecided s) : ZonesDecided t := by
  intro z hz
  rw [m.state_false] at hz
  rw [State.decides_of_still m.still, State.participates_of_still m.still]
  exact h z hz

theorem move_esdQuiet_false {s t : State} (m : Move false s t) (h : EsdQuiet s) : EsdQuiet t := by
  intro he z
  rw [State.esd_of_still m.still] at he
  rw [State.active, m.state_false]
  exact h he z

theorem trippable_ne_dark {st : ZoneState} (h : st.trippable = true) : st ≠ .dark := by
  rintro rfl
  cases h

theorem moves_zonesDecided {e : Bool} {s t : State} (m : Moves e s t) (h : ZonesDecided s) : ZonesDecided t := by
  refine moves_keepBoth ZonesDecided m (fun _ _ hm p => move_zonesDecided_false hm p) (fun a z st guard _ p y hy => ?_) h
  rw [State.decides_of_still (a.setZone_still z st), State.participates_of_still (a.setZone_still z st)]
  rw [State.setZone_state] at hy
  split at hy
  case isTrue e =>
    subst e
    obtain rfl | trip | ⟨decides, part, -⟩ := guard
    · exact absurd rfl hy
    · exact p y (trippable_ne_dark trip)
    · exact ⟨decides, part⟩
  case isFalse => exact p y hy

theorem moves_esdQuiet {e : Bool} {s t : State} (m : Moves e s t) (h : EsdQuiet s) : EsdQuiet t := by
  refine moves_keepBoth EsdQuiet m (fun _ _ hm p => move_esdQuiet_false hm p) (fun a z st guard _ p he y => ?_) h
  rw [State.esd_of_still (a.setZone_still z st)] at he
  rw [State.active, State.setZone_state]
  split
  case isTrue e =>
    subst e
    obtain rfl | trip | ⟨-, -, rfl | free⟩ := guard
    · exact Bool.false_ne_true
    · exact absurd trip (p he y)
    · exact Bool.false_ne_true
    · rw [he] at free; cases free
  case isFalse => exact p he y

/-! ### The line and the own list through moves -/

theorem move_lineSound_false {s t : State} (m : Move false s t) (h : s.LineSound) : t.LineSound := by
  cases m with
  | offer cls q r k hne => exact offer_lineSound h _ _ _ _
  | announce id => exact (announce_listMoves s id).lineSound h
  | cond id v x => exact (setCond_listMoves s id v x).lineSound h
  | enter z st he _ => cases he
  | _ => exact h

theorem moves_lineSound {e : Bool} {s t : State} (m : Moves e s t) (h : s.LineSound) : t.LineSound :=
  moves_keepZones State.LineSound m (fun _ _ hm p => move_lineSound_false hm p) (fun _ _ _ p => p) h

theorem move_alarmSound_false {s t : State} (m : Move false s t) (h : s.AlarmSound) : t.AlarmSound := by
  cases m with
  | notify k => exact h
  | offer cls q r k hne =>
    exact alarmSound_of_bare h (offer_bare _ _ _ _ _) (config_of_plant (s.offer_plant hne _ _ _))
  | announce id => exact alarmSound_of_bare h (announce_bare _ _) (config_of_plant (s.announce_plant id))
  | cond id v x => exact setCond_alarmSound h id v x
  | enter z st he _ => cases he
  | _ => exact h

theorem moves_alarmSound {e : Bool} {s t : State} (m : Moves e s t) (h : s.AlarmSound) : t.AlarmSound :=
  moves_keepZones State.AlarmSound m (fun _ _ hm p => move_alarmSound_false hm p) (fun _ _ _ p => p) h

end Sys2Proof.Proofs
end

section
/-! PROOF. What a command can do: every command's effect is a sequence of elementary changes, each with the guard under
which the station makes it. Whatever each such change keeps, every command keeps. -/

namespace Sys2Proof.Proofs

open Sys2Proof.Machine

/-! ### The changes -/

/-- The freshness that the command `c`, taken in the state `b`, may give the record of station `n` (02 R29, R31, R37). -/
def MayAge (c : Instr) (b : State) (n : Station) (x : Freshness) : Prop :=
  ((c = .powerOnReset ∨ c = .resetNAssertion ∨ c = .stationReset ∨ ∃ ws, c = .loadConfig ws) ∧ x = .absent)
    ∨ (c = .snapTaken ∧ x = .fresh ∧ ∃ f, b.heads .snap f ∧ f.origin = n)
    ∨ (c = .staleTimeout n ∧ (b.peer n).fresh = .fresh ∧ x = .stale)
    ∨ (c = .expiredTimeout n ∧ (b.peer n).fresh = .stale ∧ x = .expired)

/-- The blocks as a station reset leaves them, before a configured station enters STARTING (10 R196). -/
def resetBlocks (s : State) : State :=
  { s with
    li := s.li.afterReset s.now
    pt := PeerTable.initial
    ce := s.ce.afterReset
    zs := ⟨s.zs.zones.map ZoneRec.afterReset⟩
    fa := Allocator.initial
    cr := Cooler.initial
    al := s.al.afterReset
    fv := FloorView.initial
    sr := s.sr.afterReset s.now
    sp := s.sp.afterReset s.configured }

/-- The entry to STARTING with a configuration, before its commands, conditions and SNAP (02 R35, 03 R38, R43). -/
def startingBlocks (s : State) (cfg : Config) : State :=
  { s with
    config := some cfg
    pt := { s.pt with
      mode := .starting
      startTime := s.now
      peers := Vector.ofFn fun n => PeerRecord.absentRecord (cfgExpects cfg n) }
    li := { s.li with completionTime := s.now, rxTime := s.now, acceptedMark := false }
    ce := { s.ce with
      chans := Vector.ofFn fun c => (s.ce.chans.get c).configure (cfg.chans.get c)
      silenceSince := s.now } }

/-- One elementary change that the command `c`, taken in the state `b`, makes. -/
inductive Change (c : Instr) (b : State) : State → State → Prop
  | move {s t : State} (h : Move true s t) : Change c b s t
  | offer (s : State) (cls : FrameClass) (p : List Word) (r k : Nat) : Change c b s (s.offer cls p r k).1
  | lose (s : State) (f : TxFrame) : Change c b s (s.loseFrame f)
  | port (s : State) (f : StationPort → StationPort) : Change c b s (s.mapSp f)
  | line (s : State) (f : LineIf → LineIf) (h : s.LineSound → (s.mapLi f).LineSound) : Change c b s (s.mapLi f)
  | engine (s : State) (f : ChannelEngine → ChannelEngine)
      (h : ∀ d, ((s.mapCe f).chan d).shutReleased = true → (s.chan d).shutReleased = true) : Change c b s (s.mapCe f)
  | peer (s : State) (n : Station) (f : PeerRecord → PeerRecord)
      (h : (f (s.peer n)).fresh = (s.peer n).fresh ∨ MayAge c b n (f (s.peer n)).fresh) : Change c b s (s.mapPeer n f)
  | mode (s : State) (m : Mode) (hm : m = .normal ∨ m = .isolated) (hs : s.pt.mode ≠ .unconfigured) :
      Change c b s (s.mapPt fun t => { t with mode := m })
  | view {s t : State} (h : ∃ v p, t = { s with fv := v, sp := p }) (g : s.ViewSound → t.ViewSound) : Change c b s t
  | store (s : State) (f : ShiftStore → ShiftStore) (h : s.ShiftSound → (s.mapSr f).ShiftSound) :
      Change c b s (s.mapSr f)
  | demand (s : State) (z : Zone) (f : DemandRecord → DemandRecord) : Change c b s (s.mapDemand z f)
  | shiftCounts (s : State) : Change c b s (s.mapAl AlarmList.closeShift)
  | acknowledge (s : State) (n : Nat) (seq : Word) : Change c b s (s.ackOwn n seq).1
  | shelve (s : State) (id : AlarmId) (m : Nat) (e : AlarmEntry) (h : s.al.entry? id = some e) :
      Change c b s (s.shelveEntry id m)
  | endShelve (s : State) (id : AlarmId) (e : AlarmEntry) (h : s.al.entry? id = some e) :
      Change c b s (s.endShelve id)
  | esd (s : State) (v : Bool) (h : v = false ∨ c = .esdAssertion) : Change c b s { s with esd := v }
  | resetHeld (s : State) (v : Bool) : Change c b s { s with resetHeld := v }
  | powerOn (s : State) (h : c = .powerOnReset) : Change c b s s.powerOnReset
  | load (s : State) (cfg : Config) (h : ∃ ws, c = .loadConfig ws) (hm : s.pt.mode = .unconfigured) :
      Change c b s (startingBlocks s cfg)
  | reset (s : State) (h : c = .resetNAssertion ∨ c = .stationReset) :
      Change c b s (match s.config with
        | some cfg => startingBlocks (resetBlocks s) cfg
        | none => resetBlocks s)

/-- A sequence of changes. -/
abbrev Changes (c : Instr) (b : State) : State → State → Prop := Relation.ReflTransGen (Change c b)

section

variable {c : Instr} {b s t u : State}

/-- What each change keeps, a sequence keeps. -/
theorem Changes.keep (P : State → Prop) (h : ∀ x y, Change c b x y → P x → P y) (m : Changes c b s t) (p : P s) :
    P t := by
  induction m with
  | refl => exact p
  | tail _ m ih => exact h _ _ m ih

theorem Change.one (h : Change c b s t) : Changes c b s t := .single h

theorem Changes.step (h : Changes c b s t) (g : Change c b t u) : Changes c b s u := h.tail g

theorem changes_of_moves (m : Moves true s t) : Changes c b s t := by
  induction m with
  | refl => exact .refl
  | tail _ h ih => exact ih.tail (.move h)

theorem Changes.moves (h : Changes c b s t) (m : Moves true t u) : Changes c b s u := h.trans (changes_of_moves m)

theorem Changes.finish (h : Changes c b s t) (v : State) : Changes c b s (finish v t) := h.moves (finish_moves t v)

theorem Changes.cond (h : Changes c b s t) (id : AlarmId) (v : Bool) (x : Option Nat) :
    Changes c b s (t.setCond id v x) := h.moves (Moves.cond _ _ _ .refl)

theorem Changes.notify (h : Changes c b s t) (k : Notice) : Changes c b s (t.notify k) := h.tail (.port _ _)

theorem Changes.reply (h : Changes c b s t) (code : Nat) (st : Status) (v : Word) (d : List Word) :
    Changes c b s (t.reply code st v d) := h.tail (.port _ _)

theorem Changes.ok (h : Changes c b s t) (code : Nat) : Changes c b s (t.ok code) :=
  h.reply code _ _ _

theorem Changes.refuse (h : Changes c b s t) (code : Nat) (r : Reason) : Changes c b s (t.refuse code r) :=
  h.reply code _ _ _

theorem Changes.foldl {α : Type} (f : State → α → State) (h : ∀ s a, Changes c b s (f s a)) (l : List α) (s : State) :
    Changes c b s (l.foldl f s) := by
  induction l generalizing s with
  | nil => exact .refl
  | cons a l ih => exact (h s a).trans (ih _)

end

/-! ### The invariants -/

section

variable {c : Instr} {b s t : State}

theorem modeSound_of_eq (mode : t.pt.mode = s.pt.mode) (config : t.config = s.config) :
    t.ModeSound ↔ s.ModeSound := by
  unfold State.ModeSound
  rw [mode, config]

theorem modeSound_of_still (h : t.still = s.still) : t.ModeSound ↔ s.ModeSound := by
  refine modeSound_of_eq ?_ (State.config_of_still h)
  change t.still.pt.mode = s.still.pt.mode
  rw [h]

theorem modeSound_of_plant (h : t.plant = s.plant) : t.ModeSound ↔ s.ModeSound :=
  modeSound_of_eq (mode_of_plant h) (config_of_plant h)

theorem offer_mode (s : State) (cls : FrameClass) (p : List Word) (r k : Nat) :
    (s.offer cls p r k).1.pt.mode = s.pt.mode := by rw [offer_pt]

theorem evictAt_config (s : State) (i : Nat) (b : Bool) : (s.evictAt i b).config = s.config := by
  unfold State.evictAt
  split
  · split
    · rfl
    · exact loseFrame_config _ _
  · rfl

theorem offer_config (s : State) (cls : FrameClass) (p : List Word) (r k : Nat) :
    (s.offer cls p r k).1.config = s.config := by
  obtain ⟨h, -⟩ | ⟨-, -, ⟨-, h⟩ | ⟨-, -, ⟨-, h⟩ | ⟨-, i, b, -, h⟩⟩⟩ := offer_cases s cls p r k
  · rw [h]
  · rw [h]; rfl
  · rw [h]; rfl
  · rw [h]; exact evictAt_config s i b

theorem Change.modeSound (h : Change c b s t) (p : s.ModeSound) : t.ModeSound := by
  cases h with
  | move h => exact (modeSound_of_still h.still).mpr p
  | offer cls q r k => exact (modeSound_of_eq (offer_mode _ _ _ _ _) (offer_config _ _ _ _ _)).mpr p
  | lose f => exact (modeSound_of_plant (State.loseFrame_plant _ f)).mpr p
  | mode m hm hs =>
    have hc : s.config ≠ none := fun off => hs (p.mpr off)
    refine ⟨fun h => ?_, fun h => absurd h hc⟩
    obtain rfl | rfl := hm <;> cases h
  | view h g => obtain ⟨v, q, rfl⟩ := h; exact p
  | acknowledge n seq => exact (modeSound_of_plant (s.ackOwn_plant n seq)).mpr p
  | shelve id m e he => exact (modeSound_of_plant (s.shelveEntry_plant id m)).mpr p
  | endShelve id e he => exact (modeSound_of_plant (s.endShelve_plant id)).mpr p
  | powerOn h => exact ⟨fun _ => rfl, fun _ => rfl⟩
  | load cfg h hm => exact ⟨fun h => (by cases h), fun h => (by cases h)⟩
  | reset h =>
    cases hc : s.config with
    | some cfg => exact ⟨fun h => (by cases h), fun h => (by cases h)⟩
    | none => exact ⟨fun _ => hc, fun _ => rfl⟩
  | _ => exact p

theorem Change.lineSound (h : Change c b s t) (p : s.LineSound) : t.LineSound := by
  cases h with
  | move h => exact moves_lineSound h.one p
  | offer cls q r k => exact offer_lineSound p _ _ _ _
  | lose f => exact (lineSound_congr (loseFrame_li _ _) (by rw [loseFrame_pt])).mpr p
  | line f h => exact h p
  | mode m hm hs =>
    obtain ⟨tx, rx, -⟩ := (lineSound_iff s).mp p
    exact (lineSound_iff _).mpr ⟨tx, rx, fun h => by obtain rfl | rfl := hm <;> cases h⟩
  | view h g => obtain ⟨v, q, rfl⟩ := h; exact p
  | acknowledge n seq => exact (ackOwn_listMoves s n seq).lineSound p
  | shelve id m e he => exact (shelveEntry_listMoves s id m).lineSound p
  | endShelve id e he => exact (endShelve_listMoves s id).lineSound p
  | powerOn h => exact (lineSound_iff _).mpr ⟨txSound_nil, Nat.zero_le _, fun _ => ⟨rfl, rfl⟩⟩
  | load cfg h hm =>
    obtain ⟨tx, rx, -⟩ := (lineSound_iff s).mp p
    exact (lineSound_iff _).mpr ⟨tx, rx, fun h => by cases h⟩
  | reset h =>
    cases s.config with
    | some cfg => exact (lineSound_iff _).mpr ⟨txSound_nil, Nat.zero_le _, fun _ => ⟨rfl, rfl⟩⟩
    | none => exact (lineSound_iff _).mpr ⟨txSound_nil, Nat.zero_le _, fun _ => ⟨rfl, rfl⟩⟩
  | _ => exact p

/-- An alarm list without an entry, whose conditions are false and no id pending, is sound. -/
theorem alarmSound_empty (list : s.al.list = []) (cond : ∀ j, s.cond j = false)
    (idle : ∀ j, (s.alarm j).waiting = false) : s.AlarmSound := by
  refine (alarmSound_iff s).mpr ⟨⟨?_, ?_, ?_, ?_, ?_⟩, ⟨?_, ?_⟩, fun _ => ⟨list, cond⟩⟩
  · simp [list]
  · simp [list]
  · simp [list]
  · intro j _; simp [idle, cond]
  · intro j hj; rw [idle] at hj; cases hj
  · simp [list, lowOf]
  · intro j hj; rw [idle] at hj; cases hj

/-- A shift close zeroes counts of the own list, and leaves it sound. -/
theorem closeShift_alarmSound (p : s.AlarmSound) : (s.mapAl AlarmList.closeShift).AlarmSound := by
  have record : ∀ j, (s.mapAl AlarmList.closeShift).alarm j = ({ s.alarm j with shiftRaises := 0 } : AlarmRec) := by
    exact fun j => get_map _ _ _
  have cond : ∀ j, (s.mapAl AlarmList.closeShift).cond j = s.cond j := fun j => by rw [State.cond, record]; rfl
  have waiting : ∀ j, ((s.mapAl AlarmList.closeShift).alarm j).waiting = (s.alarm j).waiting := fun j => by rw [record]
  obtain ⟨agrees, places, off⟩ := (alarmSound_iff s).mp p
  refine (alarmSound_iff _).mpr ⟨⟨agrees.ids, agrees.seqs, ?_, ?_, ?_⟩, ⟨places.low_le, ?_⟩, ?_⟩
  · simp only [cond]; exact agrees.agrees
  · simp only [cond, waiting]; exact agrees.pending
  · simp only [waiting]; exact agrees.pendingLow
  · simp only [waiting]; exact places.full
  · simp only [cond]; exact off

theorem afterReset_alarm (j : AlarmId) : s.al.afterReset.recs.get j = (s.alarm j).afterReset :=
  get_map _ _ _

theorem initial_alarm (j : AlarmId) : AlarmList.initial.recs.get j = AlarmRec.initial := by
  simp [AlarmList.initial, Vector.get]

theorem resetAlarms_sound (h : t.al = s.al.afterReset) : t.AlarmSound := by
  have record : ∀ j, t.alarm j = (s.alarm j).afterReset := fun j => by rw [State.alarm, h, afterReset_alarm]
  exact alarmSound_empty (by rw [h]; rfl) (fun j => by rw [State.cond, record]; rfl) fun j => by rw [record]; rfl

theorem Change.alarmSound (h : Change c b s t) (p : s.AlarmSound) : t.AlarmSound := by
  cases h with
  | move h => exact moves_alarmSound h.one p
  | offer cls q r k => exact alarmSound_of_bare p (offer_bare _ _ _ _ _) (offer_config _ _ _ _ _)
  | lose f => exact alarmSound_of_bare p (loseFrame_bare _ _) (loseFrame_config _ _)
  | view h g => obtain ⟨v, q, rfl⟩ := h; exact p
  | shiftCounts => exact closeShift_alarmSound p
  | acknowledge n seq => exact ackOwn_alarmSound p n seq
  | shelve id m e he => exact shelveEntry_alarmSound p he m
  | endShelve id e he => exact endShelve_alarmSound p he
  | powerOn h =>
    have record : ∀ j, s.powerOnReset.alarm j = AlarmRec.initial := initial_alarm
    exact alarmSound_empty rfl (fun j => by rw [State.cond, record]; rfl) fun j => by rw [record]; rfl
  | load cfg h hm =>
    obtain ⟨agrees, places, off⟩ := (alarmSound_iff s).mp p
    exact (alarmSound_iff _).mpr ⟨⟨agrees.ids, agrees.seqs, agrees.agrees, agrees.pending, agrees.pendingLow⟩,
      ⟨places.low_le, places.full⟩, fun off => by cases off⟩
  | reset h =>
    cases s.config with
    | some cfg => exact resetAlarms_sound (s := s) rfl
    | none => exact resetAlarms_sound (s := s) rfl
  | _ => exact p

/-- A change keeps the floor view and the shift store sound. -/
theorem Change.storesSound (h : Change c b s t) (view : s.ViewSound) (shift : s.ShiftSound) :
    t.ViewSound ∧ t.ShiftSound := by
  have same : ∀ {u : State}, u.still = s.still → u.ViewSound ∧ u.ShiftSound := fun hu =>
    ⟨(storesSound_of_still hu).1.mpr view, (storesSound_of_still hu).2.mpr shift⟩
  have emptyView : ∀ {u : State}, u.fv = FloorView.initial → u.ViewSound := fun hu => by
    refine ⟨?_, ?_, ?_⟩ <;> rw [hu] <;> simp [FloorView.initial]
  have afterReset : ∀ {u : State}, u.sr = s.sr.afterReset s.now → u.ShiftSound := fun hu =>
    (shiftSound_congr (by rw [hu]; rfl) (by rw [hu]; rfl) (by rw [hu]; rfl) (by rw [hu]; rfl)).mpr shift
  cases h with
  | move h => exact same h.still
  | offer cls q r k =>
    have e : (s.offer cls q r k).1.fv = s.fv ∧ (s.offer cls q r k).1.sr.sec = s.sr.sec
        ∧ (s.offer cls q r k).1.sr.zoneTrips = s.sr.zoneTrips
        ∧ (s.offer cls q r k).1.sr.ring.length = s.sr.ring.length
        ∧ (s.offer cls q r k).1.sr.summary = s.sr.summary := offer_stores s cls q r k
    obtain ⟨fv, sec, trips, ring, summary⟩ := e
    exact ⟨(viewSound_congr (by rw [fv]) (by rw [fv])).mpr view, (shiftSound_congr sec trips ring summary).mpr shift⟩
  | lose f => exact same (State.still_of_plant (State.loseFrame_plant _ _))
  | view h g =>
    refine ⟨g view, ?_⟩
    obtain ⟨v, q, rfl⟩ := h
    exact shift
  | store f h => exact ⟨view, h shift⟩
  | acknowledge n seq => exact same (State.still_of_plant (s.ackOwn_plant n seq))
  | shelve id m e he => exact same (State.still_of_plant (s.shelveEntry_plant id m))
  | endShelve id e he => exact same (State.still_of_plant (s.endShelve_plant id))
  | powerOn h =>
    refine ⟨emptyView rfl, ?_⟩
    refine (shiftSound_iff _).mpr ⟨?_, ?_, ?_, ⟨?_, ?_, ?_⟩⟩ <;>
      simp [State.powerOnReset, ShiftStore.initial]
  | reset h =>
    cases s.config with
    | some cfg => exact ⟨emptyView rfl, afterReset rfl⟩
    | none => exact ⟨emptyView rfl, afterReset rfl⟩
  | _ => exact ⟨view, shift⟩

/-- A loss writes announce marks of FA's, AL's and SR's records. -/
theorem loseFrame_form (s : State) (f : TxFrame) :
    ∃ fa al sr, s.loseFrame f = { s with fa := fa, al := al, sr := sr } := by
  unfold State.loseFrame
  repeat' split
  all_goals exact ⟨_, _, _, rfl⟩

/-- An offer writes LI, and by an eviction announce marks of FA's, AL's and SR's records. -/
theorem offer_form (s : State) (cls : FrameClass) (p : List Word) (r k : Nat) :
    ∃ li fa al sr, (s.offer cls p r k).1 = { s with li := li, fa := fa, al := al, sr := sr } := by
  obtain ⟨h, -⟩ | ⟨-, -, ⟨-, h⟩ | ⟨-, -, ⟨-, h⟩ | ⟨-, i, b, -, h⟩⟩⟩ := offer_cases s cls p r k
  · exact ⟨_, _, _, _, h⟩
  · exact ⟨_, _, _, _, h⟩
  · exact ⟨_, _, _, _, h⟩
  · rw [h]
    unfold State.evictAt
    split
    · split
      · exact ⟨_, _, _, _, rfl⟩
      · obtain ⟨fa, al, sr, e⟩ := loseFrame_form (s.mapLi fun li => { li with tx := li.tx.eraseIdx i }) ‹_›
        rw [e]
        exact ⟨_, _, _, _, rfl⟩
    · exact ⟨_, _, _, _, rfl⟩

/-- What the firing's safety reads: the configuration, the mode, ESD_N, the channels' SHUT lines and the zones. -/
theorem firingSafe_congr (config : t.config = s.config) (mode : t.pt.mode = s.pt.mode) (zs : t.zs = s.zs)
    (shut : ∀ d, (t.chan d).shutReleased = true → (s.chan d).shutReleased = true) (z : ZonesDecided s)
    (h : s.ShutSound) : ZonesDecided t ∧ t.ShutSound := by
  have zone : ∀ y, t.zone y = s.zone y := fun y => by rw [State.zone, zs, State.zone]
  have fuel : ∀ d, t.fuel? d = s.fuel? d := fun d => by simp only [State.fuel?, State.chanCfg, config]
  have decides : t.decides = s.decides := by rw [State.decides, mode, State.decides]
  have part : ∀ y, t.participates y = s.participates y := fun y => by
    simp only [State.participates, State.hasScanner, config]
    congr 1
    exact congrArg (allChans.any ·) (funext fun d => by simp only [State.chanInZone, State.chanCfg, config])
  refine ⟨fun y hy => ?_, fun d hd => ?_⟩
  · rw [zone] at hy
    rw [decides, part]
    exact z y hy
  · rw [fuel]
    obtain ⟨f, hf, fires⟩ := h d (shut d hd)
    exact ⟨f, hf, by rw [zone]; exact fires⟩

theorem startingBlocks_shut (s : State) (cfg : Config) (d : Chan) :
    ((startingBlocks s cfg).chan d).shutReleased = (s.chan d).shutReleased := by
  have h : (startingBlocks s cfg).chan d = (s.chan d).configure (cfg.chans.get d) := get_ofFn _ d
  rw [h]
  unfold Channel.configure
  repeat' split
  all_goals rfl

theorem resetBlocks_chan (s : State) (d : Chan) : (resetBlocks s).chan d = (s.chan d).afterReset := get_map _ _ _

theorem resetBlocks_zone (s : State) (z : Zone) : (resetBlocks s).zone z = (s.zone z).afterReset := get_map _ _ _

theorem powerOnReset_chan (s : State) (d : Chan) : s.powerOnReset.chan d = Channel.initial :=
  Vector.getElem_replicate d.isLt

theorem powerOnReset_zone (s : State) (z : Zone) : s.powerOnReset.zone z = ZoneRec.initial :=
  Vector.getElem_replicate z.isLt

/-- A state with every zone DARK and every SHUT line asserted. -/
theorem firingSafe_dark (zone : ∀ z, (t.zone z).state = .dark) (shut : ∀ d, (t.chan d).shutReleased = false) :
    ZonesDecided t ∧ t.ShutSound :=
  ⟨fun z hz => absurd (zone z) hz, fun d hd => by rw [shut] at hd; cases hd⟩

/-- A change keeps every zone out of DARK a decided and participating one, and every released SHUT line in a zone that
permits fuel. -/
theorem Change.firingSafe (h : Change c b s t) (hm : s.ModeSound) (z : ZonesDecided s) (p : s.ShutSound) :
    ZonesDecided t ∧ t.ShutSound := by
  have ofPlant : ∀ {u : State}, u.plant = s.plant → ZonesDecided u ∧ u.ShutSound := fun hu =>
    firingSafe_congr (config_of_plant hu) (mode_of_plant hu) (zs_of_plant hu)
      (fun d hd => by rwa [chan_of_plant hu] at hd) z p
  cases h with
  | move h => exact ⟨moves_zonesDecided h.one z, moves_shutSound h.one p⟩
  | offer cls q r k =>
    obtain ⟨li, fa, al, sr, e⟩ := offer_form s cls q r k
    rw [e]
    exact firingSafe_congr rfl rfl rfl (fun _ hd => hd) z p
  | lose f => exact ofPlant (State.loseFrame_plant _ _)
  | engine f h => exact firingSafe_congr (s := s) rfl rfl rfl h z p
  | mode m hmode hs =>
    refine ⟨fun y hy => ⟨?_, (z y hy).2⟩, p⟩
    obtain rfl | rfl := hmode <;> rfl
  | view h g => obtain ⟨v, q, rfl⟩ := h; exact ⟨z, p⟩
  | acknowledge n seq => exact ofPlant (s.ackOwn_plant n seq)
  | shelve id m e he => exact ofPlant (s.shelveEntry_plant id m)
  | endShelve id e he => exact ofPlant (s.endShelve_plant id)
  | powerOn h =>
    exact firingSafe_dark (fun y => by rw [powerOnReset_zone]; rfl) fun d => by rw [powerOnReset_chan]; rfl
  | load cfg h hmode =>
    have noConfig : s.config = none := hm.mp hmode
    refine firingSafe_dark (fun y => ?_) fun d => ?_
    · by_contra hy
      have decides := (z y hy).1
      simp [State.decides, hmode] at decides
    · rw [startingBlocks_shut, Bool.eq_false_iff]
      intro hd
      obtain ⟨f, hf, -⟩ := p d hd
      simp [State.fuel?, State.chanCfg, noConfig] at hf
  | reset h =>
    cases s.config with
    | some cfg =>
      exact firingSafe_dark (fun y => by change ((resetBlocks s).zone y).state = _; rw [resetBlocks_zone]; rfl)
        fun d => by rw [startingBlocks_shut, resetBlocks_chan]; rfl
    | none =>
      exact firingSafe_dark (fun y => by change ((resetBlocks s).zone y).state = _; rw [resetBlocks_zone]; rfl)
        fun d => by change ((resetBlocks s).chan d).shutReleased = _; rw [resetBlocks_chan]; rfl
  | _ => exact ⟨z, p⟩

/-- No command but an assertion of ESD_N asserts it, and none brings a zone to PURGING, READY or LIT beside it. -/
theorem Change.esdQuiet (h : Change c b s t) (hc : c ≠ .esdAssertion) (p : EsdQuiet s) : EsdQuiet t := by
  have ofPlant : ∀ {u : State}, u.plant = s.plant → EsdQuiet u := fun {u} hu he y => by
    have esd : u.esd = s.esd := by change u.plant.esd = s.plant.esd; rw [hu]
    rw [State.active, State.zone, zs_of_plant hu]
    exact p (esd ▸ he) y
  cases h with
  | move h => exact moves_esdQuiet h.one p
  | offer cls q r k =>
    obtain ⟨li, fa, al, sr, e⟩ := offer_form s cls q r k
    rw [e]
    exact p
  | lose f => exact ofPlant (State.loseFrame_plant _ _)
  | view h g => obtain ⟨v, q, rfl⟩ := h; exact p
  | acknowledge n seq => exact ofPlant (s.ackOwn_plant n seq)
  | shelve id m e he => exact ofPlant (s.shelveEntry_plant id m)
  | endShelve id e he => exact ofPlant (s.endShelve_plant id)
  | esd v h =>
    intro he y
    obtain rfl | h := h
    · cases he
    · exact absurd h hc
  | powerOn h => exact fun _ y => by rw [State.active, powerOnReset_zone]; exact Bool.false_ne_true
  | reset h =>
    have dark : ∀ y, ¬ ((resetBlocks s).zone y).state.trippable = true := fun y => by
      rw [resetBlocks_zone]; exact Bool.false_ne_true
    cases s.config with
    | some cfg => exact fun _ => dark
    | none => exact fun _ => dark
  | _ => exact p

/-! ### The queue of commands, the time, the peer records -/

theorem Change.queue (h : Change c b s t) : t.pending = s.pending ∧ t.now = s.now := by
  have ofPlant : ∀ {u : State}, u.plant = s.plant → u.pending = s.pending ∧ u.now = s.now := fun {u} hu =>
    ⟨by change u.plant.pending = s.plant.pending; rw [hu], now_of_plant hu⟩
  cases h with
  | move h =>
    have still := h.still
    exact ⟨by change t.still.pending = s.still.pending; rw [still], State.now_of_still still⟩
  | offer cls q r k => obtain ⟨li, fa, al, sr, e⟩ := offer_form s cls q r k; rw [e]; exact ⟨rfl, rfl⟩
  | lose f => exact ofPlant (State.loseFrame_plant _ _)
  | view h g => obtain ⟨v, q, rfl⟩ := h; exact ⟨rfl, rfl⟩
  | acknowledge n seq => exact ofPlant (s.ackOwn_plant n seq)
  | shelve id m e he => exact ofPlant (s.shelveEntry_plant id m)
  | endShelve id e he => exact ofPlant (s.endShelve_plant id)
  | reset h =>
    cases s.config with
    | some cfg => exact ⟨rfl, rfl⟩
    | none => exact ⟨rfl, rfl⟩
  | _ => exact ⟨rfl, rfl⟩

theorem Changes.queue (h : Changes c b s t) : t.pending = s.pending ∧ t.now = s.now :=
  h.keep (fun x => x.pending = s.pending ∧ x.now = s.now)
    (fun _ _ hc p => ⟨hc.queue.1.trans p.1, hc.queue.2.trans p.2⟩) ⟨rfl, rfl⟩

theorem Change.fresh (h : Change c b s t) (n : Station) :
    (t.peer n).fresh = (s.peer n).fresh ∨ MayAge c b n (t.peer n).fresh := by
  have ofPlant : ∀ {u : State}, u.plant = s.plant → u.peer n = s.peer n := fun hu =>
    State.peer_of_still (State.still_of_plant hu) n
  have absent : ∀ x, (PeerRecord.absentRecord x).fresh = .absent := fun _ => rfl
  have starting : ∀ u cfg, ((startingBlocks u cfg).peer n).fresh = .absent := fun u cfg => by
    have e : (startingBlocks u cfg).peer n = PeerRecord.absentRecord (cfgExpects cfg n) := get_ofFn _ n
    rw [e]; rfl
  have initial : ∀ u : State, u.pt = PeerTable.initial → (u.peer n).fresh = .absent := fun u hu => by
    have e : u.peer n = PeerRecord.absentRecord false := by
      rw [State.peer, hu]; exact Vector.getElem_replicate n.isLt
    rw [e]; rfl
  cases h with
  | move h => exact .inl (by rw [State.peer_of_still h.still])
  | offer cls q r k => obtain ⟨li, fa, al, sr, e⟩ := offer_form s cls q r k; rw [e]; exact .inl rfl
  | lose f => exact .inl (by rw [ofPlant (State.loseFrame_plant _ _)])
  | peer m f h =>
    by_cases hn : m = n
    · subst hn
      rw [State.mapPeer_peer_same]
      exact h
    · rw [State.mapPeer_peer_other _ _ hn]
      exact .inl rfl
  | view h g => obtain ⟨v, q, rfl⟩ := h; exact .inl rfl
  | acknowledge m seq => exact .inl (by rw [ofPlant (s.ackOwn_plant m seq)])
  | shelve id m e he => exact .inl (by rw [ofPlant (s.shelveEntry_plant id m)])
  | endShelve id e he => exact .inl (by rw [ofPlant (s.endShelve_plant id)])
  | powerOn h => exact .inr (.inl ⟨.inl h, initial _ rfl⟩)
  | load cfg h hm => exact .inr (.inl ⟨.inr (.inr (.inr h)), starting s cfg⟩)
  | reset h =>
    have hc : c = .powerOnReset ∨ c = .resetNAssertion ∨ c = .stationReset ∨ ∃ ws, c = .loadConfig ws := by tauto
    cases s.config with
    | some cfg => exact .inr (.inl ⟨hc, starting _ cfg⟩)
    | none => exact .inr (.inl ⟨hc, initial (resetBlocks s) rfl⟩)
  | _ => exact .inl rfl

theorem Changes.fresh (h : Changes c b s t) (n : Station) :
    (t.peer n).fresh = (s.peer n).fresh ∨ MayAge c b n (t.peer n).fresh := by
  refine h.keep (fun x => (x.peer n).fresh = (s.peer n).fresh ∨ MayAge c b n (x.peer n).fresh)
    (fun x y hc p => ?_) (.inl rfl)
  obtain e | may := hc.fresh n
  · rw [e]; exact p
  · exact .inr may

end

end Sys2Proof.Proofs
end

section
/-! PROOF. Every command of the table answers a next state, and its effect is a sequence of the elementary changes. -/

namespace Sys2Proof.Proofs

open Sys2Proof.Machine

variable {c : Instr} {b s t u : State}

/-! ### Writes of one record -/

theorem Changes.line (h : Changes c b s t) (f : LineIf → LineIf) (g : t.LineSound → (t.mapLi f).LineSound) :
    Changes c b s (t.mapLi f) := h.step (.line _ _ g)

theorem Changes.store (h : Changes c b s t) (f : ShiftStore → ShiftStore) (g : t.ShiftSound → (t.mapSr f).ShiftSound) :
    Changes c b s (t.mapSr f) := h.step (.store _ _ g)

/-- A write of SR that leaves what `State.ShiftSound` reads. -/
theorem Changes.storeSame (h : Changes c b s t) (f : ShiftStore → ShiftStore) (sec : (f t.sr).sec = t.sr.sec)
    (trips : (f t.sr).zoneTrips = t.sr.zoneTrips) (ring : (f t.sr).ring = t.sr.ring)
    (summary : (f t.sr).summary = t.sr.summary) : Changes c b s (t.mapSr f) :=
  h.store f (shiftSound_congr (s := t) sec trips (congrArg List.length ring) summary).mpr

theorem Changes.acct (h : Changes c b s t) (d : Chan) (f : Account → Account) : Changes c b s (t.mapAcct d f) :=
  h.storeSame _ rfl rfl rfl rfl

theorem Changes.demand (h : Changes c b s t) (z : Zone) (f : DemandRecord → DemandRecord) :
    Changes c b s (t.mapDemand z f) := h.step (.demand _ _ _)

theorem Changes.zone (h : Changes c b s t) (z : Zone) (f : ZoneRec → ZoneRec)
    (g : (f (t.zone z)).state = (t.zone z).state) : Changes c b s (t.mapZone z f) := h.step (.move (.zone _ _ _ g))

theorem Changes.firing (h : Changes c b s t) (z : Zone) (f : Firing → Firing) : Changes c b s (t.mapFiring z f) :=
  h.step (.move (.firing _ _ _))

theorem Changes.cooler (h : Changes c b s t) (f : Cooler → Cooler) : Changes c b s (t.mapCr f) :=
  h.step (.move (.cooler _ _))

/-- A write of a channel's record that does not open its SHUT. -/
theorem Changes.chan (h : Changes c b s t) (d : Chan) (f : Channel → Channel)
    (g : ∀ x, (f x).shutReleased = true → x.shutReleased = true) : Changes c b s (t.mapChan d f) := by
  refine h.step (.engine _ _ fun y hy => ?_)
  by_cases hd : d = y
  · subst hd
    refine g _ ?_
    rw [← State.mapChan_chan_same t d f]
    exact hy
  · have e := State.mapChan_chan_other t f hd
    exact (congrArg Channel.shutReleased e).symm.trans hy

/-- A write of CE that leaves the channels' records. -/
theorem Changes.engine (h : Changes c b s t) (f : ChannelEngine → ChannelEngine) (g : (f t.ce).chans = t.ce.chans) :
    Changes c b s (t.mapCe f) := by
  refine h.step (.engine _ _ fun y hy => ?_)
  have e : (t.mapCe f).chan y = t.chan y := congrArg (Vector.get · y) g
  rwa [e] at hy

theorem Changes.point (h : Changes c b s t) (p : PointId) (f : Point → Point) : Changes c b s (t.mapPoint p f) := by
  cases p with
  | flame z => exact h.engine (fun e => { e with flames := upd e.flames z (f (e.flames.get z)) }) rfl
  | clinker => exact h.engine (fun e => { e with clinker := f e.clinker }) rfl
  | feed d => exact h.chan d (fun x => { x with feedPt := f x.feedPt }) fun _ hx => hx
  | valve d => exact h.chan d (fun x => { x with valvePt := f x.valvePt }) fun _ hx => hx
  | fault d => exact h.chan d (fun x => { x with faultPt := f x.faultPt }) fun _ hx => hx
  | flow d => exact h.chan d (fun x => { x with flowPt := f x.flowPt }) fun _ hx => hx
  | bed d => exact h.chan d (fun x => { x with bedPt := f x.bedPt }) fun _ hx => hx

theorem Changes.popRx (h : Changes c b s t) : Changes c b s t.popRx := h.line _ popRx_lineSound

theorem ite_changes (p : Prop) [Decidable p] (h : p → Changes c b s t) : Changes c b s (if p then t else s) := by
  split
  · exact h ‹_›
  · exact .refl

/-! ### Requests -/

theorem request_changes (code : Nat) (args : List Word) (owner : State → State)
    (h : s.pt.mode ≠ .unconfigured → Changes c b s (owner s)) : Changes c b s (s.request code args owner) := by
  unfold State.request
  split
  · split
    · exact Changes.refuse .refl _ _
    · exact h ‹_›
  · exact .refl

theorem read_changes (code : Nat) (args : List Word) (owner : State → State) (h : Changes c b s (owner s)) :
    Changes c b s (s.read code args owner) := ite_changes _ fun _ => h

/-! ### The floor view -/

theorem setView_form (s : State) (v : List Mirror) (full : Bool) :
    ∃ w p, s.setView v full = { s with fv := w, sp := p } := by
  unfold State.setView
  dsimp only
  split <;> exact ⟨_, _, rfl⟩

theorem insertMirror_form (s : State) (m : Mirror) : ∃ w p, s.insertMirror m = { s with fv := w, sp := p } := by
  unfold State.insertMirror
  split
  · exact setView_form s _ _
  · split
    · exact setView_form s _ _
    · exact setView_form s _ _

theorem takeReport_form (s : State) (n : Station) (id : AlarmId) (st : AlarmState) (seq : Word) (time : Stamp) :
    ∃ w p, s.takeReport n id st seq time = { s with fv := w, sp := p } := by
  unfold State.takeReport
  split
  · exact insertMirror_form s _
  · exact setView_form s _ _
  · exact setView_form s _ _
  · exact setView_form s _ _
  · exact ⟨_, _, rfl⟩

theorem takeRemoved_form (s : State) (n : Station) (id : AlarmId) (seq : Word) :
    ∃ w p, s.takeRemoved n id seq = { s with fv := w, sp := p } := by
  unfold State.takeRemoved
  split
  · exact ⟨_, _, rfl⟩
  · split
    · exact setView_form s _ _
    · exact ⟨_, _, rfl⟩

theorem mapRoll_form {x : State} (h : ∃ w p, x = { s with fv := w, sp := p }) (n : Station) (f : RollCall → RollCall) :
    ∃ w p, x.mapRoll n f = { s with fv := w, sp := p } := by
  obtain ⟨w, p, rfl⟩ := h
  exact ⟨_, _, rfl⟩

theorem viewRestart_form (s : State) (n : Station) : ∃ w p, s.viewRestart n = { s with fv := w, sp := p } :=
  mapRoll_form (setView_form s _ _) n _

theorem viewExpired_form (s : State) (n : Station) : ∃ w p, s.viewExpired n = { s with fv := w, sp := p } :=
  mapRoll_form (setView_form s _ _) n _

theorem rollPass_form (s : State) (n : Station) (i : Nat) : ∃ w p, s.rollPass n i = { s with fv := w, sp := p } := by
  unfold State.rollPass
  dsimp only
  split
  · exact mapRoll_form ⟨_, _, rfl⟩ n _
  split
  · exact mapRoll_form (setView_form s _ _) n _
  split
  · exact mapRoll_form ⟨_, _, rfl⟩ n _
  · exact ⟨_, _, rfl⟩

theorem takeRoll_form (s : State) (n : Station) (listed index : Nat) (e : Option RollEntry) :
    ∃ w p, s.takeRoll n listed index e = { s with fv := w, sp := p } := by
  unfold State.takeRoll
  split
  · exact ⟨_, _, rfl⟩
  · dsimp only
    refine mapRoll_form ?_ n _
    obtain ⟨w, p, h⟩ := rollPass_form s n index
    split
    · obtain ⟨w', p', h'⟩ := takeReport_form (s.rollPass n index) n ‹_› ‹_› ‹RollEntry›.seq ‹RollEntry›.time
      rw [h', h]
      exact ⟨_, _, rfl⟩
    · exact ⟨_, _, h⟩

/-! ### Operations of the other blocks -/

theorem Changes.fileShift (h : Changes c b s t) (m : ShiftMsg) : Changes c b s (t.fileShift m) :=
  h.store _ fun p => fileShift_shiftSound p m

theorem Changes.startShift (h : Changes c b s t) (closed : ShiftRecord) (next : Word) :
    Changes c b s (t.startShift closed next) := by
  obtain ⟨f, hf⟩ : ∃ f, t.startShift closed next = (t.mapSr f).mapAl AlarmList.closeShift := ⟨_, rfl⟩
  rw [hf]
  refine (h.store f fun p => ?_).step (.shiftCounts _)
  have sound := startShift_shiftSound p closed next
  rw [hf] at sound
  exact sound

theorem Changes.closeShift (h : Changes c b s t) (k : CloseKind) (n : Word) (sk : Bool) (x : Word) :
    Changes c b s (t.closeShift k n sk x) := by
  unfold State.closeShift
  exact (((h.startShift _ _).moves (State.offerShift_moves _ _)).fileShift _).notify _

theorem Changes.clockCond (h : Changes c b s t) : Changes c b s t.clockCond := h.cond _ _ _

theorem Changes.takeDemand (h : Changes c b s t) (z : Zone) (d : Demand) : Changes c b s (t.takeDemand z d) := by
  obtain ⟨f, hf⟩ : ∃ f, t.takeDemand z d = t.mapDemand z f := by
    unfold State.takeDemand
    exact ⟨_, rfl⟩
  rw [hf]
  exact h.demand z f

theorem Changes.adoptDemand (h : Changes c b s t) (z : Zone) (d : Demand) : Changes c b s (t.adoptDemand z d) := by
  unfold State.adoptDemand
  split
  · exact (h.demand z _).takeDemand z d
  · exact h

theorem Changes.offerTrip (h : Changes c b s t) (m : TripMsg) : Changes c b s (t.offerTrip m) := by
  unfold State.offerTrip
  dsimp only
  split
  · exact (h.step (.offer _ _ _ _ _)).cond _ _ _
  · exact h.step (.offer _ _ _ _ _)

theorem offerTrip_zone (s : State) (m : TripMsg) (z : Zone) : (s.offerTrip m).zone z = s.zone z := by
  obtain ⟨d, ts, l, h⟩ := s.offerTrip_plant m
  have zs : (s.offerTrip m).zs = s.zs := by
    have e : (s.offerTrip m).plant.zs = s.plant.zs := by rw [h]
    exact e
  rw [State.zone, zs, State.zone]

/-- A local trip of a zone that can be tripped. -/
theorem Changes.localTrip (h : Changes c b s t) (z : Zone) (cause : ZoneCause) (ch : Option Chan) (v : Option Nat)
    (trip : (t.zone z).state.trippable = true) : Changes c b s (t.localTrip z cause ch v) := by
  unfold State.localTrip
  dsimp only
  refine Changes.store (((h.moves (State.tripSteps_moves t z _)).offerTrip _).moves
    (Moves.enter z .tripped .refl (.inr (.inl ?_)))) _ countZoneTrip_shiftSound
  rw [offerTrip_zone, (State.tripSteps_moves (e := false) t z _).state_false]
  exact trip

theorem Changes.judgeContact (h : Changes c b s t) : Changes c b s t.judgeContact := by
  unfold State.judgeContact
  split
  · rename_i isolated
    unfold State.exitIsolated
    refine ((h.step (.mode _ _ (.inl rfl) ?_)).cond _ _ _).moves (Moves.foldl _ State.unlimitChannel_moves _ _)
    rw [isolated.1]
    decide
  · exact h

/-! ### The two resets (10 R196) -/

/-- The commands, conditions and SNAP of the entry to STARTING. -/
def startingActs (s : State) : State :=
  ((allChans.foldl State.lockoutCond (allChans.foldl State.startIgniter s)).clockCond.offerSnap).pump

theorem stationReset_eq (s : State) : s.stationReset = match s.config with
    | some cfg => startingActs (startingBlocks (resetBlocks s) cfg)
    | none => resetBlocks s := rfl

theorem startIgniter_moves {e : Bool} (s : State) (d : Chan) : Moves e s (s.startIgniter d) := by
  unfold State.startIgniter
  split
  · split
    · exact State.issue_moves d _
    · exact .refl
  · exact .refl

theorem startingActs_moves {e : Bool} (s : State) : Moves e s (startingActs s) := by
  have m : Moves e s (allChans.foldl State.lockoutCond (allChans.foldl State.startIgniter s)) :=
    (Moves.foldl _ startIgniter_moves _ _).andThen (Moves.foldl _ (fun s d => Moves.cond _ _ _ .refl) _ _)
  exact ((m.cond _ _ _).andThen (State.offerSnap_moves _)).andThen State.pump_moves

theorem stationReset_changes (h : c = .resetNAssertion ∨ c = .stationReset) : Changes c b s s.stationReset := by
  have r := Change.one (Change.reset (b := b) s h)
  rw [stationReset_eq]
  cases hc : s.config with
  | some cfg =>
    rw [hc] at r
    exact r.moves (startingActs_moves _)
  | none =>
    rw [hc] at r
    exact r

/-! ### The floor line -/

theorem Changes.collide {f : TxFrame} (hf : s.li.tx.find? TxFrame.inSend = some f) : Changes c b s (s.collide f) := by
  have queue : Changes c b s (s.mapLi fun li => { li with
      tx := (collideQueue f s.li.tx).1
      collisions := li.collisions + 1
      quietSince := some (s.now + 2) }) :=
    Changes.line .refl _ fun p => lineSound_mapLi p (fun ht => collideQueue_txSound ht hf) id fun _ ht _ => by
      rw [ht] at hf; cases hf
  unfold State.collide
  dsimp only
  split
  · split
    · exact (queue.line _ (lineSound_sameQueues rfl rfl)).cond _ _ _
    · exact queue
  · split
    · have lost := (queue.line (fun li => ({ li with tx := li.tx.erase (collideQueue f s.li.tx).2 } : LineIf).discard s.now)
        (lineSound_fewer List.erase_sublist rfl)).step (.lose _ (collideQueue f s.li.tx).2)
      split
      · exact lost.cond _ _ _
      · exact lost
    · exact queue

theorem Changes.completeSend (h : Changes c b s t) (f : TxFrame) : Changes c b s (t.completeSend f) := by
  have sent := h.line (fun li => { li with
    tx := li.tx.filter fun g => !g.inSend
    sent := li.sent + 1
    completionTime := t.now
    acceptedMark := false
    quietSince := some (t.now + 2) }) (lineSound_fewer List.filter_sublist rfl)
  unfold State.completeSend
  dsimp only
  split
  · exact sent.step (.move (.snapTable _ _ t.pt.changeMark t.pt.lastOffer t.pt.published))
  · exact sent

theorem Changes.judgeFrame (h : Changes c b s t) (hm : t.pt.mode ≠ .unconfigured) (bytes : List Byte) (odd : Nat) :
    Changes c b s (t.judgeFrame bytes odd) := by
  unfold State.judgeFrame
  split
  · exact h.line _ (lineSound_sameQueues rfl rfl)
  · rename_i f _
    split
    · exact (h.line _ (lineSound_sameQueues rfl rfl)).cond _ _ _
    · dsimp only
      have heard := h.line (fun li => { li with rxTime := t.now }) (lineSound_sameQueues rfl rfl)
      split
      · exact heard.judgeContact
      · refine (heard.line (fun li => li.receive f) fun p => ?_).judgeContact
        exact lineSound_mapLi p (fun ht => by rw [receive_tx]; exact ht) (fun hr => receive_length_le hr f)
          fun off => absurd off hm

/-! ### The peer table -/

theorem Changes.fileSnap (h : Changes .snapTaken b s t) {n : Station} (hn : ∃ f, b.heads .snap f ∧ f.origin = n)
    (seq : Byte) (m : SnapMsg) : Changes .snapTaken b s (t.fileSnap n seq m) := by
  unfold State.fileSnap
  dsimp only
  have filed := h.step (.peer t n (fun r => r.file seq m t.now t.stamp) (.inr (.inr (.inl ⟨rfl, rfl, hn⟩))))
  have blocks : ∀ x, Changes .snapTaken b s x → Changes .snapTaken b s
      (m.zones.foldl (fun s z => s.takeBlock n (m.mode == .starting) z)
        (m.zones.foldl State.blockDemand (x.mapSr fun r => r.learn m.shift m.timeValid))) := by
    intro x hx
    refine Changes.moves (Relation.ReflTransGen.trans (hx.store _ fun p => ?_) (Changes.foldl _ (fun y z => ?_) _ _))
      (Moves.foldl _ (fun y z => y.takeBlock_moves n _ z) _ _)
    · have same : ∀ r : ShiftStore, (r.learn m.shift m.timeValid).sec = r.sec
          ∧ (r.learn m.shift m.timeValid).zoneTrips = r.zoneTrips ∧ (r.learn m.shift m.timeValid).ring = r.ring
          ∧ (r.learn m.shift m.timeValid).summary = r.summary := by
        intro r
        unfold ShiftStore.learn
        repeat' split
        all_goals exact ⟨rfl, rfl, rfl, rfl⟩
      obtain ⟨sec, trips, ring, summary⟩ := same x.sr
      exact (shiftSound_congr (s := x) sec trips (congrArg List.length ring) summary).mpr p
    · unfold State.blockDemand
      split
      · exact Changes.adoptDemand .refl _ _
      · exact .refl
  refine blocks _ (Changes.step ?_
    (.view (takeRoll_form _ _ _ _ _) fun p => takeRoll_viewSound p _ _ _ _))
  have conds : ∀ x, Changes .snapTaken b s x → Changes .snapTaken b s (x.peerConds n) := fun x hx =>
    (hx.cond _ _ _).cond _ _ _
  split
  · refine Changes.step (conds _ ?_) (.view (viewRestart_form _ _) fun p => viewRestart_viewSound p n)
    split
    · exact filed.notify _
    · exact filed
  · refine conds _ ?_
    split
    · exact filed.notify _
    · exact filed

theorem rxHead_some {cls : FrameClass} {f : RxFrame} (h : s.rxHead cls = some f) : s.heads cls f := by
  unfold State.rxHead at h
  split at h
  · rename_i g rest hl
    split at h
    · cases h
      exact ⟨by rw [hl]; rfl, ‹_›⟩
    · cases h
  · cases h

/-- The zones settled at the end of the listen participate, in a mode that decides. -/
theorem settleZones_moves {l : List Zone} (hd : s.decides = true) (hp : ∀ z ∈ l, s.participates z = true) :
    Moves true s (l.foldl State.settleZone s) := by
  induction l generalizing s with
  | nil => exact .refl
  | cons z l ih =>
    have m := s.settleZone_moves z hd (hp z (by simp))
    exact m.andThen (ih ((State.decides_of_still m.still).trans hd)
      fun y hy => (State.participates_of_still m.still y).trans (hp y (by simp [hy])))

theorem listenFan_moves {e : Bool} (s : State) (d : Chan) : Moves e s (s.listenFan d) := by
  unfold State.listenFan
  split
  · split
    · exact s.takeBase_moves d _
    · exact .refl
  · exact .refl

/-! ### Samples and replies -/

theorem Changes.markEstimated (h : Changes c b s t) (d : Chan) : Changes c b s (t.markEstimated d) :=
  (h.acct d _).storeSame _ rfl rfl rfl rfl

theorem Changes.integrateFeed (h : Changes c b s t) (d : Chan) (ncv sp e : Nat) :
    Changes c b s (t.integrateFeed d ncv sp e) := by
  unfold State.integrateFeed
  dsimp only
  split
  · exact h.acct d _
  · exact (h.acct d _).markEstimated d

theorem Changes.integrateFlow (h : Changes c b s t) (d : Chan) (sp e : Nat) :
    Changes c b s (t.integrateFlow d sp e) := by
  unfold State.integrateFlow
  dsimp only
  split
  · exact h.acct d _
  · exact (h.acct d _).markEstimated d

theorem Changes.takeFeed (h : Changes c b s t) (d : Chan) (f : FuelCfg) (v : Nat) (good : Bool) (e : Nat) :
    Changes c b s (t.takeFeed d f v good e) := by
  have fed := h.integrateFeed d f.ncv (t.chan d).setpoint e
  unfold State.takeFeed
  dsimp only
  split
  · have tracked := (fed.chan d (fun ch => { ch with actual := heatOf f.ncv v }) fun _ hx => hx).moves
      (State.trackSample_moves _ d f v)
    split
    · exact (tracked.moves (State.setHmaxEff_moves _ d f _)).moves (State.feedProof_moves _ d f v)
    · exact tracked.moves (State.feedProof_moves _ d f v)
  · exact fed

theorem Changes.takeFlow (h : Changes c b s t) (d : Chan) (f : FanCfg) (v : Nat) (good : Bool) (e : Nat) :
    Changes c b s (t.takeFlow d f v good e) := by
  have flowed := h.integrateFlow d (t.chan d).setpoint e
  unfold State.takeFlow
  dsimp only
  split
  · exact (flowed.moves (State.adoptFan_moves _ d f v)).moves (State.flowHanded_moves _ d f)
  · exact flowed.moves (State.flowHanded_moves _ d f)

theorem Changes.handSample (h : Changes c b s t) (p : PointId) (v : Nat) (good : Bool) (e : Nat) :
    Changes c b s (t.handSample p v good e) := by
  unfold State.handSample
  split
  · split
    · exact h.takeFeed _ _ _ _ _
    · exact h
  · split
    · exact h.moves (State.judgeHold_moves _ _)
    · exact h
  · split
    · exact h.moves (State.tripChannel_moves _ _ _)
    · exact h
  · split
    · exact h.takeFlow _ _ _ _ _
    · exact h
  · split
    · exact h.moves ((State.judgeBlow_moves _ _).andThen (State.computeFan_moves _ _ _ _))
    · exact h
  · exact h
  · refine Changes.moves ?_ (State.judgeHigh_moves _)
    split
    · exact h.storeSame _ rfl rfl rfl rfl
    · exact h

theorem Changes.takeReply (h : Changes c b s t) (d : Chan) (fl : InFlight) (code : Byte) :
    Changes c b s (t.takeReply d fl code) := by
  unfold State.takeReply
  split
  · unfold State.commandDone
    split
    · rename_i on _
      have next := (h.chan d (fun ch => { ch with igniter := on }) fun _ hx => hx).moves (State.nextCmd_moves _ d)
      dsimp only
      split
      · exact next.moves (State.igniterDone_moves _ d)
      · exact next
    · exact h.moves (State.nextCmd_moves _ d)
    · exact h.moves (State.nextCmd_moves _ d)
  split
  · unfold State.commandBusy
    split
    · exact h.chan d _ fun _ hx => hx
    · exact h.moves (State.attemptFailed_moves _ d)
  split
  · exact h.moves (State.attemptFailed_moves _ d)
  · exact h

/-! ### Alarms -/

theorem Changes.replyOr (h : Changes c b s t) (code : Nat) (r : Option Reason) :
    Changes c b s (t.replyOr code r) := by
  unfold State.replyOr
  split
  · exact h.ok _
  · exact h.refuse _ _

theorem ackJudge_changes (origin id seq : Word) : Changes c b s (s.ackJudge origin id seq).1 := by
  unfold State.ackJudge
  split
  · exact .refl
  split
  · exact Change.one (.acknowledge _ _ _)
  split
  · exact .refl
  unfold State.ackRemote
  split
  · exact .refl
  split
  · exact .refl
  split
  · exact .refl
  split
  · exact .refl
  · exact .refl
  · exact Change.one (.offer _ _ _ _ _)
  · exact Change.one (.offer _ _ _ _ _)

/-! ### Shifts -/

theorem Changes.clockClose (h : Changes c b s t) (cfg : Config) : Changes c b s (t.clockClose cfg) := by
  unfold State.clockClose
  dsimp only
  split
  · split
    · exact h.closeShift _ _ _ _
    · exact h.storeSame _ rfl rfl rfl rfl
  · exact h

theorem Changes.timeSetClose (h : Changes c b s t) (n : Word) : Changes c b s (t.timeSetClose n) := by
  unfold State.timeSetClose
  split
  · exact h.storeSame _ rfl rfl rfl rfl
  · split
    · exact h
    · exact h.closeShift _ _ _ _

theorem Changes.peerClose (h : Changes c b s t) (m : Word) : Changes c b s (t.peerClose m) := by
  unfold State.peerClose
  split
  · exact h
  split
  · exact h.closeShift _ _ _ _
  split
  · exact h.closeShift _ _ _ _
  split
  · exact h.closeShift _ _ _ _
  · exact h

end Sys2Proof.Proofs
end

section
/-! PROOF. Every command of the table answers a next state, and its effect is a sequence of elementary changes. -/

namespace Sys2Proof.Proofs

open Sys2Proof.Machine

/-- The command answers a next state, by changes that it may make. -/
def Goes (c : Instr) (s : State) : Prop := ∃ t, exec c s = .next t ∧ Changes c s s t

variable {c : Instr} {s t : State}

theorem Goes.of (t : State) (h : exec c s = .next t) (m : Changes c s s t) : Goes c s := ⟨t, h, m⟩

/-- A command that acts where a condition holds, and else leaves the state. -/
theorem Goes.guarded {p : Prop} [Decidable p] (t : State) (h : exec c s = .next (if p then t else s))
    (m : p → Changes c s s t) : Goes c s := ⟨_, h, ite_changes p m⟩

/-- A request: in work, its owner takes it. -/
theorem Goes.request (code : Nat) (args : List Word) (owner : State → State)
    (h : exec c s = .next (s.request code args owner)) (m : s.pt.mode ≠ .unconfigured → Changes c s s (owner s)) :
    Goes c s := ⟨_, h, request_changes code args owner m⟩

theorem Goes.read (code : Nat) (args : List Word) (owner : State → State)
    (h : exec c s = .next (s.read code args owner)) (m : Changes c s s (owner s)) :
    Goes c s := ⟨_, h, read_changes code args owner m⟩

/-! ### Operands -/

theorem chanArg_fuel {w : Word} {d : Chan} {f : FuelCfg} (h : s.chanArg w = .fuel d f) : s.fuel? d = some f := by
  unfold State.chanArg at h
  split at h
  · cases h
  · split at h
    · cases h
    · split at h
      · cases h
      · rename_i hc hn
        cases h
        simp [State.fuel?, hc, hn]
    · cases h

theorem zoneArg_some {w : Word} {z : Zone} (h : s.zoneArg w = some z) :
    zoneOf w.toNat = some z ∧ s.participates z = true := by
  unfold State.zoneArg at h
  split at h
  · split at h
    · cases h
      exact ⟨‹_›, ‹_›⟩
    · cases h
  · cases h

/-! ### Resets -/

theorem goes_resetNAssertion (s : State) : Goes .resetNAssertion s := by
  refine ⟨_, rfl, ?_⟩
  split
  · exact .refl
  · exact (stationReset_changes (.inl rfl)).step (.resetHeld _ _)

theorem goes_stationReset (s : State) : Goes .stationReset s :=
  .request 21 [] State.stationReset rfl fun _ => stationReset_changes (.inr rfl)

/-! ### The floor line -/

theorem goes_deferralExpiry (s : State) : Goes .deferralExpiry s :=
  .guarded _ rfl fun h => Changes.line .refl _ (startSend_lineSound (by
    simp only [Bool.and_eq_true, Bool.not_eq_true'] at h
    exact h.1.2))

theorem goes_yield (s : State) : Goes .lineYield s := by
  refine ⟨_, rfl, ?_⟩
  split
  · exact .refl
  · exact Changes.line .refl _ (lineSound_sameQueues rfl rfl)

theorem goes_collision (s : State) : Goes .collision s := by
  refine ⟨_, rfl, ?_⟩
  split
  · exact (Changes.collide ‹_›).finish _
  · exact .refl

theorem goes_transmitCompletion (s : State) : Goes .transmitCompletion s := by
  refine ⟨_, rfl, ?_⟩
  split
  · exact ((((Changes.completeSend .refl _).moves (State.retryAlerts_moves _)).moves (State.retryDemands_moves _)).moves
      (State.retryShifts_moves _)).judgeContact.finish _
  · exact .refl

theorem goes_receiveFrame (bytes : List Byte) (odd : Fin 8) (s : State) : Goes (.receiveFrame bytes odd) s := by
  refine ⟨_, rfl, ?_⟩
  have quiet : Changes (.receiveFrame bytes odd) s s
      (s.mapLi fun li => { li with quietSince := some s.now, rxAbandoned := false }) :=
    Changes.line .refl _ (lineSound_sameQueues rfl rfl)
  split
  · exact .refl
  · dsimp only
    split
    · exact quiet
    · rename_i on
      exact (quiet.judgeFrame (fun off => on (.inl off)) bytes odd.val).finish _

theorem goes_lineIsolationTimeout (s : State) : Goes .lineIsolationTimeout s :=
  .guarded _ rfl fun h => Changes.finish (Changes.moves (Changes.cond (Changes.step .refl
    (.mode _ _ (.inr rfl) (by rw [h.1]; decide))) _ _ _) (Moves.foldl _ State.limitChannel_moves _ _)) _

/-! ### The peer table -/

theorem goes_snapTaken (s : State) : Goes .snapTaken s := by
  refine ⟨_, rfl, ?_⟩
  split
  · exact .refl
  · rename_i f hf
    split
    · exact Changes.popRx .refl
    · exact ((Changes.popRx .refl).fileSnap ⟨f, rxHead_some hf, rfl⟩ _ _).finish _

theorem goes_staleTimeout (n : Station) (s : State) : Goes (.staleTimeout n) s :=
  .guarded _ rfl fun h => ((Changes.step .refl (.peer s n _ (.inr (.inr (.inr (.inl ⟨rfl, h.1, rfl⟩)))))).notify _).finish _

theorem goes_expiredTimeout (n : Station) (s : State) : Goes (.expiredTimeout n) s := by
  refine .guarded _ rfl fun h => ?_
  have aged : Changes (.expiredTimeout n) s s
      ((s.mapPeer n fun r => { r with fresh := .expired }).notify .peerChange) :=
    (Changes.step .refl (.peer s n _ (.inr (.inr (.inr (.inr ⟨rfl, h.1, rfl⟩)))))).notify _
  refine Changes.finish (Changes.step ?_ (.view (viewExpired_form _ _) fun p => viewExpired_viewSound p n)) _
  split
  · exact aged.cond _ _ _
  · exact aged

theorem goes_listenEnd (s : State) : Goes .listenEnd s := by
  refine .guarded _ rfl fun h => ?_
  refine Changes.finish (Changes.moves (Changes.moves (Changes.step .refl
    (.mode _ _ (.inl rfl) (by rw [h.1]; decide))) (settleZones_moves rfl fun z hz => ?_))
    (Moves.foldl _ listenFan_moves _ _)) _
  exact (List.mem_filter.mp hz).2

/-! ### The field port -/

theorem goes_fieldRecordFail (received : List Byte) (gap : Bool) (s : State) : Goes (.fieldRecordFail received gap) s := by
  refine ⟨_, rfl, ?_⟩
  split
  · exact Changes.engine .refl _ rfl
  split
  · exact Changes.engine .refl _ rfl
  · exact .refl

theorem goes_sampleRecord (source quantity : Byte) (value : Word) (quality : Byte) (elapsed : Word) (s : State) :
    Goes (.sampleRecord source quantity value quality elapsed) s := by
  refine ⟨_, rfl, ?_⟩
  split
  · have silent : Changes (.sampleRecord source quantity value quality elapsed) s s s.endSilence :=
      (Changes.engine .refl _ rfl).cond _ _ _
    dsimp only
    split
    · exact silent.finish _
    · exact (((silent.point _ _).moves (State.samplePointCond_moves _ _)).handSample _ _ _ _).finish _
  · exact Changes.engine .refl _ rfl

theorem goes_fieldPortSilent (s : State) : Goes .fieldPortSilent s := by
  refine .guarded _ rfl fun _ => ?_
  dsimp only
  have gap : Changes .fieldPortSilent s s ((s.setCond idFieldSilent true none).mapSr fun r => { r with gap := true }) :=
    (Changes.cond .refl _ _ _).storeSame _ rfl rfl rfl rfl
  refine Changes.finish (Changes.moves (Changes.moves (gap.trans (Changes.foldl _ (fun x p => Changes.point .refl p _) _ _))
    (Moves.foldl _ State.sampleCond_moves _ _)) (Moves.foldl _ (fun x d => ?_) _ _)) _
  split
  · exact x.flowHanded_moves d _
  · exact .refl

theorem goes_actuatorReply (channel tag code : Byte) (s : State) : Goes (.actuatorReply channel tag code) s := by
  refine ⟨_, rfl, ?_⟩
  have behind : Changes (.actuatorReply channel tag code) s s
      (s.mapCe fun e => { e with fieldRx := e.fieldRx.behind 6 }) := Changes.engine .refl _ rfl
  dsimp only
  repeat' split
  · exact behind
  · exact (behind.takeReply _ _ _).finish _
  · exact behind
  · exact behind
  · exact behind

/-! ### Channels -/

theorem goes_rampStep (d : Chan) (s : State) : Goes (.rampStep d) s := by
  refine ⟨_, rfl, ?_⟩
  split
  · split
    · exact (Changes.moves .refl (s.stepRamp_moves d _ _)).finish _
    · exact .refl
  · exact .refl

theorem goes_unlockedClockExpiry (d : Chan) (s : State) : Goes (.unlockedClockExpiry d) s := by
  refine ⟨_, rfl, ?_⟩
  split
  · split
    · exact ((Changes.chan .refl d (fun ch => { ch with unlockedClock := none }) fun _ hx => hx).moves
        (State.startDerating_moves _ d _)).finish _
    · exact .refl
  · exact .refl

theorem goes_acquiringClockExpiry (d : Chan) (s : State) : Goes (.acquiringClockExpiry d) s := by
  refine ⟨_, rfl, ?_⟩
  split
  · split
    · exact ((Changes.chan .refl d (fun ch => { ch with acquiringClock := none }) fun _ hx => hx).moves
        (State.startDerating_moves _ d _)).finish _
    · exact .refl
  · exact .refl

theorem startPermitted_fires {f : FuelCfg} (h : s.startPermitted f = true) :
    (s.zone f.zone).state.firesFuel = true := by
  unfold State.startPermitted at h
  cases hz : (s.zone f.zone).state <;> simp [hz] at h <;> rfl

theorem startFuel_changes (d : Chan) (f : FuelCfg) (hf : s.fuel? d = some f) : Changes c s s (s.startFuel d f) := by
  unfold State.startFuel
  split
  · exact Changes.refuse .refl _ _
  split
  · exact Changes.refuse .refl _ _
  split
  · exact Changes.refuse .refl _ _
  split
  · exact Changes.refuse .refl _ _
  split
  · rename_i permitted
    exact ((Changes.moves .refl (s.startProof_moves d f hf (startPermitted_fires permitted))).ok _).finish _
  · exact Changes.refuse .refl _ _

theorem goes_channelStart (channel : Word) (s : State) : Goes (.channelStart channel) s := by
  refine .request 4 [channel] _ rfl fun _ => ?_
  split
  · exact Changes.refuse .refl _ _
  · exact startFuel_changes _ _ (chanArg_fuel ‹_›)
  · unfold State.startFanRequest
    split
    · exact ((Changes.moves .refl (s.startFan_moves _ _)).ok _).finish _
    · exact Changes.refuse .refl _ _

theorem goes_channelStop (channel : Word) (s : State) : Goes (.channelStop channel) s := by
  refine .request 5 [channel] _ rfl fun _ => ?_
  split
  · exact Changes.refuse .refl _ _
  · unfold State.stopFuel
    split
    · exact ((Changes.moves .refl (s.stopProving_moves _)).ok _).finish _
    · exact ((Changes.moves .refl (s.startStopping_moves _ _)).ok _).finish _
    · exact ((Changes.moves .refl (s.startStopping_moves _ _)).ok _).finish _
    · exact Changes.refuse .refl _ _
  · unfold State.stopFanRequest
    split
    · exact Changes.refuse .refl _ _
    · exact ((Changes.moves .refl (s.stopFan_moves _)).ok _).finish _

theorem goes_resetTrip (channel : Word) (s : State) : Goes (.resetTrip channel) s := by
  refine .request 6 [channel] _ rfl fun _ => ?_
  split
  · exact Changes.refuse .refl _ _
  · split
    · exact ((Changes.moves .refl (s.enterOff_moves _)).ok _).finish _
    · exact Changes.refuse .refl _ _
  · split
    · exact ((Changes.moves .refl (s.startFan_moves _ _)).ok _).finish _
    · exact Changes.refuse .refl _ _

theorem goes_releaseLockout (channel : Word) (s : State) : Goes (.releaseLockout channel) s := by
  refine .request 7 [channel] _ rfl fun _ => ?_
  split
  · exact Changes.refuse .refl _ _
  · split
    · exact (((Changes.chan .refl _ (fun ch => { ch with history := none }) fun _ hx => hx).moves
        (State.enterOff_moves _ _)).ok _).finish _
    · exact Changes.refuse .refl _ _
  · exact Changes.refuse .refl _ _

/-! ### Zones -/

theorem goes_zonePurge (zone : Word) (s : State) : Goes (.zonePurge zone) s := by
  refine .request 8 [zone] _ rfl fun on => ?_
  split
  · exact Changes.refuse .refl _ _
  rename_i z hz
  split
  · exact Changes.refuse .refl _ _
  rename_i listening
  split
  · exact Changes.refuse .refl _ _
  split
  · exact Changes.refuse .refl _ _
  split
  · rename_i permissive
    have decides : s.decides = true := by
      unfold State.decides
      cases hm : s.pt.mode <;> simp_all
    have released : s.esd = false := by
      simp only [State.permissive, Bool.and_eq_true, Bool.not_eq_true'] at permissive
      tauto
    exact (Changes.ok ((((Changes.moves .refl (Moves.enter z .purging .refl
      (.inr (.inr ⟨decides, (zoneArg_some hz).2, .inr released⟩)))).zone z _ rfl).cond _ _ _)) _).finish _
  · exact Changes.refuse .refl _ _

theorem goes_purgeTimerExpiry (z : Zone) (s : State) : Goes (.purgeTimerExpiry z) s :=
  .guarded _ rfl fun h => (Changes.moves .refl (Moves.enter z .ready .refl (.inr (.inl (by rw [h.1]; rfl))))).finish _

theorem goes_readyWindowExpiry (z : Zone) (s : State) : Goes (.readyWindowExpiry z) s :=
  .guarded _ rfl fun _ => (Changes.moves .refl (Moves.enter z .dark .refl (.inl rfl))).finish _

theorem goes_flameFailureExpiry (z : Zone) (s : State) : Goes (.flameFailureExpiry z) s := by
  refine .guarded _ rfl fun h => ?_
  split
  · exact (Changes.localTrip .refl z _ _ _ (by rw [h.1]; rfl)).finish _
  · split
    · exact (Changes.moves .refl (Moves.enter z .dark .refl (.inl rfl))).finish _
    · exact (Changes.zone .refl z _ rfl).finish _

theorem goes_airFailureExpiry (z : Zone) (s : State) : Goes (.airFailureExpiry z) s :=
  .guarded _ rfl fun h => (Changes.localTrip .refl z _ _ _ (by rw [h.1]; rfl)).finish _

theorem goes_esdAssertion (s : State) : Goes .esdAssertion s := by
  refine ⟨_, rfl, ?_⟩
  have asserted : Changes .esdAssertion s s { s with esd := true } := Change.one (.esd s true (.inr rfl))
  split
  · exact .refl
  · dsimp only
    split
    · refine Changes.finish (asserted.trans (Changes.foldl _ (fun x z => ?_) _ _)) _
      split
      · rename_i h
        exact Changes.localTrip .refl z _ _ _ (Bool.and_eq_true _ _ |>.mp h).2
      · exact .refl
    · exact asserted

theorem goes_zoneTrip (zone : Word) (s : State) : Goes (.zoneTrip zone) s := by
  refine .request 10 [zone] _ rfl fun _ => ?_
  split
  · exact Changes.refuse .refl _ _
  · split
    · exact ((Changes.localTrip .refl _ _ _ _ ‹_›).ok _).finish _
    · exact Changes.refuse .refl _ _

theorem goes_zoneReset (zone : Word) (s : State) : Goes (.zoneReset zone) s := by
  refine .request 9 [zone] _ rfl fun _ => ?_
  split
  · exact Changes.refuse .refl _ _
  · split
    · exact (Changes.zone .refl _ _ rfl).ok _
    · exact Changes.refuse .refl _ _

theorem goes_tripTaken (s : State) : Goes .tripTaken s := by
  refine ⟨_, rfl, ?_⟩
  repeat' split
  · exact .refl
  · exact Changes.popRx .refl
  · exact ((Changes.popRx .refl).moves (State.takeEpoch_moves _ _ _)).finish _
  · exact Changes.popRx .refl

theorem goes_tripHoldExpiry (z : Zone) (s : State) : Goes (.tripHoldExpiry z) s := by
  refine ⟨_, rfl, ?_⟩
  split
  · split
    · exact ((Changes.zone .refl z _ rfl).moves (State.judgeHold_moves _ z)).finish _
    · exact .refl
  · exact .refl
  · exact .refl

/-! ### Demands and passes -/

theorem goes_setDemand (zone target : Word) (s : State) : Goes (.setDemand zone target) s := by
  refine .request 3 [zone, target] _ rfl fun _ => ?_
  split
  · exact Changes.refuse .refl _ _
  · split
    · exact Changes.refuse .refl _ _
    · exact (((Changes.takeDemand .refl _ _).moves (State.offerDemand_moves _ _)).reply _ _ _ _).finish _

theorem goes_demandTaken (s : State) : Goes .demandTaken s := by
  refine ⟨_, rfl, ?_⟩
  repeat' split
  · exact .refl
  · exact Changes.popRx .refl
  · exact ((Changes.popRx .refl).adoptDemand _ _).finish _

theorem goes_demandSlewStep (z : Zone) (s : State) : Goes (.demandSlewStep z) s := by
  refine ⟨_, rfl, ?_⟩
  split
  · split
    · exact Changes.demand .refl z _
    · exact .refl
  · exact .refl

theorem goes_passPeriod (z : Zone) (s : State) : Goes (.passPeriod z) s :=
  .guarded _ rfl fun _ => (Changes.firing .refl z _).moves (State.triggerPass_moves _ z)

theorem goes_passCompletion (z : Zone) (s : State) : Goes (.passCompletion z) s := by
  refine ⟨_, rfl, ?_⟩
  split
  · exact .refl
  · exact (Changes.moves .refl (s.completePass_moves z)).finish _

theorem goes_blowThroughExpiry (d : Chan) (s : State) : Goes (.blowThroughExpiry d) s := by
  refine ⟨_, rfl, ?_⟩
  split
  · split
    · exact ((Changes.moves .refl (s.reg_moves d _)).cond _ _ _).finish _
    · exact .refl
  · exact .refl

/-! ### Alarms -/

theorem goes_ackAlarm (origin id seq : Word) (s : State) : Goes (.ackAlarm origin id seq) s :=
  .request 11 [origin, id, seq] _ rfl fun _ => ((ackJudge_changes _ _ _).replyOr _ _).finish _

theorem goes_ackTaken (s : State) : Goes .ackTaken s := by
  refine ⟨_, rfl, ?_⟩
  repeat' split
  · exact .refl
  · exact ((Changes.popRx .refl).step (.acknowledge _ _ _)).finish _
  · exact Changes.popRx .refl

theorem goes_shelve (id minutes : Word) (s : State) : Goes (.shelve id minutes) s := by
  refine .request 12 [id, minutes] _ rfl fun _ => ?_
  split
  · exact Changes.refuse .refl _ _
  split
  · exact Changes.refuse .refl _ _
  split
  · exact Changes.refuse .refl _ _
  · exact ((Changes.step .refl (.shelve s _ _ _ ‹_›)).reply _ _ _ _).finish _

theorem goes_unshelve (id : Word) (s : State) : Goes (.unshelve id) s := by
  refine .request 13 [id] _ rfl fun _ => ?_
  split
  · exact Changes.refuse .refl _ _
  split
  · exact Changes.refuse .refl _ _
  split
  · exact ((Changes.step .refl (.endShelve s _ _ ‹_›)).ok _).finish _
  · exact Changes.refuse .refl _ _

theorem goes_shelveExpiry (id : AlarmId) (s : State) : Goes (.shelveExpiry id) s := by
  refine ⟨_, rfl, ?_⟩
  split
  · exact .refl
  · split
    · exact (Changes.step .refl (.endShelve s _ _ ‹_›)).finish _
    · exact .refl

theorem goes_alertTaken (s : State) : Goes .alertTaken s := by
  refine ⟨_, rfl, ?_⟩
  repeat' split
  · exact .refl
  · exact Changes.popRx .refl
  · exact Changes.popRx .refl
  · exact (Changes.popRx .refl).step (.view (takeRemoved_form _ _ _ _) fun p => takeRemoved_viewSound p _ _ _)
  · exact (Changes.popRx .refl).step (.view (takeReport_form _ _ _ _ _ _) fun p => takeReport_viewSound p _ _ _ _ _)

/-! ### Shifts -/

theorem goes_shiftBoundary (s : State) : Goes .shiftBoundary s := by
  refine ⟨_, rfl, ?_⟩
  split
  · split
    · exact ((Changes.storeSame .refl _ rfl rfl rfl rfl).clockClose _).finish _
    · exact .refl
  · exact .refl

theorem goes_crystalCheckPass (s : State) : Goes .crystalCheckPass s := by
  refine ⟨_, rfl, ?_⟩
  split
  · exact .refl
  · exact (Changes.clockCond (Changes.storeSame .refl _ rfl rfl rfl rfl)).finish _

theorem goes_crystalCheckFail (s : State) : Goes .crystalCheckFail s :=
  .guarded _ rfl fun _ => (Changes.clockCond (Changes.storeSame .refl _ rfl rfl rfl rfl)).finish _

theorem setTime_shiftSound (day : Word) {sec : Nat} (hs : sec < 86400) (h : s.ShiftSound) :
    (s.mapSr fun r => r.setTime day sec).ShiftSound := by
  obtain ⟨-, trips, ring, summary⟩ := (shiftSound_iff s).mp h
  exact (shiftSound_iff _).mpr ⟨hs, trips, ring, summary⟩

theorem goes_setTime (day high low : Word) (s : State) : Goes (.setTime day high low) s := by
  refine .request 14 [day, high, low] _ rfl fun _ => ?_
  dsimp only
  split
  · exact Changes.refuse .refl _ _
  · split
    · refine (Changes.ok (Changes.clockCond ((Changes.timeSetClose .refl _).store _ ?_)) _).finish _
      exact setTime_shiftSound day (by omega)
    · exact .refl

theorem goes_shiftTaken (s : State) : Goes .shiftTaken s := by
  refine ⟨_, rfl, ?_⟩
  repeat' split
  · exact .refl
  · exact Changes.popRx .refl
  · exact (((Changes.popRx .refl).peerClose _).fileShift _).finish _

/-! ### The station port -/

theorem goes_transactionStart (s : State) : Goes .transactionStart s := by
  refine .guarded _ rfl fun _ => ?_
  split <;> exact Change.one (.port _ _)

theorem goes_transactionEnd (words : List Word) (cut : Bool) (s : State) : Goes (.transactionEnd words cut) s := by
  refine ⟨_, rfl, ?_⟩
  have idle : Changes (.transactionEnd words cut) s s (s.mapSp fun p => { p with txn := .idle, out := [] }) :=
    Change.one (.port _ _)
  dsimp only
  split
  · unfold State.takeRequest
    dsimp only
    repeat' split
    · exact idle.step (.port _ _)
    · exact idle
    · exact idle.step (.port _ _)
    · exact idle.step (.port _ _)
    · exact idle.refuse _ _
  · exact idle

theorem goes_loadConfig (words : List Word) (s : State) : Goes (.loadConfig words) s := by
  refine .read 1 words _ rfl ?_
  split
  · exact Changes.refuse .refl _ _
  rename_i off
  split
  · exact Changes.refuse .refl _ _
  · refine Changes.reply (Changes.moves (Changes.step (Changes.storeSame (Change.one (.port s _)) _ rfl rfl rfl rfl)
      (.load _ _ ⟨words, rfl⟩ (not_not.mp off))) (startingActs_moves _)) _ _ _ _

theorem goes_readChannel (channel : Word) (s : State) : Goes (.readChannel channel) s := by
  refine .read 16 [channel] _ rfl ?_
  repeat' split
  all_goals exact Changes.reply .refl _ _ _ _

theorem goes_readRun (collection slot start count : Word) (s : State) : Goes (.readRun collection slot start count) s := by
  refine .read 19 [collection, slot, start, count] _ rfl ?_
  repeat' split
  all_goals exact Changes.reply .refl _ _ _ _

/-- Every command of the table answers a next state, by changes that it may make. -/
theorem exec_goes (c : Instr) (s : State) : Goes c s := by
  cases c with
  | powerOnReset => exact ⟨_, rfl, Change.one (.powerOn s rfl)⟩
  | resetNAssertion => exact goes_resetNAssertion s
  | resetNRelease => exact ⟨_, rfl, Change.one (.resetHeld s false)⟩
  | stationReset => exact goes_stationReset s
  | deferralExpiry => exact goes_deferralExpiry s
  | lineYield => exact goes_yield s
  | collision => exact goes_collision s
  | transmitCompletion => exact goes_transmitCompletion s
  | receiveFrame bytes oddBits => exact goes_receiveFrame bytes oddBits s
  | lineDegradedExpiry => exact .guarded _ rfl fun _ => (Changes.cond .refl _ _ _).finish _
  | duplicateStationExpiry => exact .guarded _ rfl fun _ => (Changes.cond .refl _ _ _).finish _
  | lineIsolationTimeout => exact goes_lineIsolationTimeout s
  | periodicSnapOffer => exact .guarded _ rfl fun _ => Changes.moves .refl s.offerSnap_moves
  | changeSnapOffer => exact .guarded _ rfl fun _ => Changes.moves .refl s.offerSnap_moves
  | snapTaken => exact goes_snapTaken s
  | staleTimeout n => exact goes_staleTimeout n s
  | expiredTimeout n => exact goes_expiredTimeout n s
  | absentPeerTimeout n => exact .guarded _ rfl fun _ => (Changes.cond .refl _ _ _).finish _
  | listenEnd => exact goes_listenEnd s
  | fieldRecordFail received gap => exact goes_fieldRecordFail received gap s
  | sampleRecord source quantity value quality elapsed => exact goes_sampleRecord source quantity value quality elapsed s
  | sampleHoldExpiry p =>
    exact .guarded _ rfl fun _ => ((Changes.point .refl p _).moves (State.samplePointCond_moves _ p)).finish _
  | fieldPortSilent => exact goes_fieldPortSilent s
  | commandSend => exact ⟨_, rfl, changes_of_moves State.pump_moves⟩
  | actuatorReply channel tag code => exact goes_actuatorReply channel tag code s
  | replyWindowExpiry d => exact .guarded _ rfl fun _ => (Changes.moves .refl (s.attemptFailed_moves d)).finish _
  | actuatorSlowExpiry d =>
    exact .guarded _ rfl fun _ =>
      ((Changes.chan .refl d (fun ch => { ch with slowSince := none }) fun _ hx => hx).cond _ _ _).finish _
  | rampStep d => exact goes_rampStep d s
  | unlockedClockExpiry d => exact goes_unlockedClockExpiry d s
  | acquiringClockExpiry d => exact goes_acquiringClockExpiry d s
  | channelStart channel => exact goes_channelStart channel s
  | channelStop channel => exact goes_channelStop channel s
  | resetTrip channel => exact goes_resetTrip channel s
  | releaseLockout channel => exact goes_releaseLockout channel s
  | fanStartClockExpiry d => exact .guarded _ rfl fun _ => (Changes.moves .refl (s.faultFan_moves d)).finish _
  | fanLowFlowExpiry d => exact .guarded _ rfl fun _ => (Changes.moves .refl (s.faultFan_moves d)).finish _
  | zonePurge zone => exact goes_zonePurge zone s
  | purgeTimerExpiry z => exact goes_purgeTimerExpiry z s
  | readyWindowExpiry z => exact goes_readyWindowExpiry z s
  | provingWindowExpiry d => exact .guarded _ rfl fun _ => (Changes.moves .refl (s.tripChannel_moves d _)).finish _
  | flameFailureExpiry z => exact goes_flameFailureExpiry z s
  | flickerExpiry z => exact .guarded _ rfl fun _ => (Changes.cond .refl _ _ _).finish _
  | airFailureExpiry z => exact goes_airFailureExpiry z s
  | esdAssertion => exact goes_esdAssertion s
  | esdRelease => exact ⟨_, rfl, Change.one (.esd s false (.inl rfl))⟩
  | zoneTrip zone => exact goes_zoneTrip zone s
  | zoneReset zone => exact goes_zoneReset zone s
  | tripTaken => exact goes_tripTaken s
  | tripHoldExpiry z => exact goes_tripHoldExpiry z s
  | setDemand zone target => exact goes_setDemand zone target s
  | demandTaken => exact goes_demandTaken s
  | demandSlewStep z => exact goes_demandSlewStep z s
  | passPeriod z => exact goes_passPeriod z s
  | passCompletion z => exact goes_passCompletion z s
  | demandUnreachableExpiry z =>
    exact .guarded _ rfl fun _ => ((Changes.firing .refl z _).cond _ _ _).finish _
  | blowThroughExpiry d => exact goes_blowThroughExpiry d s
  | clinkerTempHighExpiry => exact .guarded _ rfl fun _ => ((Changes.cooler .refl _).cond _ _ _).finish _
  | ackAlarm origin id seq => exact goes_ackAlarm origin id seq s
  | ackTaken => exact goes_ackTaken s
  | shelve id minutes => exact goes_shelve id minutes s
  | unshelve id => exact goes_unshelve id s
  | shelveExpiry id => exact goes_shelveExpiry id s
  | alertTaken => exact goes_alertTaken s
  | timeBaseTick => exact ⟨_, rfl, Changes.store .refl _ fun p => tick_shiftSound p s.config⟩
  | shiftBoundary => exact goes_shiftBoundary s
  | crystalCheckPass => exact goes_crystalCheckPass s
  | crystalCheckFail => exact goes_crystalCheckFail s
  | runningSecond d => exact .guarded _ rfl fun _ => Changes.acct .refl d _
  | setTime day high low => exact goes_setTime day high low s
  | shiftTaken => exact goes_shiftTaken s
  | transactionStart => exact goes_transactionStart s
  | answerDelivered => exact .guarded _ rfl fun _ => Change.one (.port _ _)
  | transactionEnd words cut => exact goes_transactionEnd words cut s
  | loadConfig words => exact goes_loadConfig words s
  | readConfig => exact .read 2 [] _ rfl (by split <;> exact Changes.reply .refl _ _ _ _)
  | readStatus => exact .read 15 [] _ rfl (Changes.step (Changes.reply .refl _ _ _ _) (.port _ _))
  | readChannel channel => exact goes_readChannel channel s
  | readZone zone => exact .read 17 [zone] _ rfl (by split <;> exact Changes.reply .refl _ _ _ _)
  | readPeer station => exact .read 18 [station] _ rfl (by repeat' split
                                                           all_goals exact Changes.reply .refl _ _ _ _)
  | readRun collection slot start count => exact goes_readRun collection slot start count s
  | readLineStats => exact .read 20 [] _ rfl (Changes.reply .refl _ _ _ _)

end Sys2Proof.Proofs
end

section
/-! PROOF. What every command keeps: the line's queues, the own alarm list, the stores, the firing's safety, the queue of
commands, and the ladder of a record's freshness. -/

namespace Sys2Proof.Proofs

open Sys2Proof.Machine

variable {c : Instr} {s t : State}

/-- A command's effect is a sequence of changes. -/
theorem exec_changes (h : exec c s = .next t) : Changes c s s t := by
  obtain ⟨u, hu, m⟩ := exec_goes c s
  rw [hu] at h
  cases h
  exact m

/-- A step idles, or takes the command at the front of the queue. -/
theorem step_cases (h : step s = .next t) :
    t = idle s ∨ ∃ c rest, s.pending = c :: rest ∧ exec c { s with pending := rest } = .next t := by
  unfold step at h
  split at h
  · cases h
    exact .inl rfl
  · exact .inr ⟨_, _, ‹_›, h⟩

/-- What holds across an idle step, does not read the queue of commands and is kept by each change, each step keeps. -/
theorem step_keeps (P : State → Prop) (waits : ∀ x, P x → P (idle x)) (queue : ∀ x l, P x → P { x with pending := l })
    (change : ∀ c b x y, Change c b x y → P x → P y) (h : step s = .next t) (p : P s) : P t := by
  obtain rfl | ⟨c, rest, -, h⟩ := step_cases h
  · exact waits s p
  · exact (exec_changes h).keep P (change c _) (queue s rest p)

/-- Settles O57: every elementary change keeps the queues sound. -/
theorem lineSoundKept : Obligations.LineSoundKept := by
  intro s t mode line h
  exact step_keeps (fun x => x.ModeSound ∧ x.LineSound) (fun _ p => p) (fun _ _ p => p)
    (fun c b x y g p => ⟨g.modeSound p.1, g.lineSound p.2⟩) h ⟨mode, line⟩

/-- Settles O58: every elementary change keeps the own alarm list sound. -/
theorem alarmSoundKept : Obligations.AlarmSoundKept := by
  intro s t _ alarms h
  exact step_keeps State.AlarmSound (fun _ p => p) (fun _ _ p => p) (fun c b x y g p => g.alarmSound p) h alarms

/-- Settles O59: every elementary change keeps the floor view and the shift store sound. -/
theorem storesSoundKept : Obligations.StoresSoundKept := by
  intro s t view shift h
  exact step_keeps (fun x => x.ViewSound ∧ x.ShiftSound) (fun _ p => p) (fun _ _ p => p)
    (fun c b x y g p => g.storesSound p.1 p.2) h ⟨view, shift⟩

/-! ### ESD_N -/

theorem offerTrip_config (s : State) (m : TripMsg) : (s.offerTrip m).config = s.config := by
  obtain ⟨d, ts, l, h⟩ := s.offerTrip_plant m
  change (s.offerTrip m).plant.config = s.plant.config
  rw [h]

/-- The cause entry of a local trip. -/
def localEntry (s : State) (z : Zone) (cause : ZoneCause) (ch : Option Chan) (v : Option Nat) : CauseEntry :=
  ⟨cause, s.ownStation, ch, none, s.stamp, nextEpoch (s.zone z).epoch, v⟩

theorem localTrip_eq (s : State) (z : Zone) (cause : ZoneCause) (ch : Option Chan) (v : Option Nat) :
    s.localTrip z cause ch v = (((s.tripSteps z (localEntry s z cause ch v)).offerTrip
      ⟨z, nextEpoch (s.zone z).epoch, cause, ch⟩).setZone z .tripped).countZoneTrip := rfl

theorem countZoneTrip_zone (s : State) (y : Zone) : s.countZoneTrip.zone y = s.zone y := rfl

theorem countZoneTrip_config (s : State) : s.countZoneTrip.config = s.config := rfl

/-- A local trip brings its zone to TRIPPED, and leaves the states of the others. -/
theorem localTrip_state (s : State) (z : Zone) (cause : ZoneCause) (ch : Option Chan) (v : Option Nat) (y : Zone) :
    ((s.localTrip z cause ch v).zone y).state = if y = z then .tripped else (s.zone y).state := by
  rw [localTrip_eq, countZoneTrip_zone, State.setZone_state, offerTrip_zone,
    (State.tripSteps_moves (e := false) s z _).state_false]

theorem localTrip_config (s : State) (z : Zone) (cause : ZoneCause) (ch : Option Chan) (v : Option Nat) :
    (s.localTrip z cause ch v).config = s.config := by
  rw [localTrip_eq, countZoneTrip_config, State.config_of_still (State.setZone_still _ _ _), offerTrip_config,
    State.config_of_still (State.tripSteps_moves (e := false) s z _).still_false]

theorem participates_of_config (h : t.config = s.config) (z : Zone) : t.participates z = s.participates z := by
  simp only [State.participates, State.hasScanner, h]
  congr 1
  exact congrArg (allChans.any ·) (funext fun d => by simp only [State.chanInZone, State.chanCfg, h])

/-- The trip that an assertion of ESD_N makes of a zone. -/
def esdTrip (s : State) (z : Zone) : State :=
  if s.participates z && (s.zone z).state.trippable then s.localTrip z .tripInput none none else s

theorem esdTrip_config (s : State) (z : Zone) : (esdTrip s z).config = s.config := by
  unfold esdTrip
  split
  · exact localTrip_config _ _ _ _ _
  · rfl

/-- The trip leaves its zone out of PURGING, READY and LIT if the zone participates, and brings no other there. -/
theorem esdTrip_active (s : State) (z y : Zone) (h : (esdTrip s z).active y) :
    s.active y ∧ (y = z → s.participates z = false) := by
  unfold esdTrip at h
  split at h
  · unfold State.active at h
    rw [localTrip_state] at h
    split at h
    · cases h
    · exact ⟨h, fun e => absurd e ‹_›⟩
  · rename_i stays
    refine ⟨h, fun e => ?_⟩
    subst e
    rw [Bool.and_eq_true, not_and] at stays
    exact Bool.eq_false_iff.mpr fun part => stays part h

theorem esdTrips_active (l : List Zone) (s : State) (y : Zone) (h : (l.foldl esdTrip s).active y) :
    s.active y ∧ (y ∈ l → s.participates y = false) := by
  induction l generalizing s with
  | nil => exact ⟨h, fun hy => by cases hy⟩
  | cons z l ih =>
    obtain ⟨active, others⟩ := ih _ h
    obtain ⟨before, own⟩ := esdTrip_active s z y active
    refine ⟨before, fun hy => ?_⟩
    obtain rfl | hl := List.mem_cons.mp hy
    · exact own rfl
    · rw [← participates_of_config (esdTrip_config s z)]
      exact others hl

theorem mem_allZones (y : Zone) : y ∈ allZones := by
  decide +revert

/-- An assertion of ESD_N trips each participating zone in PURGING, READY or LIT, and the others are in none of these
states. -/
theorem esdAssertion_quiet (zones : ZonesDecided s) (quiet : EsdQuiet s) (h : exec .esdAssertion s = .next t) :
    EsdQuiet t := by
  have off : ∀ y, s.active y → s.decides = true ∧ s.participates y = true := fun y hy =>
    zones y fun dark => by rw [State.active, dark] at hy; cases hy
  change Host.Outcome.next _ = _ at h
  cases h
  dsimp only
  split
  · exact quiet
  split
  · refine moves_esdQuiet (finish_moves _ _) fun _ y active => ?_
    obtain ⟨before, tripped⟩ := esdTrips_active allZones { s with esd := true } y active
    have part : s.participates y = false := tripped (mem_allZones y)
    rw [(off y before).2] at part
    cases part
  · rename_i listens
    exact fun _ y active => listens (off y active).1

theorem fires_trippable {z : ZoneState} (h : z.firesFuel = true) : z.trippable = true := by
  cases z <;> simp_all [ZoneState.firesFuel, ZoneState.trippable]

/-- A SHUT line is released only in READY or LIT, so with no zone there every SHUT line is asserted. -/
theorem shut_of_quiet (quiet : EsdQuiet s) (shut : s.ShutSound) (h : s.esd = true) (d : Chan) :
    (s.chan d).shutReleased = false := by
  by_contra released
  obtain ⟨f, -, fires⟩ := shut d (Bool.eq_true_of_not_eq_false released)
  refine quiet h f.zone ?_
  exact fires_trippable fires

/-- A command keeps the firing safe. -/
theorem exec_firingSafe (mode : s.ModeSound) (zones : ZonesDecided s) (quiet : EsdQuiet s) (shut : s.ShutSound)
    (h : exec c s = .next t) : ZonesDecided t ∧ EsdQuiet t ∧ t.ShutSound := by
  obtain ⟨-, zones', shut'⟩ := (exec_changes h).keep (fun x => x.ModeSound ∧ ZonesDecided x ∧ x.ShutSound)
    (fun x y g p => ⟨g.modeSound p.1, g.firingSafe p.1 p.2.1 p.2.2⟩) ⟨mode, zones, shut⟩
  refine ⟨zones', ?_, shut'⟩
  by_cases hc : c = .esdAssertion
  · subst hc
    exact esdAssertion_quiet zones quiet h
  · exact (exec_changes h).keep EsdQuiet (fun x y g => g.esdQuiet hc) quiet

/-- Settles O60: every elementary change keeps the zones and the SHUT lines, and an assertion of ESD_N trips what it
must. -/
theorem firingSafe : Obligations.FiringSafe := by
  intro s t mode zones shut h
  obtain rfl | ⟨c, rest, -, h⟩ := step_cases h
  · exact ⟨zones, shut, shut_of_quiet zones.2 shut⟩
  · obtain ⟨decided, quiet, shut'⟩ := exec_firingSafe (s := { s with pending := rest }) mode zones.1 zones.2 shut h
    exact ⟨⟨decided, quiet⟩, shut', shut_of_quiet quiet shut'⟩

/-! ### Every command, every state -/

/-- Settles O3: each elementary change leaves the queue of commands and the time. -/
theorem everyCommandGoesOn : Obligations.EveryCommandGoesOn := by
  intro c s
  obtain ⟨t, h, m⟩ := exec_goes c s
  exact ⟨t, h, m.queue⟩

/-- Settles O19: each elementary change moves a record only along the ladder. -/
theorem freshnessLadder : Obligations.FreshnessLadder := by
  intro c s t n h moved
  obtain same | may := (exec_changes h).fresh n
  · exact absurd same moved
  · obtain ⟨hc, x⟩ | ⟨hc, x, f⟩ | stale | expired := may
    · exact .inl ⟨hc, x⟩
    · exact .inr (.inl ⟨hc, x, f⟩)
    · exact .inr (.inr (.inl stale))
    · exact .inr (.inr (.inr expired))

end Sys2Proof.Proofs
end

section
/-! PROOF. The station port: what a request and a read do with the request in work, the operands' forms, the transactions,
the reads. -/

namespace Sys2Proof.Proofs

open Sys2Proof.Machine

variable {s : State}

/-! ### Requests -/

theorem working_iff (s : State) (code : Nat) (args : List Word) :
    s.working code args = true ↔ s.sp.buffer = .inWork (b8 code) args := by
  unfold State.working
  exact beq_iff_eq

/-- A request in work at a configured station is taken by its owner. -/
theorem request_served {code : Nat} {args : List Word} (h : s.serves code args) (owner : State → State) :
    s.request code args owner = owner s := by
  obtain ⟨work, mode⟩ := h
  unfold State.request
  rw [if_pos ((working_iff s code args).mpr work), if_neg mode]

/-- A request in work in UNCONFIGURED is refused. -/
theorem request_unconfigured {code : Nat} {args : List Word} (work : s.sp.buffer = .inWork (b8 code) args)
    (mode : s.pt.mode = .unconfigured) (owner : State → State) :
    s.request code args owner = s.refuse code .notConfigured := by
  unfold State.request
  rw [if_pos ((working_iff s code args).mpr work), if_pos mode]

/-- A read in work is taken by its owner in every mode. -/
theorem read_served {code : Nat} {args : List Word} (work : s.sp.buffer = .inWork (b8 code) args)
    (owner : State → State) : s.read code args owner = owner s := by
  unfold State.read
  rw [if_pos ((working_iff s code args).mpr work)]

/-! ### Operands -/

theorem chanOf_val {n : Nat} {c : Chan} (h : n = c.val) : chanOf n = some c := by
  subst h
  exact dif_pos c.isLt

theorem chanOf_above {n : Nat} (h : 8 ≤ n) : chanOf n = none := dif_neg (by omega)

theorem zoneOf_val {n : Nat} {z : Zone} (h : n = z.val) : zoneOf n = some z := by
  subst h
  exact dif_pos z.isLt

theorem zoneOf_above {n : Nat} (h : 4 ≤ n) : zoneOf n = none := dif_neg (by omega)

theorem alarmIdOf_val {n : Nat} {id : AlarmId} (h : n = id.val) : alarmIdOf n = some id := by
  subst h
  exact dif_pos id.isLt

theorem alarmIdOf_above {n : Nat} (h : 114 ≤ n) : alarmIdOf n = none := dif_neg (by omega)

theorem stationOf_number {n : Nat} {m : Station} (h : n = stationNumber m) : stationOf n = some m := by
  subst h
  unfold stationOf stationNumber
  rw [dif_pos ⟨by omega, by omega⟩]
  exact congrArg some (Fin.ext (by simp))

theorem stationOf_none {n : Nat} (h : n = 0 ∨ 17 ≤ n) : stationOf n = none := dif_neg (by omega)

/-! ### The step -/

/-- Settles O1. -/
theorem stepTakesFront : Obligations.StepTakesFront := by
  intro c rest s
  rfl

/-- Settles O2, by the branch of the step for an empty queue. -/
theorem stepIdles : Obligations.StepIdles := by
  intro s h
  unfold step
  split
  · rfl
  · rename_i front
    rw [h] at front
    cases front

/-! ### Transactions -/

theorem exec_transactionStart (h : s.sp.txn = .idle) : exec .transactionStart s = .next { s with sp := { s.sp with
    txn := (match s.sp.buffer with
      | .empty => .requesting
      | .inWork _ _ => .discarding
      | .ready _ => .answering)
    out := (match s.sp.buffer with
      | .empty => [0x0000]
      | .inWork _ _ => [0x0100]
      | .ready a => a.words) } } := by
  change execTransactionStart s = _
  unfold execTransactionStart
  rw [if_pos h]
  cases hb : s.sp.buffer <;> rfl

theorem exec_transactionEnd (h : s.sp.txn = .requesting) (ws : List Word) (cut : Bool) :
    exec (.transactionEnd ws cut) s
      = .next ((s.mapSp fun p => { p with txn := .idle, out := [] }).takeRequest ws cut) := by
  change execTransactionEnd ws cut s = _
  unfold execTransactionEnd
  rw [if_pos h]

/-- A request phase without a word: cut short, it is a port error. -/
theorem takeRequest_nil (s : State) (cut : Bool) : s.takeRequest [] cut
    = { s with sp := { s.sp with portErrors := if cut then satInc16 s.sp.portErrors else s.sp.portErrors } } := by
  cases cut <;> rfl

/-- A request phase shorter than its count is a port error. -/
theorem takeRequest_short {header : Word} {args : List Word} (h : args.length < (loByte header).toNat) (cut : Bool) :
    s.takeRequest (header :: args) cut = s.mapSp fun p => { p with portErrors := satInc16 p.portErrors } := by
  unfold State.takeRequest
  exact if_pos h

/-- A complete request with a code of the table is in work, with the words that its count gives. -/
theorem takeRequest_known {header : Word} {args : List Word} (h : (loByte header).toNat ≤ args.length)
    (known : requestArgs (hiByte header).toNat = some (loByte header).toNat) (cut : Bool) :
    s.takeRequest (header :: args) cut
      = s.mapSp fun p => { p with buffer := .inWork (hiByte header) (args.take (loByte header).toNat) } := by
  unfold State.takeRequest
  exact (if_neg (by omega)).trans (if_pos known)

theorem b8_toNat (x : Byte) : b8 x.toNat = x := by simp [b8]

/-- A complete request with another code or count is refused. -/
theorem takeRequest_unknown {header : Word} {args : List Word} (h : (loByte header).toNat ≤ args.length)
    (unknown : requestArgs (hiByte header).toNat ≠ some (loByte header).toNat) (cut : Bool) :
    s.takeRequest (header :: args) cut
      = s.mapSp fun p => { p with buffer := .ready ⟨hiByte header, .refused .badArgument, 0, []⟩ } := by
  have refused : s.takeRequest (header :: args) cut = s.refuse (hiByte header).toNat .badArgument := by
    unfold State.takeRequest
    exact (if_neg (by omega)).trans (if_neg unknown)
  rw [refused, State.refuse, State.reply, b8_toNat]

/-- Settles O52, request by request and case by case of the buffer and of the words. -/
theorem transactions : Obligations.Transactions := by
  refine ⟨?_, fun s h => exec_transactionStart h, fun p i => ⟨fun w hw => ?_, fun hi => ?_⟩, fun s h => ?_,
    fun s ws cut h => ?_, fun s ws cut h => ⟨?_, ?_⟩⟩
  · intro s x code args a b d mode work listed
    have refused : ∀ owner, s.request code args owner = s.refuse code .notConfigured :=
      request_unconfigured work mode
    simp only [List.mem_cons, Prod.mk.injEq, List.not_mem_nil, or_false] at listed
    rcases listed with ⟨rfl, rfl, rfl⟩ | ⟨rfl, rfl, rfl⟩ | ⟨rfl, rfl, rfl⟩ | ⟨rfl, rfl, rfl⟩ | ⟨rfl, rfl, rfl⟩
      | ⟨rfl, rfl, rfl⟩ | ⟨rfl, rfl, rfl⟩ | ⟨rfl, rfl, rfl⟩ | ⟨rfl, rfl, rfl⟩ | ⟨rfl, rfl, rfl⟩ | ⟨rfl, rfl, rfl⟩
      | ⟨rfl, rfl, rfl⟩ | ⟨rfl, rfl, rfl⟩ <;> exact congrArg Host.Outcome.next (refused _)
  · simp [StationPort.shiftsOut, List.getD_eq_getElem?_getD, hw]
  · simp [StationPort.shiftsOut, List.getD_eq_getElem?_getD, hi]
  · change execAnswerDelivered s = _
    unfold execAnswerDelivered
    rw [if_pos h]
    rfl
  · change execTransactionEnd ws cut s = _
    unfold execTransactionEnd
    rw [if_neg h]
    rfl
  · rintro rfl
    rw [exec_transactionEnd h, takeRequest_nil]
    rfl
  · rintro header args rfl
    rw [exec_transactionEnd h]
    refine ⟨fun short => ?_, fun whole known => ?_, fun whole unknown => ?_⟩
    · rw [takeRequest_short short]; rfl
    · rw [takeRequest_known whole known]; rfl
    · rw [takeRequest_unknown whole unknown]; rfl

/-! ### Reads -/

theorem optWords_length (n : Nat) (o : Option (List Word)) (h : ∀ ws, o = some ws → ws.length = n) :
    (optWords n o).length = n + 1 := by
  cases o with
  | none => simp [optWords]
  | some ws => simp [optWords, h ws rfl]

theorem optWord_length (o : Option Word) : (optWord o).length = 2 :=
  optWords_length 1 _ (by cases o <;> simp)

theorem stampWords_length (t : Stamp) : t.words.length = 3 := rfl

/-- The sixteen words of READ_STATUS: seven, the stamp, the clock-lost flag, the shift number and three more. -/
theorem statusWords_length (s : State) : s.statusWords.length = 16 := by
  simp [State.statusWords, stampWords_length, optWord_length]

theorem statusWords_last (s : State) : s.statusWords[15]? = some (w16 s.sp.portErrors) := by
  unfold State.statusWords
  rw [List.getElem?_append_right] <;> simp [stampWords_length, optWord_length]

theorem zoneCfgWords_length (z : ZoneCfg) : (zoneCfgWords z).length = 9 := rfl

theorem chanCfgWords_length (c : ChanCfg) : (chanCfgWords c).length = 14 := by
  cases c <;> rfl

/-- The 156 words: eight of the station, nine of each zone, fourteen of each channel. -/
theorem configWords_length (cfg : Config) : (configWords cfg).length = 156 := by
  have zones : (cfg.zones.toList.flatMap zoneCfgWords).length = 36 := by
    simp [List.length_flatMap, zoneCfgWords_length]
  have chans : (cfg.chans.toList.flatMap chanCfgWords).length = 112 := by
    simp [List.length_flatMap, chanCfgWords_length]
  simp [configWords, zones, chans]

theorem readConfig_some (work : s.sp.buffer = .inWork 2 []) {cfg : Config} (hc : s.config = some cfg) :
    exec .readConfig s = .next (s.okData 2 (configWords cfg)) := by
  change Host.Outcome.next (s.read 2 [] _) = _
  rw [read_served work, hc]

theorem readConfig_none (work : s.sp.buffer = .inWork 2 []) (hc : s.config = none) :
    exec .readConfig s = .next (s.okData 2 [0]) := by
  change Host.Outcome.next (s.read 2 [] _) = _
  rw [read_served work, hc]

theorem readChannel_eq {w : Word} (work : s.sp.buffer = .inWork 16 [w]) :
    exec (.readChannel w) s = .next (match chanOf w.toNat with
      | none => s.refuse 16 .badArgument
      | some c =>
        if s.pt.mode = .unconfigured then s.okData 16 [0, 0]
        else match s.chanCfg c with
          | .unused => s.refuse 16 .badArgument
          | .fuel _ => s.okData 16 (s.fuelWords c)
          | .fan f => s.okData 16 (s.fanWords c f)) :=
  congrArg Host.Outcome.next (read_served work _)

theorem readZone_eq {w : Word} (work : s.sp.buffer = .inWork 17 [w]) :
    exec (.readZone w) s = .next (match zoneOf w.toNat with
      | none => s.refuse 17 .badArgument
      | some z => s.okData 17 (s.zoneWords z)) := congrArg Host.Outcome.next (read_served work _)

theorem readPeer_eq {w : Word} (work : s.sp.buffer = .inWork 18 [w]) :
    exec (.readPeer w) s = .next (match stationOf w.toNat with
      | none => s.refuse 18 .badArgument
      | some n => if s.isOwn n then s.refuse 18 .badArgument else s.okData 18 (s.peerWords n)) :=
  congrArg Host.Outcome.next (read_served work _)

/-- Settles O55, read by read. -/
theorem readsAnswer : Obligations.ReadsAnswer := by
  refine ⟨fun s work => ⟨_, statusWords_length s, rfl, ?_, rfl, rfl, rfl, statusWords_last s⟩,
    fun s work => ⟨_, ?_, rfl, ?_⟩, fun s work => ⟨fun cfg hc => ⟨configWords_length cfg, ?_⟩, fun hc => ?_⟩,
    fun s w work => ⟨fun above => ?_, fun c hc => ⟨fun mode => ?_, fun mode => ⟨fun cfg => ?_, fun f cfg => ?_,
      fun f cfg => ?_⟩⟩⟩,
    fun s w work => ⟨fun above => ?_, fun z hz => ⟨?_, ?_⟩⟩,
    fun s w work => ⟨fun out => ?_, fun n hn => ⟨fun own => ?_, fun peer => ⟨?_, rfl⟩⟩⟩⟩
  · exact congrArg Host.Outcome.next (read_served work _)
  · rfl
  · exact congrArg Host.Outcome.next (read_served work _)
  · exact readConfig_some work hc
  · exact readConfig_none work hc
  · rw [readChannel_eq work, chanOf_above above]
  · rw [readChannel_eq work, chanOf_val hc]
    dsimp only
    rw [if_pos mode]
    rfl
  · rw [readChannel_eq work, chanOf_val hc]
    dsimp only
    rw [if_neg mode, cfg]
  · rw [readChannel_eq work, chanOf_val hc]
    dsimp only
    rw [if_neg mode, cfg]
    rfl
  · rw [readChannel_eq work, chanOf_val hc]
    dsimp only
    rw [if_neg mode, cfg]
    rfl
  · rw [readZone_eq work, zoneOf_above above]
  · rw [readZone_eq work, zoneOf_val hz]
    rfl
  · cases hk : (s.demand z).known <;> simp [State.zoneWords, State.demandRecordWords, hk] <;> rfl
  · rw [readPeer_eq work, stationOf_none out]
  · rw [readPeer_eq work, stationOf_number hn]
    dsimp only
    rw [if_pos own]
  · rw [readPeer_eq work, stationOf_number hn]
    dsimp only
    rw [if_neg (by simp [peer])]
    rfl

/-- READ_RUN of records from the start index on. -/
theorem readRun_eq {k slot start count : Word} (work : s.sp.buffer = .inWork 19 [k, slot, start, count]) :
    exec (.readRun k slot start count) s = .next (if count.toNat = 0 ∨ 16 < count.toNat then s.refuse 19 .badArgument
      else match s.collection k.toNat slot.toNat with
        | none => s.refuse 19 .badArgument
        | some records =>
          if records.length ≤ start.toNat then s.refuse 19 .ended
          else s.reply 19 .ok (w16 ((records.drop start.toNat).take count.toNat).length)
            ((records.drop start.toNat).take count.toNat).flatten) :=
  congrArg Host.Outcome.next (read_served work _)

/-- The numbers that name no collection, and a slot above 3. -/
theorem collection_none {k slot : Nat} (h : k = 0 ∨ 5 ≤ k ∨ (k = 4 ∧ 4 ≤ slot)) : s.collection k slot = none := by
  unfold State.collection
  split
  · omega
  · omega
  · omega
  · rw [if_pos (by omega)]
  · rfl

/-- Settles O56, by the branches of the read. -/
theorem runsRead : Obligations.RunsRead := by
  intro s k slot start count work
  rw [readRun_eq work]
  refine ⟨fun bad => ?_, fun one most records named => ?_⟩
  · by_cases range : count.toNat = 0 ∨ 16 < count.toNat
    · rw [if_pos range]
    · rw [if_neg range, collection_none (by omega)]
  · have held : s.collection k.toNat slot.toNat = some records := by
      obtain ⟨hk, rfl⟩ | ⟨hk, rfl⟩ | ⟨hk, rfl⟩ | ⟨hk, hs, rfl⟩ := named <;> rw [hk] <;> unfold State.collection
      · rfl
      · rfl
      · rfl
      · simp only
        rw [if_neg (by omega)]
        split <;> simp_all
    rw [if_neg (by omega), held]
    refine ⟨fun ended => congrArg _ (if_pos ended), fun more => (congrArg _ (if_neg (by omega))).trans ?_⟩
    rw [List.length_take, List.length_drop]
    rfl

end Sys2Proof.Proofs
end

section
/-! PROOF. Guards on the time, and the commands whose whole effect is one write of a condition or of the line. -/

namespace Sys2Proof.Proofs

open Sys2Proof.Machine

variable {s : State}

/-- A clock has run out. -/
theorem due_some (s : State) (d : Nat) : s.due (some d) = true ↔ d ≤ s.now := by
  simp [State.due]

theorem passed_iff (s : State) (t d : Nat) : s.passed t d = true ↔ t + d ≤ s.now := by
  simp [State.passed]

/-- A written condition of a configured station has the value written. -/
theorem setCond_same (on : s.configured = true) (id : AlarmId) (v : Bool) (x : Option Nat) :
    (s.setCond id v x).cond id = v := by
  rw [State.setCond_cond _ _ _ _ on, if_pos rfl]

/-- A guarded command acts, or leaves the state. -/
theorem guarded_acts {c : Instr} {p : Prop} [Decidable p] {t e : State} (h : exec c s = .next (if p then t else e))
    (hp : p) : exec c s = .next t := by rw [h, if_pos hp]

theorem guarded_idle {c : Instr} {p : Prop} [Decidable p] {t e : State} (h : exec c s = .next (if p then t else e))
    (hp : ¬ p) : exec c s = .next e := by rw [h, if_neg hp]

/-! ### The line waits (01 section 1.2) -/

theorem ownStation_some {cfg : Config} (h : s.config = some cfg) : s.ownStation = cfg.station := by
  simp [State.ownStation, h]

/-- The head of the queue is due once the quiet time has reached its deferral. -/
theorem headDue_iff {f : TxFrame} {rest : List TxFrame} {q : Nat} (tx : s.li.tx = f :: rest)
    (quiet : s.li.quietSince = some q) : s.headDue = true ↔ q + deferral f s.ownStation ≤ s.now := by
  simp [State.headDue, tx, quiet]

theorem startSend_cons {li : LineIf} {f : TxFrame} {rest : List TxFrame} (tx : li.tx = f :: rest) :
    li.startSend = { li with tx := { f with inSend := true } :: rest, quietSince := none } := by
  simp [LineIf.startSend, tx]

/-- Settles O7. -/
theorem lineWaits : Obligations.LineWaits := by
  refine ⟨fun s cfg f rest q config mode tx idle quiet => ?_, fun s idle => ?_⟩
  · change execDeferralExpiry s = _
    have waits : deferral f s.ownStation = 20 + 4 * (f.cls.code * 16 + cfg.station.val + 8 * min f.collisions 7) := by
      rw [ownStation_some config]
      rfl
    have guard : (!(s.pt.mode == .unconfigured) && !s.li.sending && s.headDue) = true
        ↔ q + 20 + 4 * (f.cls.code * 16 + cfg.station.val + 8 * min f.collisions 7) ≤ s.now := by
      simp only [Bool.and_eq_true, headDue_iff tx quiet, LineIf.sending, idle, waits]
      simp [mode, Nat.add_assoc]
    unfold execDeferralExpiry
    refine congrArg Host.Outcome.next ?_
    by_cases due : q + 20 + 4 * (f.cls.code * 16 + cfg.station.val + 8 * min f.collisions 7) ≤ s.now
    · rw [if_pos due, if_pos (guard.mpr due), State.mapLi, startSend_cons tx]
    · rw [if_neg due, if_neg (fun h => due (guard.mp h))]
  · change execYield s = _
    unfold execYield
    rw [if_neg (by simp [LineIf.sending, idle])]
    rfl

/-! ### Conditions that end by a clock -/

/-- Settles O14, clock by clock. -/
theorem conditionsEnd : Obligations.ConditionsEnd := by
  refine ⟨⟨fun s d on held last => ?_, fun s d on held last => ?_⟩, fun s c d on since => ?_⟩
  · have guard : (s.cond idLineDegraded && s.due (s.li.lastDegrading.map fun t => t + seconds 60)) = true
        ↔ d + 15000000 ≤ s.now := by
      rw [held, last, Bool.true_and]
      exact due_some s _
    split
    · exact ⟨_, congrArg Host.Outcome.next (if_pos (guard.mpr ‹_›)), setCond_same (by exact on) _ _ _,
        State.setCond_plant _ _ _ _⟩
    · exact congrArg Host.Outcome.next (if_neg fun h => ‹¬ _› (guard.mp h))
  · have guard : (s.cond idDuplicateStation && s.due (s.li.lastDuplicate.map fun t => t + seconds 30)) = true
        ↔ d + 7500000 ≤ s.now := by
      rw [held, last, Bool.true_and]
      exact due_some s _
    split
    · exact ⟨_, congrArg Host.Outcome.next (if_pos (guard.mpr ‹_›)), setCond_same (by exact on) _ _ _,
        State.setCond_plant _ _ _ _⟩
    · exact congrArg Host.Outcome.next (if_neg fun h => ‹¬ _› (guard.mp h))
  · have guard : s.due ((s.chan c).slowSince.map fun t => t + seconds 60) = true ↔ d + 15000000 ≤ s.now := by
      rw [since]
      exact due_some s _
    have acts : exec (.actuatorSlowExpiry c) s = .next
        (if s.due ((s.chan c).slowSince.map fun t => t + seconds 60) then
          finish s ((s.mapChan c fun ch => { ch with slowSince := none }).setCond (idActuatorSlow c) false none)
        else s) := rfl
    split
    · exact ⟨_, guarded_acts acts (guard.mpr ‹_›), setCond_same (by exact on) _ _ _, State.setCond_plant _ _ _ _⟩
    · exact guarded_idle acts fun h => ‹¬ _› (guard.mp h)

/-! ### The cooler's clocks (06 sections 6.4, 6.5) -/

theorem isCooler_some {c : Chan} {f : FanCfg} (h : s.fan? c = some f) : s.isCooler c = decide (f.role = .cooler) := by
  have role : s.isCooler c = (f.role == .cooler) := by
    unfold State.isCooler
    rw [h]
  rw [role]
  cases f.role <;> rfl

/-- Settles O43, clock by clock. -/
theorem coolerClocks : Obligations.CoolerClocks := by
  refine ⟨fun s c f d on fan clock => ?_, fun s d on clock => ?_⟩
  · have guard : s.due (s.reg c).blowClock = true ↔ d ≤ s.now := by
      rw [clock]
      exact due_some s d
    have acts : exec (.blowThroughExpiry c) s = .next (if s.due (s.reg c).blowClock then
        finish s ((s.mapReg c fun r => { r with blowClock := none, frozen := s.isCooler c }).setCond (idBedLow c)
          true (some ((s.chan c).bedPt.pressure f.pRef)))
      else s) := by
      change execBlowThroughExpiry c s = _
      unfold execBlowThroughExpiry
      rw [fan]
    split
    · refine ⟨_, guarded_acts acts (guard.mpr ‹_›), setCond_same (by exact on) _ _ _, ?_, ?_, fun b hb => ?_, ?_, ?_⟩
      · rw [setCond_reg, State.mapReg_reg_same, isCooler_some fan]
      · rw [setCond_reg, State.mapReg_reg_same]
      · rw [setCond_reg, State.mapReg_reg_other _ _ (Ne.symm hb)]
      · exact setCond_ce _ _ _ _
      · exact (State.still_of_plant (State.setCond_plant _ _ _ _)).trans rfl
    · exact guarded_idle acts fun h => ‹¬ _› (guard.mp h)
  · have guard : s.due s.cr.highClock = true ↔ d ≤ s.now := by
      rw [clock]
      exact due_some s d
    have acts : exec .clinkerTempHighExpiry s = .next (if s.due s.cr.highClock then
        finish s ((s.mapCr fun r => { r with highClock := none }).setCond idClinkerHigh true s.tOut)
      else s) := rfl
    split
    · exact ⟨_, guarded_acts acts (guard.mpr ‹_›), setCond_same (by exact on) _ _ _, setCond_cr _ _ _ _,
        setCond_ce _ _ _ _, (State.still_of_plant (State.setCond_plant _ _ _ _)).trans rfl⟩
    · exact guarded_idle acts fun h => ‹¬ _› (guard.mp h)

end Sys2Proof.Proofs
end

section
/-! PROOF. What the two resets leave, block by block (10 R196): the values that a power-on gives, and what a station reset
keeps, with and without a configuration. -/

namespace Sys2Proof.Proofs

open Sys2Proof.Machine

variable {s t : State}

/-! ### The power-on values -/

section

variable (d : Chan) (z : Zone) (id : AlarmId)

theorem reset_chan : State.reset.chan d = Channel.initial := Vector.getElem_replicate d.isLt
theorem reset_zone : State.reset.zone z = ZoneRec.initial := Vector.getElem_replicate z.isLt
theorem reset_demand : State.reset.demand z = DemandRecord.initial := Vector.getElem_replicate z.isLt
theorem reset_firing : State.reset.firing z = Firing.initial := Vector.getElem_replicate z.isLt
theorem reset_reg : State.reset.reg d = Regulator.initial := Vector.getElem_replicate d.isLt
theorem reset_alarm : State.reset.alarm id = AlarmRec.initial := initial_alarm id
theorem reset_cond : State.reset.cond id = false := by rw [State.cond, reset_alarm]; rfl
theorem reset_seqs (k : Fin 6) : LineIf.initial.seqs.get k = 0 := Vector.getElem_replicate k.isLt

end

/-- The invariants hold after a power-on reset. -/
theorem reset_sound : State.reset.ModeSound ∧ State.reset.LineSound ∧ State.reset.AlarmSound ∧ State.reset.ViewSound
    ∧ State.reset.ShiftSound ∧ State.reset.ZoneSound ∧ State.reset.ShutSound := by
  obtain ⟨decided, shut⟩ : ZonesDecided State.reset ∧ State.reset.ShutSound :=
    firingSafe_dark (fun z => by rw [reset_zone]; rfl) fun d => by rw [reset_chan]; rfl
  refine ⟨⟨fun _ => rfl, fun _ => rfl⟩, ?_, ?_, ⟨?_, ?_, ?_⟩, ?_, ⟨decided, ?_⟩, shut⟩
  · exact (lineSound_iff _).mpr ⟨txSound_nil, Nat.zero_le _, fun _ => ⟨rfl, rfl⟩⟩
  · exact alarmSound_empty rfl reset_cond fun id => by rw [reset_alarm]; rfl
  · exact Nat.zero_le _
  · exact List.Pairwise.nil
  · intro full
    cases full
  · exact (shiftSound_iff _).mpr ⟨by decide, Nat.zero_le _, Nat.zero_le _, ⟨by simp [State.reset, ShiftStore.initial],
      by simp [State.reset, ShiftStore.initial], by simp [State.reset, ShiftStore.initial]⟩⟩
  · intro _ z active
    rw [State.active, reset_zone] at active
    cases active

/-- Settles O4. -/
theorem resetState : Obligations.ResetState := by
  refine ⟨⟨rfl, rfl, rfl, rfl, rfl, reset_seqs, rfl, rfl, rfl, rfl, rfl, fun c => ?_, fun z => ?_, fun z => ?_,
    fun c => ?_, fun id => ?_, rfl, rfl, rfl, rfl, rfl, rfl, rfl, rfl, rfl, rfl, rfl, rfl, rfl, rfl⟩, reset_sound⟩
  · rw [reset_chan]
    exact ⟨rfl, rfl, rfl, rfl, rfl, rfl, rfl⟩
  · rw [reset_zone]
    exact ⟨rfl, rfl, rfl, rfl⟩
  · rw [reset_demand, reset_firing]
    exact ⟨rfl, rfl, rfl, rfl⟩
  · rw [reset_reg]
    exact ⟨rfl, rfl⟩
  · rw [reset_cond, reset_alarm]
    exact ⟨rfl, rfl⟩

/-! ### The entry to STARTING -/

/-- Of a channel's record, what the commands at the entry to STARTING leave: all but its handshake. -/
def control (ch : Channel) : Channel :=
  { ch with inFlight := none, queued := none, feedDue := false, igniterOff := false, tagCtr := 0 }

/-- An IGNITER off changes nothing but the handshake. -/
theorem issuedRec_igniterOff (ch : Channel) : control (issuedRec ch (.igniter false)) = control ch := by
  unfold issuedRec
  split
  · simp [control, sentRec, Channel.proofSent]
  · unfold Channel.enqueue
    split <;> rfl

theorem startIgniter_control (s : State) (c d : Chan) : control ((s.startIgniter c).chan d) = control (s.chan d) := by
  unfold State.startIgniter
  split
  · split
    · by_cases h : d = c
      · subst h
        rw [issue_chan_same, issuedRec_igniterOff]
      · rw [(issue_chanMoves s c _).chan_other h]
    · rfl
  · rfl

theorem pump_chan_control (s : State) (d : Chan) : control (s.pump.chan d) = control (s.chan d) := by
  unfold State.pump
  split
  · rfl
  split
  · rfl
  · rename_i r rest _
    by_cases h : r.chan = d
    · subst h
      rw [State.mapChan_chan_same]
      rfl
    · rw [State.mapChan_chan_other _ _ h]
      rfl

/-- What a fold leaves. -/
theorem foldl_leaves {α β : Type} (P : State → β) (f : State → α → State) (h : ∀ s a, P (f s a) = P s) (l : List α)
    (s : State) : P (l.foldl f s) = P s := by
  induction l generalizing s with
  | nil => rfl
  | cons a l ih => exact (ih _).trans (h s a)

/-- The state with its conditions written and its SNAP offered, behind the IGNITER off commands. -/
def startingConds (s : State) : State :=
  ((allChans.foldl State.lockoutCond (allChans.foldl State.startIgniter s)).clockCond).offerSnap

theorem startingActs_eq (s : State) : startingActs s = (startingConds s).pump := rfl

theorem lockoutCond_plant (s : State) (c : Chan) : (s.lockoutCond c).plant = s.plant := State.setCond_plant _ _ _ _

theorem offerSnap_plant (s : State) : s.offerSnap.plant = s.plant :=
  (State.offer_plant _ (by decide) _ _ _).trans rfl

theorem startingConds_plant (s : State) :
    (startingConds s).plant = (allChans.foldl State.startIgniter s).plant := by
  unfold startingConds
  rw [offerSnap_plant, State.clockCond, State.setCond_plant]
  exact foldl_leaves State.plant _ lockoutCond_plant _ _

theorem startingActs_control (s : State) (d : Chan) : control ((startingActs s).chan d) = control (s.chan d) := by
  rw [startingActs_eq, pump_chan_control, chan_of_plant (startingConds_plant s)]
  exact foldl_leaves (fun x => control (x.chan d)) _ (fun x c => startIgniter_control x c d) _ _

/-- The plant beside the channel engine. -/
def besideCe (s : State) : State := { s.plant with ce := ChannelEngine.initial }

theorem besideCe_of_plant (h : t.plant = s.plant) : besideCe t = besideCe s := by
  rw [besideCe, h, besideCe]

theorem issue_besideCe (s : State) (c : Chan) (cmd : Cmd) : besideCe (s.issue c cmd) = besideCe s := by
  unfold State.issue
  split <;> rfl

theorem startIgniter_besideCe (s : State) (c : Chan) : besideCe (s.startIgniter c) = besideCe s := by
  unfold State.startIgniter
  split
  · split
    · exact issue_besideCe _ _ _
    · rfl
  · rfl

theorem pump_besideCe (s : State) : besideCe s.pump = besideCe s := by
  unfold State.pump
  split
  · rfl
  split <;> rfl

/-- The entry's commands, conditions and SNAP leave the plant beside CE. -/
theorem startingActs_besideCe (s : State) : besideCe (startingActs s) = besideCe s := by
  rw [startingActs_eq, pump_besideCe, besideCe_of_plant (startingConds_plant s)]
  exact foldl_leaves besideCe _ startIgniter_besideCe _ _

/-! ### What the entry leaves of the notices and the lists -/

theorem ListMove.configNeeded (h : ListMove s t) : t.sp.notices.configNeeded = s.sp.notices.configNeeded := by
  cases h with
  | list f => rfl
  | removal p => rfl
  | offer id =>
    obtain ⟨li, fa, al, sr, e⟩ := offer_form s .alert (s.alertMsg id).words 0 0
    rw [e]
  | notify k h =>
    cases k
    case configNeeded => exact absurd rfl h
    all_goals rfl

theorem setCond_configNeeded (s : State) (id : AlarmId) (v : Bool) (x : Option Nat) :
    (s.setCond id v x).sp.notices.configNeeded = s.sp.notices.configNeeded :=
  (setCond_listMoves s id v x).keep (fun y => y.sp.notices.configNeeded = s.sp.notices.configNeeded)
    (fun _ _ h p => h.configNeeded.trans p) rfl

theorem issue_sp (s : State) (c : Chan) (cmd : Cmd) : (s.issue c cmd).sp = s.sp := by
  unfold State.issue
  split <;> rfl

theorem startIgniter_sp (s : State) (c : Chan) : (s.startIgniter c).sp = s.sp := by
  unfold State.startIgniter
  split
  · split
    · exact issue_sp _ _ _
    · rfl
  · rfl

theorem pump_sp (s : State) : s.pump.sp = s.sp := by
  unfold State.pump
  split
  · rfl
  split <;> rfl

theorem pump_pt (s : State) : s.pump.pt = s.pt := by
  unfold State.pump
  split
  · rfl
  split <;> rfl

theorem offer_sp (s : State) (cls : FrameClass) (p : List Word) (r k : Nat) : (s.offer cls p r k).1.sp = s.sp := by
  obtain ⟨li, fa, al, sr, e⟩ := offer_form s cls p r k
  rw [e]

/-- The peer table at a SNAP offer (02 R21, R22). -/
def snapMarked (s : State) : State :=
  s.mapPt fun t => { t with
    rollIndex := s.snapIndex
    changeMark := false
    lastOffer := s.now
    published := s.publishedNow }

theorem offerSnap_eq (s : State) :
    s.offerSnap = ((snapMarked s).offer .snap s.snapMsg.words (s.snapIndex + 1) 0).1 := rfl

theorem offerSnap_sp (s : State) : s.offerSnap.sp = s.sp := by
  rw [offerSnap_eq, offer_sp]
  rfl

theorem startingActs_configNeeded (s : State) :
    (startingActs s).sp.notices.configNeeded = s.sp.notices.configNeeded := by
  rw [startingActs_eq, pump_sp, startingConds, offerSnap_sp, State.clockCond, setCond_configNeeded]
  refine (foldl_leaves (fun x => x.sp.notices.configNeeded) _ (fun x c => setCond_configNeeded x _ _ _) _ _).trans ?_
  exact foldl_leaves (fun x => x.sp.notices.configNeeded) _ (fun x c => by rw [startIgniter_sp]) _ _

theorem issue_form (s : State) (c : Chan) (cmd : Cmd) : ∃ ce, s.issue c cmd = { s with ce := ce } := by
  unfold State.issue
  split <;> exact ⟨_, rfl⟩

theorem startIgniters_form (l : List Chan) (s : State) : ∃ ce, l.foldl State.startIgniter s = { s with ce := ce } := by
  induction l generalizing s with
  | nil => exact ⟨_, rfl⟩
  | cons c l ih =>
    have one : ∃ ce, s.startIgniter c = { s with ce := ce } := by
      unfold State.startIgniter
      split
      · split
        · exact issue_form s c _
        · exact ⟨_, rfl⟩
      · exact ⟨_, rfl⟩
    obtain ⟨ce, e⟩ := one
    obtain ⟨ce', e'⟩ := ih (s.startIgniter c)
    exact ⟨ce', by rw [List.foldl_cons, e', e]⟩

/-- A roll-call index that stands at the list's front stays there. -/
theorem ListMove.rollIndex (h : ListMove s t) (zero : s.pt.rollIndex = 0) : t.pt.rollIndex = 0 := by
  cases h with
  | removal p => simp [State.rollRemoval, zero]
  | offer id => rw [offer_pt, zero]
  | _ => exact zero

theorem setCond_rollIndex (id : AlarmId) (v : Bool) (x : Option Nat) (zero : s.pt.rollIndex = 0) :
    (s.setCond id v x).pt.rollIndex = 0 :=
  (setCond_listMoves s id v x).keep (fun y => y.pt.rollIndex = 0) (fun _ _ h p => h.rollIndex p) zero

theorem startingActs_rollIndex (zero : s.pt.rollIndex = 0) : (startingActs s).pt.rollIndex = 0 := by
  have conds : ∀ (l : List Chan) (x : State), x.pt.rollIndex = 0 → (l.foldl State.lockoutCond x).pt.rollIndex = 0 := by
    intro l
    induction l with
    | nil => exact fun _ h => h
    | cons c l ih => exact fun x h => ih _ (setCond_rollIndex _ _ _ h)
  obtain ⟨ce, hce⟩ := startIgniters_form allChans s
  have before : (allChans.foldl State.lockoutCond (allChans.foldl State.startIgniter s)).clockCond.pt.rollIndex = 0 :=
    setCond_rollIndex _ _ _ (conds _ _ (by rw [hce]; exact zero))
  rw [startingActs_eq, pump_pt, startingConds, offerSnap_eq, offer_pt]
  change State.snapIndex _ = 0
  unfold State.snapIndex
  rw [before]
  split <;> rfl

/-- A write of the value that the condition has does nothing. -/
theorem setCond_idle {id : AlarmId} {v : Bool} (h : s.cond id = v) (x : Option Nat) : s.setCond id v x = s := by
  simp [State.setCond, h]

theorem foldl_idle {α : Type} (f : State → α → State) (s : State) (h : ∀ a, f s a = s) (l : List α) :
    l.foldl f s = s := by
  induction l with
  | nil => rfl
  | cons a l ih => rw [List.foldl_cons, h, ih]

/-- An offer to a queue with a place free writes LI alone. -/
theorem offer_room (free : s.li.tx.length < 12) (cls : FrameClass) (p : List Word) (r k : Nat) :
    ∃ li, (s.offer cls p r k).1 = { s with li := li } := by
  obtain ⟨h, -⟩ | ⟨-, -, ⟨-, h⟩ | ⟨-, -, ⟨-, h⟩ | ⟨full, -⟩⟩⟩ := offer_cases s cls p r k
  · exact ⟨_, h⟩
  · exact ⟨_, h⟩
  · exact ⟨_, h⟩
  · omega

/-- With no condition to write, the entry to STARTING leaves the alarm list. -/
theorem startingActs_al (idle : ∀ id, s.cond id = false) (free : s.li.tx.length < 12)
    (open_ : ∀ c, (s.chan c).state ≠ .lockedOut) (clock : s.sr.clockLost = false) : (startingActs s).al = s.al := by
  obtain ⟨ce, hce⟩ := startIgniters_form allChans s
  have state : ∀ c, ((allChans.foldl State.startIgniter s).chan c).state = (s.chan c).state := fun c => by
    have kept := foldl_leaves (fun x => control (x.chan c)) _ (fun x d => startIgniter_control x d c) allChans s
    change (control _).state = (control _).state
    rw [kept]
  have locks : allChans.foldl State.lockoutCond (allChans.foldl State.startIgniter s)
      = allChans.foldl State.startIgniter s := by
    refine foldl_idle _ _ (fun c => setCond_idle ?_ _) _
    rw [beq_eq_false_iff_ne.mpr (state c ▸ open_ c), hce]
    exact idle _
  have clocks : (allChans.foldl State.startIgniter s).clockCond = allChans.foldl State.startIgniter s := by
    refine setCond_idle ?_ _
    rw [hce]
    exact (idle _).trans clock.symm
  have room : ((snapMarked (allChans.foldl State.startIgniter s)).li.tx).length < 12 := by
    rw [hce]
    exact free
  obtain ⟨li, hli⟩ := offer_room room .snap (allChans.foldl State.startIgniter s).snapMsg.words
    ((allChans.foldl State.startIgniter s).snapIndex + 1) 0
  have pump : ∀ x : State, x.pump.al = x.al := fun x => by
    unfold State.pump
    split
    · rfl
    split <;> rfl
  rw [startingActs_eq, pump, startingConds, locks, clocks, offerSnap_eq, hli, hce]
  rfl

section

variable (h : besideCe t = besideCe s)

include h

theorem buffer_of_beside : t.sp.buffer = s.sp.buffer := by
  change (besideCe t).sp.buffer = (besideCe s).sp.buffer
  rw [h]
theorem portErrors_of_beside : t.sp.portErrors = s.sp.portErrors := by
  change (besideCe t).sp.portErrors = (besideCe s).sp.portErrors
  rw [h]
theorem mode_of_beside : t.pt.mode = s.pt.mode := by
  change (besideCe t).pt.mode = (besideCe s).pt.mode
  rw [h]
theorem startTime_of_beside : t.pt.startTime = s.pt.startTime := by
  change (besideCe t).pt.startTime = (besideCe s).pt.startTime
  rw [h]
theorem config_of_beside : t.config = s.config := by
  change (besideCe t).config = (besideCe s).config
  rw [h]
theorem zs_of_beside : t.zs = s.zs := by
  change (besideCe t).zs = (besideCe s).zs
  rw [h]
theorem cr_of_beside : t.cr = s.cr := by
  change (besideCe t).cr = (besideCe s).cr
  rw [h]
theorem fv_of_beside : t.fv = s.fv := by
  change (besideCe t).fv = (besideCe s).fv
  rw [h]
theorem accts_of_beside : t.sr.accts = s.sr.accts := by
  change (besideCe t).sr.accts = (besideCe s).sr.accts
  rw [h]
theorem firings_of_beside : t.fa.zones = s.fa.zones := by
  change (besideCe t).fa.zones = (besideCe s).fa.zones
  rw [h]
theorem peers_of_beside : t.pt.peers = s.pt.peers := by
  change (besideCe t).pt.peers = (besideCe s).pt.peers
  rw [h]
theorem day_of_beside : t.sr.day = s.sr.day := by
  change (besideCe t).sr.day = (besideCe s).sr.day
  rw [h]
theorem sec_of_beside : t.sr.sec = s.sr.sec := by
  change (besideCe t).sr.sec = (besideCe s).sr.sec
  rw [h]
theorem valid_of_beside : t.sr.valid = s.sr.valid := by
  change (besideCe t).sr.valid = (besideCe s).sr.valid
  rw [h]
theorem shift_of_beside : t.sr.shift = s.sr.shift := by
  change (besideCe t).sr.shift = (besideCe s).sr.shift
  rw [h]
theorem crystal_of_beside : t.sr.crystal = s.sr.crystal := by
  change (besideCe t).sr.crystal = (besideCe s).sr.crystal
  rw [h]
theorem summary_of_beside : t.sr.summary = s.sr.summary := by
  change (besideCe t).sr.summary = (besideCe s).sr.summary
  rw [h]
theorem rx_of_beside : t.li.rx = s.li.rx := by
  change (besideCe t).li.rx = (besideCe s).li.rx
  rw [h]
theorem sent_of_beside : t.li.sent = s.li.sent := by
  change (besideCe t).li.sent = (besideCe s).li.sent
  rw [h]
theorem collisions_of_beside : t.li.collisions = s.li.collisions := by
  change (besideCe t).li.collisions = (besideCe s).li.collisions
  rw [h]
theorem discards_of_beside : t.li.discards = s.li.discards := by
  change (besideCe t).li.discards = (besideCe s).li.discards
  rw [h]
theorem completionTime_of_beside : t.li.completionTime = s.li.completionTime := by
  change (besideCe t).li.completionTime = (besideCe s).li.completionTime
  rw [h]
theorem rxTime_of_beside : t.li.rxTime = s.li.rxTime := by
  change (besideCe t).li.rxTime = (besideCe s).li.rxTime
  rw [h]

theorem ring_of_beside : t.sr.ring.map (fun x => { x with unannounced := false })
    = s.sr.ring.map (fun x => { x with unannounced := false }) := by
  change (besideCe t).sr.ring = (besideCe s).sr.ring
  rw [h]

theorem known_of_beside (z : Zone) : (t.demand z).known = (s.demand z).known := by
  have demands : t.fa.demands.map (fun d => { d with unannounced := false })
      = s.fa.demands.map (fun d => { d with unannounced := false }) := by
    change (besideCe t).fa.demands = (besideCe s).fa.demands
    rw [h]
  have one := congrArg (fun v => (v.get z).known) demands
  simp only [get_map] at one
  exact one

end

/-- The whole entry to STARTING, from the blocks as a station reset leaves them. -/
def restarted (s : State) (cfg : Config) : State := startingActs (startingBlocks (resetBlocks s) cfg)

section

variable (s) (cfg : Config)

theorem restarted_beside : besideCe (restarted s cfg) = besideCe (startingBlocks (resetBlocks s) cfg) :=
  startingActs_besideCe _

end

/-! ### The reset commands (10 R196) -/

/-- Settles O5, command by command. -/
theorem resetCommands : Obligations.ResetCommands := by
  refine ⟨fun s => ⟨_, rfl, rfl, rfl, rfl, rfl, rfl, rfl, rfl, rfl, rfl, rfl, rfl, reset_seqs, rfl, rfl, rfl, rfl, rfl,
    rfl, rfl, rfl, rfl, rfl, rfl⟩, fun s held => ?_, fun s => rfl, fun s serves released => ⟨s.stationReset, ?_, ?_, ?_, ?_⟩⟩
  · change Host.Outcome.next _ = _
    rw [if_pos held]
  · exact congrArg Host.Outcome.next (request_served serves _)
  · change Host.Outcome.next _ = _
    rw [if_neg (by rw [released]; decide)]
  · rw [stationReset_eq]
    cases hc : s.config with
    | none => rfl
    | some cfg => exact (buffer_of_beside (restarted_beside s cfg)).trans rfl
  · rw [stationReset_eq]
    cases hc : s.config with
    | none => rfl
    | some cfg => exact (mode_of_beside (restarted_beside s cfg)).trans rfl

/-- A RESET_N assertion of a released line makes the station reset. -/
theorem exec_resetNAssertion (released : s.resetHeld = false) :
    exec .resetNAssertion s = .next { s.stationReset with resetHeld := true } := by
  change Host.Outcome.next _ = _
  rw [if_neg (by rw [released]; decide)]

theorem stationReset_unconfigured (off : s.config = none) : s.stationReset = resetBlocks s := by
  rw [stationReset_eq, off]

theorem stationReset_configured {cfg : Config} (on : s.config = some cfg) :
    s.stationReset = restarted s cfg := by
  rw [stationReset_eq, on, restarted]

theorem resetBlocks_acct (s : State) (d : Chan) : (resetBlocks s).acct d = (s.acct d).setRunning false s.now :=
  get_map _ _ _

theorem resetBlocks_alarm (s : State) (id : AlarmId) : (resetBlocks s).alarm id = (s.alarm id).afterReset :=
  get_map _ _ _

theorem resetBlocks_cond (s : State) (id : AlarmId) : (resetBlocks s).cond id = false := by
  rw [State.cond, resetBlocks_alarm]
  rfl

/-- A channel that stops running keeps its account but for the running remainder. -/
theorem setRunning_off (a : Account) (now : Nat) : (a.setRunning false now).runFrom = none
    ∧ { a.setRunning false now with runRem := 0, runFrom := none } = { a with runRem := 0, runFrom := none } := by
  unfold Account.setRunning
  split <;> simp_all

/-- Of a channel's record, after a station reset with a configuration, all but the handshake. -/
theorem restarted_control (s : State) (cfg : Config) (d : Chan) :
    control ((restarted s cfg).chan d) = control ((s.chan d).afterReset.configure (cfg.chans.get d)) := by
  have record : (startingBlocks (resetBlocks s) cfg).chan d = (s.chan d).afterReset.configure (cfg.chans.get d) := by
    rw [← resetBlocks_chan]
    exact get_ofFn _ d
  rw [restarted, startingActs_control, record]

/-- The entry to STARTING configures a channel beside its history, its SHUT line, its proof and its setpoint. -/
theorem configure_keeps (ch : Channel) (x : ChanCfg) : (ch.configure x).history = ch.history
    ∧ (ch.configure x).shutReleased = ch.shutReleased ∧ (ch.configure x).proof = ch.proof
    ∧ (ch.configure x).setpoint = ch.setpoint ∧ (ch.configure x).cause = ch.cause := by
  unfold Channel.configure
  repeat' split
  all_goals exact ⟨rfl, rfl, rfl, rfl, rfl⟩

/-- A usable fuel channel keeps its state there. -/
theorem configure_state {ch : Channel} {f : FuelCfg} (h : f.ncv ≠ 0) : (ch.configure (.fuel f)).state = ch.state := by
  unfold Channel.configure
  dsimp only
  rw [if_neg h]

theorem configure_open {ch : Channel} (h : ch.state = .off) (x : ChanCfg) : (ch.configure x).state ≠ .lockedOut := by
  unfold Channel.configure
  repeat' split
  all_goals simp [h]

theorem fuel?_some {d : Chan} {f : FuelCfg} (h : s.fuel? d = some f) : s.chanCfg d = .fuel f ∧ f.ncv ≠ 0 := by
  unfold State.fuel? at h
  split at h
  · split at h
    · cases h
    · cases h
      exact ⟨‹_›, ‹_›⟩
  · cases h

theorem chanCfg_some {cfg : Config} (h : s.config = some cfg) (d : Chan) : s.chanCfg d = cfg.chans.get d := by
  rw [State.chanCfg, h]

theorem restarted_state {cfg : Config} (on : s.config = some cfg) {d : Chan} (usable : s.fuel? d ≠ none) :
    ((restarted s cfg).chan d).state = if (s.chan d).state = .lockedOut then .lockedOut else .off := by
  obtain ⟨f, hf⟩ := Option.ne_none_iff_exists'.mp usable
  obtain ⟨kind, ncv⟩ := fuel?_some hf
  have kept := restarted_control s cfg d
  rw [← chanCfg_some on, kind] at kept
  change (control _).state = _
  rw [kept]
  exact configure_state ncv

theorem setRunning_keeps (a : Account) (b : Bool) (now : Nat) : (a.setRunning b now).mass = a.mass
    ∧ (a.setRunning b now).energy = a.energy ∧ (a.setRunning b now).run = a.run
    ∧ (a.setRunning b now).count = a.count ∧ (a.setRunning b now).lifeMass = a.lifeMass
    ∧ (a.setRunning b now).lifeEnergy = a.lifeEnergy ∧ (a.setRunning b now).lifeRun = a.lifeRun
    ∧ (a.setRunning b now).massRem = a.massRem ∧ (a.setRunning b now).energyRem = a.energyRem := by
  unfold Account.setRunning
  split <;> exact ⟨rfl, rfl, rfl, rfl, rfl, rfl, rfl, rfl, rfl⟩

/-- With no channel LOCKED_OUT and the clock not lost, the entry writes no condition. -/
theorem restarted_al {cfg : Config} (open_ : ∀ c, (s.chan c).state ≠ .lockedOut) (clock : s.sr.clockLost = false) :
    (restarted s cfg).al = s.al.afterReset := by
  refine startingActs_al (resetBlocks_cond s) (show 0 < 12 by decide) (fun c => ?_) clock
  have record : (startingBlocks (resetBlocks s) cfg).chan c = (s.chan c).afterReset.configure (cfg.chans.get c) := by
    rw [← resetBlocks_chan]
    exact get_ofFn _ c
  rw [record]
  exact configure_open (if_neg (open_ c)) _

/-- Settles O6: without a configuration by the blocks as the reset leaves them, with one by what the entry to STARTING
leaves of these. -/
theorem stationResetKeeps : Obligations.StationResetKeeps := by
  refine ⟨fun s off released => ⟨_, exec_resetNAssertion released, rfl, ?_⟩, fun s cfg on released =>
    ⟨_, exec_resetNAssertion released, rfl, ?_⟩⟩
  · have configured : s.configured = false := by rw [State.configured, off]; rfl
    rw [stationReset_unconfigured off]
    refine ⟨off, rfl, rfl, rfl, rfl, rfl, rfl, reset_seqs, rfl, rfl, rfl, rfl, rfl, rfl, rfl, fun c => ?_, fun z => ?_,
      rfl, rfl, rfl, rfl, rfl, fun id => ⟨resetBlocks_cond s id, ?_⟩, ⟨_, rfl⟩, fun c => ?_, rfl, rfl, ?_⟩
    · rw [reset_chan]
      exact resetBlocks_chan s c
    · rw [reset_zone]
      exact resetBlocks_zone s z
    · have record := resetBlocks_alarm s id
      exact ⟨(congrArg AlarmRec.waiting record).trans rfl, (congrArg AlarmRec.announce record).trans rfl,
        (congrArg AlarmRec.lastSeq record).trans rfl,
        (congrArg AlarmRec.lastTime record).trans rfl, (congrArg AlarmRec.lastValue record).trans rfl,
          (congrArg AlarmRec.shiftRaises record).trans rfl⟩
    · have account := resetBlocks_acct s c
      change ((resetBlocks s).acct c).runFrom = _
        ∧ ({ (resetBlocks s).acct c with runRem := 0, runFrom := none } : Account) = _
      rw [account]
      exact setRunning_off _ _
    · change (s.sp.afterReset s.configured).notices = _
      rw [configured]
      rfl
  · have configured : s.configured = true := by rw [State.configured, on]; rfl
    have notices : (restarted s cfg).sp.notices.configNeeded = false := by
      refine (startingActs_configNeeded _).trans ?_
      change (s.sp.afterReset s.configured).notices.configNeeded = _
      rw [configured]
      rfl
    have alarms := restarted_al (s := s) (cfg := cfg)
    have index : (restarted s cfg).pt.rollIndex = 0 := startingActs_rollIndex rfl
    have state := fun c => restarted_state on (d := c)
    have control := restarted_control s cfg
    have beside := restarted_beside s cfg
    rw [stationReset_configured on]
    generalize restarted s cfg = r at *
    refine ⟨(config_of_beside beside).trans rfl, (mode_of_beside beside).trans rfl,
      (startTime_of_beside beside).trans rfl, index, fun n => ?_, (rx_of_beside beside).trans rfl,
      (sent_of_beside beside).trans rfl, (collisions_of_beside beside).trans rfl, (discards_of_beside beside).trans rfl,
      fun c => ?_, fun z => ?_, fun z => ⟨?_, ?_⟩, (cr_of_beside beside).trans rfl, (fv_of_beside beside).trans rfl,
      fun open_ clock => ?_, (day_of_beside beside).trans rfl, (sec_of_beside beside).trans rfl,
      (valid_of_beside beside).trans rfl, (shift_of_beside beside).trans rfl, (crystal_of_beside beside).trans rfl,
      (summary_of_beside beside).trans rfl, (ring_of_beside beside).trans rfl, fun c => ?_,
      (buffer_of_beside beside).trans rfl, (portErrors_of_beside beside).trans rfl, ?_⟩
    · have peers := congrArg (Vector.get · n) (peers_of_beside beside)
      exact peers.trans (get_ofFn _ n)
    · have kept := control c
      obtain ⟨history, shut, proof, setpoint, cause⟩ := configure_keeps (s.chan c).afterReset (cfg.chans.get c)
      refine ⟨(congrArg Channel.history kept).trans history, (congrArg Channel.shutReleased kept).trans shut,
        (congrArg Channel.proof kept).trans proof, (congrArg Channel.setpoint kept).trans setpoint,
        fun locked usable => ⟨?_, ?_⟩, fun free usable => ?_⟩
      · exact (state c usable).trans (if_pos locked)
      · exact ((congrArg Channel.cause kept).trans cause).trans (if_pos locked)
      · exact (state c usable).trans (if_neg free)
    · have record : r.zone z = (s.zone z).afterReset :=
        (congrArg (fun x : ZoneSupervisor => x.zones.get z) (zs_of_beside beside)).trans (resetBlocks_zone s z)
      exact ⟨(congrArg ZoneRec.state record).trans rfl, (congrArg ZoneRec.epoch record).trans rfl,
        (congrArg ZoneRec.firstOut record).trans rfl,
        (congrArg ZoneRec.snapshot record).trans rfl⟩
    · exact (known_of_beside beside z).trans (congrArg DemandRecord.known (reset_demand z))
    · have firing : r.firing z = Firing.initial :=
        (congrArg (Vector.get · z) (firings_of_beside beside)).trans (reset_firing z)
      exact (congrArg Firing.pass firing).trans rfl
    · have al := alarms open_ clock
      have record : ∀ id, r.alarm id = (s.alarm id).afterReset := fun id => by
        rw [State.alarm, al]
        exact afterReset_alarm id
      exact ⟨(congrArg AlarmList.list al).trans rfl, (congrArg AlarmList.counter al).trans rfl,
        (congrArg AlarmList.p1 al).trans rfl,
        (congrArg AlarmList.p2 al).trans rfl, (congrArg AlarmList.p3 al).trans rfl,
          fun id => ⟨(congrArg AlarmRec.lastSeq (record id)).trans rfl,
          (congrArg AlarmRec.shiftRaises (record id)).trans rfl, (congrArg AlarmRec.cond (record id)).trans rfl⟩⟩
    · obtain ⟨mass, energy, run, count, lifeMass, lifeEnergy, lifeRun, massRem, energyRem⟩ :=
        setRunning_keeps (s.acct c) false s.now
      have account : r.acct c = (s.acct c).setRunning false s.now :=
        (congrArg (Vector.get · c) (accts_of_beside beside)).trans (resetBlocks_acct s c)
      exact ⟨(congrArg Account.mass account).trans mass, (congrArg Account.energy account).trans energy,
        (congrArg Account.run account).trans run, (congrArg Account.count account).trans count,
        (congrArg Account.lifeMass account).trans lifeMass, (congrArg Account.lifeEnergy account).trans lifeEnergy,
        (congrArg Account.lifeRun account).trans lifeRun, (congrArg Account.massRem account).trans massRem,
        (congrArg Account.energyRem account).trans energyRem⟩
    · exact notices

end Sys2Proof.Proofs
end

section
/-! PROOF. The configuration record: clamping, field by field (10 R192, R194), and the acceptance of a LOAD_CONFIG
(10 R195). -/

namespace Sys2Proof.Proofs

open Sys2Proof.Machine

variable {s : State}

/-! ### The judged fields -/

/-- The judged fields of a channel, by its kind, as places within its part. -/
def chanFields (ws : List Word) (c : Chan) : List (Nat × Nat × Nat) :=
  if kindWord ws c = 1 then fuelRanges else if kindWord ws c = 2 then fanRanges else []

/-- A judged field is the station's, a zone's or a channel's. -/
theorem mem_numericFields {ws : List Word} {f : Nat × Nat × Nat} : f ∈ numericFields ws ↔
    f = (6, 0, 1500) ∨ (∃ z ∈ zonesUp, ∃ r ∈ zoneRanges.zipIdx, (zoneBase z + r.2, r.1.1, r.1.2) = f)
      ∨ ∃ c ∈ chansUp, ∃ r ∈ chanFields ws c, (chanBase c + r.1, r.2.1, r.2.2) = f := by
  simp only [numericFields, List.mem_append, List.mem_singleton, List.mem_flatMap, List.mem_map, chanFields, or_assoc]

theorem zoneRange_bounds : ∀ r ∈ zoneRanges.zipIdx, r.2 < 9 ∧ r.1.1 ≤ r.1.2 ∧ r.1.2 ≤ 65535 := by decide

theorem zoneRange_unique : ∀ r ∈ zoneRanges.zipIdx, ∀ q ∈ zoneRanges.zipIdx, r.2 = q.2 → r = q := by decide

theorem fuelRange_bounds : ∀ r ∈ fuelRanges, 2 ≤ r.1 ∧ r.1 < 14 ∧ r.2.1 ≤ r.2.2 ∧ r.2.2 ≤ 65535 := by decide

theorem fanRange_bounds : ∀ r ∈ fanRanges, 2 ≤ r.1 ∧ r.1 < 14 ∧ r.2.1 ≤ r.2.2 ∧ r.2.2 ≤ 65535 := by decide

theorem fuelRange_unique : ∀ r ∈ fuelRanges, ∀ q ∈ fuelRanges, r.1 = q.1 → r = q := by decide

theorem fanRange_unique : ∀ r ∈ fanRanges, ∀ q ∈ fanRanges, r.1 = q.1 → r = q := by decide

theorem chanField_bounds {ws : List Word} {c : Chan} {r : Nat × Nat × Nat} (h : r ∈ chanFields ws c) :
    2 ≤ r.1 ∧ r.1 < 14 ∧ r.2.1 ≤ r.2.2 ∧ r.2.2 ≤ 65535 := by
  unfold chanFields at h
  split at h
  · exact fuelRange_bounds r h
  split at h
  · exact fanRange_bounds r h
  · cases h

theorem chanField_unique {ws : List Word} {c : Chan} {r q : Nat × Nat × Nat} (hr : r ∈ chanFields ws c)
    (hq : q ∈ chanFields ws c) (h : r.1 = q.1) : r = q := by
  unfold chanFields at hr hq
  split at hr
  · rw [if_pos ‹_›] at hq
    exact fuelRange_unique r hr q hq h
  · rw [if_neg ‹_›] at hq
    split at hr
    · rw [if_pos ‹_›] at hq
      exact fanRange_unique r hr q hq h
    · cases hr

/-- A judged field lies in the record, on no kind word, and its range is one of words. -/
theorem numericField_bounds {ws : List Word} {f : Nat × Nat × Nat} (h : f ∈ numericFields ws) :
    f.1 < 156 ∧ (∀ c : Chan, f.1 ≠ chanBase c) ∧ f.2.1 ≤ f.2.2 ∧ f.2.2 ≤ 65535 := by
  obtain rfl | ⟨z, -, r, hr, rfl⟩ | ⟨c, -, r, hr, rfl⟩ := mem_numericFields.mp h
  · refine ⟨by decide, fun c => ?_, by decide, by decide⟩
    simp only [chanBase]
    omega
  · obtain ⟨place, low, high⟩ := zoneRange_bounds r hr
    have hz := z.isLt
    refine ⟨?_, fun c => ?_, low, high⟩ <;> simp only [zoneBase, chanBase] <;> omega
  · obtain ⟨above, place, low, high⟩ := chanField_bounds hr
    have hc := c.isLt
    refine ⟨?_, fun d => ?_, low, high⟩ <;> simp only [chanBase] <;> omega

/-- A place belongs to one judged field at most. -/
theorem numericField_unique {ws : List Word} {f g : Nat × Nat × Nat} (hf : f ∈ numericFields ws)
    (hg : g ∈ numericFields ws) (h : f.1 = g.1) : f = g := by
  obtain rfl | ⟨z, -, r, hr, rfl⟩ | ⟨c, -, r, hr, rfl⟩ := mem_numericFields.mp hf <;>
    obtain rfl | ⟨y, -, q, hq, rfl⟩ | ⟨d, -, q, hq, rfl⟩ := mem_numericFields.mp hg <;>
    simp only [zoneBase, chanBase] at h
  · rfl
  · omega
  · omega
  · omega
  · have bounds := zoneRange_bounds r hr
    have bounds' := zoneRange_bounds q hq
    have zones : z = y := Fin.ext (by omega)
    subst zones
    rw [zoneRange_unique r hr q hq (by omega)]
  · have bounds := zoneRange_bounds r hr
    have hz := z.isLt
    omega
  · omega
  · have bounds := zoneRange_bounds q hq
    have hy := y.isLt
    omega
  · have bounds := chanField_bounds hr
    have bounds' := chanField_bounds hq
    have chans : c = d := Fin.ext (by omega)
    subst chans
    rw [chanField_unique hr hq (by omega)]

/-! ### Clamping -/

/-- The record with each of a list of places set. -/
def setAll {α : Type} (place : α → Nat) (val : α → Word) (l : List α) (ws : List Word) : List Word :=
  l.foldl (fun acc a => acc.set (place a) (val a)) ws

section

variable {α : Type} {place : α → Nat} {val : α → Word}

theorem setAll_length (l : List α) (ws : List Word) : (setAll place val l ws).length = ws.length := by
  induction l generalizing ws with
  | nil => rfl
  | cons a l ih => exact (ih _).trans List.length_set

/-- A place that none of the list names keeps its word. -/
theorem setAll_other {l : List α} {i : Nat} (h : ∀ a ∈ l, place a ≠ i) (ws : List Word) :
    wordAt (setAll place val l ws) i = wordAt ws i := by
  induction l generalizing ws with
  | nil => rfl
  | cons a l ih =>
    refine (ih (fun x hx => h x (List.mem_cons_of_mem _ hx)) _).trans ?_
    simp [wordAt, List.getD_eq_getElem?_getD, List.getElem?_set_ne (h a List.mem_cons_self)]

/-- A place that the list names takes the word that it names there. -/
theorem setAll_at {l : List α} {i : Nat} {v : Word} (some_ : ∃ a ∈ l, place a = i)
    (all : ∀ a ∈ l, place a = i → val a = v) {ws : List Word} (hi : i < ws.length) :
    wordAt (setAll place val l ws) i = v.toNat := by
  induction l generalizing ws with
  | nil => obtain ⟨a, ha, -⟩ := some_; cases ha
  | cons a l ih =>
    by_cases later : ∃ x ∈ l, place x = i
    · exact ih later (fun x hx => all x (List.mem_cons_of_mem _ hx)) (by rw [List.length_set]; exact hi)
    · have here : place a = i := by
        obtain ⟨x, hx, e⟩ := some_
        obtain rfl | hl := List.mem_cons.mp hx
        · exact e
        · exact absurd ⟨x, hl, e⟩ later
      refine (setAll_other (fun x hx e => later ⟨x, hx, e⟩) _).trans ?_
      rw [wordAt, List.getD_eq_getElem?_getD, ← here, List.getElem?_set_self (by omega), all a List.mem_cons_self here]
      rfl

end

/-- The value that clamping gives a field. -/
def clampedWord (ws : List Word) (f : Nat × Nat × Nat) : Word := w16 (clampNat (wordAt ws f.1) f.2.1 f.2.2)

theorem clampWords_eq (ws : List Word) : clampWords ws = setAll Prod.fst (clampedWord ws) (numericFields ws) ws := rfl

theorem w16_toNat {n : Nat} (h : n ≤ 65535) : (w16 n).toNat = n := by
  simp only [w16, BitVec.toNat_ofNat]
  omega

/-- A judged field takes its value brought into its range. -/
theorem clampWords_field {ws : List Word} (len : ws.length = 156) {f : Nat × Nat × Nat} (h : f ∈ numericFields ws) :
    wordAt (clampWords ws) f.1
      = if wordAt ws f.1 < f.2.1 then f.2.1 else if f.2.2 < wordAt ws f.1 then f.2.2 else wordAt ws f.1 := by
  obtain ⟨place, -, low, high⟩ := numericField_bounds h
  rw [clampWords_eq, setAll_at ⟨f, h, rfl⟩ (fun g hg e => by rw [numericField_unique hg h e]) (by omega), clampedWord,
    clampNat]
  have word := (ws.getD f.1 0).isLt
  refine w16_toNat ?_
  unfold wordAt
  split <;> [skip; split] <;> omega

theorem clampWords_other {ws : List Word} {i : Nat} (h : ∀ f ∈ numericFields ws, f.1 ≠ i) :
    wordAt (clampWords ws) i = wordAt ws i := setAll_other h ws

theorem clampWords_numericFields (ws : List Word) : numericFields (clampWords ws) = numericFields ws := by
  have kinds : ∀ c, kindWord (clampWords ws) c = kindWord ws c := fun c =>
    clampWords_other fun f hf => (numericField_bounds hf).2.1 c
  simp only [numericFields, kinds]

theorem outOfRange_iff (ws : List Word) (f : Nat × Nat × Nat) :
    outOfRange ws f = true ↔ wordAt ws f.1 < f.2.1 ∨ f.2.2 < wordAt ws f.1 := by
  simp [outOfRange]

/-- Settles O54: a place belongs to one judged field at most, which takes its value brought into its range. -/
theorem configClamped : Obligations.ConfigClamped := by
  intro ws len
  refine ⟨(setAll_length _ _).trans len, ?_, fun f hf out => ?_, fun i within => ?_⟩
  · unfold clampedCount
    rw [clampWords_numericFields, List.countP_eq_zero]
    intro f hf
    obtain ⟨-, -, low, -⟩ := numericField_bounds hf
    rw [outOfRange_iff, clampWords_field len hf]
    split <;> [skip; split] <;> omega
  · obtain ⟨-, -, low, -⟩ := numericField_bounds hf
    rw [clampWords_field len hf]
    have outside := (outOfRange_iff ws f).mp out
    split
    · rfl
    · rw [if_pos (by omega)]
  · by_cases judged : ∃ f ∈ numericFields ws, f.1 = i
    · obtain ⟨f, hf, rfl⟩ := judged
      have inside : ¬ (wordAt ws f.1 < f.2.1 ∨ f.2.2 < wordAt ws f.1) := fun out =>
        Bool.false_ne_true ((within f hf rfl).symm.trans ((outOfRange_iff ws f).mpr out))
      rw [clampWords_field len hf, if_neg (fun h => inside (.inl h)), if_neg (fun h => inside (.inr h))]
    · exact clampWords_other fun f hf e => judged ⟨f, hf, e⟩

/-! ### The acceptance of a record -/

/-- The state in which an accepted record enters STARTING (10 R195). -/
def accepting (s : State) : State :=
  (s.mapSp fun p => { p with notices := { p.notices with configNeeded := false } }).mapSr
    fun r => { r with shiftStart := s.stamp }

theorem acceptConfig_eq (s : State) (cfg : Config) :
    s.acceptConfig cfg = startingActs (startingBlocks (accepting s) cfg) := rfl

theorem startingActs_lastOffer (s : State) : (startingActs s).pt.lastOffer = s.now := by
  obtain ⟨ce, hce⟩ := startIgniters_form allChans s
  have locks := foldl_leaves State.plant _ lockoutCond_plant allChans (allChans.foldl State.startIgniter s)
  have now : (allChans.foldl State.lockoutCond (allChans.foldl State.startIgniter s)).clockCond.now = s.now := by
    rw [State.clockCond, now_of_plant (State.setCond_plant _ _ _ _), now_of_plant locks, hce]
  rw [startingActs_eq, pump_pt, startingConds, offerSnap_eq, offer_pt]
  exact now

theorem startingActs_silenceSince (s : State) : (startingActs s).ce.silenceSince = s.ce.silenceSince := by
  have still := (startingActs_moves (e := true) s).still
  change (startingActs s).still.ce.silenceSince = s.still.ce.silenceSince
  rw [still]

theorem loadConfig_eq {ws : List Word} (work : s.sp.buffer = .inWork 1 ws) : exec (.loadConfig ws) s = .next
    (if s.pt.mode ≠ .unconfigured then s.refuse 1 .alreadyConfigured
    else if structuralError ws then s.refuse 1 .badArgument
    else (s.acceptConfig (acceptedConfig ws)).reply 1 (if clampedCount ws = 0 then .ok else .clamped)
      (w16 (clampedCount ws)) []) := congrArg Host.Outcome.next (read_served work _)

theorem accepting_chan (s : State) (cfg : Config) (c : Chan) :
    (startingBlocks (accepting s) cfg).chan c = (s.chan c).configure (cfg.chans.get c) := get_ofFn _ c

theorem configure_heats {ch : Channel} {f : FuelCfg} (h : f.ncv ≠ 0) :
    (ch.configure (.fuel f)).hmin = heatOf f.ncv f.fmin ∧ (ch.configure (.fuel f)).hmax = heatOf f.ncv f.fmax := by
  unfold Channel.configure
  dsimp only
  rw [if_neg h]
  exact ⟨rfl, rfl⟩

theorem configure_unusable {ch : Channel} {f : FuelCfg} (h : f.ncv = 0) :
    (ch.configure (.fuel f)).state = .offUnusable := by
  unfold Channel.configure
  dsimp only
  rw [if_pos h]

/-- Settles O53: the tests in turn, then what the entry to STARTING leaves of the accepted record's blocks. -/
theorem configLoaded : Obligations.ConfigLoaded := by
  intro s ws work
  rw [loadConfig_eq work]
  refine ⟨fun on => by rw [if_pos on], fun off bad => by rw [if_neg (not_not.mpr off), if_pos bad],
    fun off good => ⟨_, congrArg _ ((if_neg (not_not.mpr off)).trans (if_neg (by simp [good]))), ?_⟩⟩
  have control := startingActs_control (startingBlocks (accepting s) (acceptedConfig ws))
  have beside := startingActs_besideCe (startingBlocks (accepting s) (acceptedConfig ws))
  have silence := startingActs_silenceSince (startingBlocks (accepting s) (acceptedConfig ws))
  have offered := startingActs_lastOffer (startingBlocks (accepting s) (acceptedConfig ws))
  have notices := startingActs_configNeeded (startingBlocks (accepting s) (acceptedConfig ws))
  rw [acceptConfig_eq]
  generalize startingActs (startingBlocks (accepting s) (acceptedConfig ws)) = r at *
  simp only [accepting_chan] at control
  refine ⟨(config_of_beside beside).trans rfl, (mode_of_beside beside).trans rfl, (startTime_of_beside beside).trans rfl,
    fun n => ?_, (completionTime_of_beside beside).trans rfl, (rxTime_of_beside beside).trans rfl, silence,
    fun c f hc hf => ?_, fun c f hc hf => ?_, offered, notices, rfl⟩
  · have peers := congrArg (Vector.get · n) (peers_of_beside beside)
    exact peers.trans (get_ofFn _ n)
  · have kept := control c
    rw [hc] at kept
    obtain ⟨hmin, hmax⟩ := configure_heats (ch := s.chan c) hf
    exact ⟨(congrArg Channel.hmin kept).trans hmin, (congrArg Channel.hmax kept).trans hmax⟩
  · have kept := control c
    rw [hc] at kept
    exact (congrArg Channel.state kept).trans (configure_unusable hf)

end Sys2Proof.Proofs
end

section
/-! PROOF. The shift totalizer (09): what a close writes, the filing of a summary, the time base and the crystal check. -/

namespace Sys2Proof.Proofs

open Sys2Proof.Machine

variable {s t : State}

/-! ### The store without its announce marks -/

/-- The shift store without the announce marks of the ring's records. -/
def srBare (s : State) : ShiftStore :=
  { s.sr with ring := s.sr.ring.map fun x => { x with unannounced := false } }

theorem srBare_of_plant (h : t.plant = s.plant) : srBare t = srBare s := by
  change t.plant.sr = s.plant.sr
  rw [h]

section

variable {st : ShiftStore} (h : srBare s = st)

include h

theorem day_of_srBare : s.sr.day = st.day := by rw [← h]; rfl
theorem sec_of_srBare : s.sr.sec = st.sec := by rw [← h]; rfl
theorem valid_of_srBare : s.sr.valid = st.valid := by rw [← h]; rfl
theorem everValid_of_srBare : s.sr.everValid = st.everValid := by rw [← h]; rfl
theorem crystal_of_srBare : s.sr.crystal = st.crystal := by rw [← h]; rfl
theorem crystalSince_of_srBare : s.sr.crystalSince = st.crystalSince := by rw [← h]; rfl
theorem clockLost_of_srBare : s.sr.clockLost = st.clockLost := by rw [← h]; rfl
theorem shift_of_srBare : s.sr.shift = st.shift := by rw [← h]; rfl
theorem shiftStart_of_srBare : s.sr.shiftStart = st.shiftStart := by rw [← h]; rfl
theorem zoneTrips_of_srBare : s.sr.zoneTrips = st.zoneTrips := by rw [← h]; rfl
theorem tempCount_of_srBare : s.sr.tempCount = st.tempCount := by rw [← h]; rfl
theorem estimated_of_srBare : s.sr.estimated = st.estimated := by rw [← h]; rfl
theorem gap_of_srBare : s.sr.gap = st.gap := by rw [← h]; rfl
theorem incomplete_of_srBare : s.sr.incomplete = st.incomplete := by rw [← h]; rfl
theorem boundaryDue_of_srBare : s.sr.boundaryDue = st.boundaryDue := by rw [← h]; rfl
theorem ring_of_srBare : s.sr.ring.map (fun x => { x with unannounced := false }) = st.ring := by rw [← h]; rfl

end

/-- An offer of a SHIFT and its outcome write announce marks alone. -/
theorem offerShift_plant (s : State) (r : ShiftRecord) : (s.offerShift r).plant = s.plant := by
  unfold State.offerShift
  dsimp only
  simp only [markRing]
  rw [State.mapRing_mark_plant, State.offer_plant _ (by decide)]

/-! ### A close (09 R173 to R178) -/

/-- The state of a close before the summary is filed. -/
def closedShift (s : State) (kind : CloseKind) (number : Word) (skipped : Bool) (next : Word) : State :=
  (s.startShift (s.shiftRecord kind number skipped) next).offerShift (s.shiftRecord kind number skipped)

theorem closeShift_eq (s : State) (kind : CloseKind) (number : Word) (skipped : Bool) (next : Word) :
    s.closeShift kind number skipped next
      = ((closedShift s kind number skipped next).fileShift
          ((s.shiftRecord kind number skipped).msg s.ownStation)).notify .shiftClosed := rfl

section

variable (s) (kind : CloseKind) (number : Word) (skipped : Bool) (next : Word)

theorem closedShift_plant : (closedShift s kind number skipped next).plant
    = (s.startShift (s.shiftRecord kind number skipped) next).plant := offerShift_plant _ _

/-- What a close makes of the store: the shift starts anew, and the own summary is filed. -/
theorem closeShift_srBare : srBare (s.closeShift kind number skipped next)
    = { srBare (s.startShift (s.shiftRecord kind number skipped) next) with
        summary := fileSummary number ((s.shiftRecord kind number skipped).msg s.ownStation).summary s.sr.summary } := by
  have bareEq := srBare_of_plant (closedShift_plant s kind number skipped next)
  have summary : (srBare (closedShift s kind number skipped next)).summary = s.sr.summary := by
    rw [bareEq]
    rfl
  rw [closeShift_eq, ← bareEq]
  change ({ srBare (closedShift s kind number skipped next) with
    summary := fileSummary number _ (srBare (closedShift s kind number skipped next)).summary } : ShiftStore) = _
  rw [summary]

/-- What a close makes of the ring, beside the announce marks. -/
theorem closeShift_ring : (s.closeShift kind number skipped next).sr.ring.map (fun x => { x with unannounced := false })
    = ((s.shiftRecord kind number skipped :: s.sr.ring).take 8).map (fun x => { x with unannounced := false }) :=
  congrArg ShiftStore.ring (closeShift_srBare s kind number skipped next)

theorem closeShift_acct (c : Chan) : (s.closeShift kind number skipped next).acct c = (s.acct c).close := by
  have accts : (s.closeShift kind number skipped next).sr.accts = s.sr.accts.map Account.close :=
    congrArg ShiftStore.accts (closeShift_srBare s kind number skipped next)
  rw [State.acct, accts]
  exact get_map _ _ _

/-- A close zeroes the shift counts of the own list. -/
theorem closeShift_bare : bare (s.closeShift kind number skipped next) = bare (s.mapAl AlarmList.closeShift) := by
  rw [closeShift_eq, notify_bare]
  change bare (closedShift s kind number skipped next) = _
  exact offer_bare _ _ _ _ _

theorem closeShift_li_rx : (s.closeShift kind number skipped next).li.rx = s.li.rx := by
  have plant := closedShift_plant s kind number skipped next
  change (closedShift s kind number skipped next).plant.li.rx = _
  rw [plant]
  rfl

end

/-! ### The floor summary (09 R179, R180) -/

section

variable {n : Word} {e : StationSummary} {l : List SummarySlot}

theorem mem_putEntry_self (e : StationSummary) (l : List StationSummary) : e ∈ putEntry e l := by
  induction l with
  | nil => simp [putEntry]
  | cons x l ih =>
    unfold putEntry
    split
    · exact List.mem_cons_self
    split
    · exact List.mem_cons_self
    · exact List.mem_cons_of_mem _ ih

theorem mem_putSlot {slot x : SummarySlot} : x ∈ putSlot slot l ↔ x = slot ∨ x ∈ l := by
  rw [(putSlot_perm slot l).mem_iff, List.mem_cons]

/-- A slot of the number is held. -/
def HoldsSlot (n : Word) (l : List SummarySlot) : Prop := ∃ sl ∈ l, sl.number = n

theorem holdsSlot_iff : (l.any fun x => x.number == n) = true ↔ HoldsSlot n l := by
  simp [HoldsSlot]

theorem fileSummary_held (h : HoldsSlot n l) : fileSummary n e l
    = l.map fun x => if x.number = n then { x with entries := putEntry e x.entries } else x := by
  rw [fileSummary, if_pos (holdsSlot_iff.mpr h)]

theorem fileSummary_room (h : ¬ HoldsSlot n l) (room : l.length < 4) : fileSummary n e l = putSlot ⟨n, [e]⟩ l := by
  rw [fileSummary, if_neg (fun x => h (holdsSlot_iff.mp x)), if_pos room]

theorem fileSummary_full {old : List SummarySlot} {o : SummarySlot} (h : ¬ HoldsSlot n l) (full : 4 ≤ l.length)
    (last : l = old ++ [o]) : fileSummary n e l = if serialNewer n o.number then putSlot ⟨n, [e]⟩ old else l := by
  rw [fileSummary, if_neg (fun x => h (holdsSlot_iff.mp x)), if_neg (by omega), last]
  simp

/-- The summary is filed in a slot of its number. -/
def FiledIn (n : Word) (e : StationSummary) (l : List SummarySlot) : Prop := ∃ sl ∈ l, sl.number = n ∧ e ∈ sl.entries

theorem filed_putSlot (l : List SummarySlot) : FiledIn n e (putSlot ⟨n, [e]⟩ l) :=
  ⟨⟨n, [e]⟩, mem_putSlot.mpr (.inl rfl), rfl, List.mem_singleton.mpr rfl⟩

/-- A slot of the number held, or a place free: the summary is filed and no other slot leaves. -/
theorem fileSummary_files (h : HoldsSlot n l ∨ l.length < 4) :
    FiledIn n e (fileSummary n e l) ∧ ∀ x ∈ l, x.number ≠ n → x ∈ fileSummary n e l := by
  by_cases held : HoldsSlot n l
  · rw [fileSummary_held held]
    obtain ⟨sl, hsl, hn⟩ := held
    refine ⟨⟨{ sl with entries := putEntry e sl.entries }, List.mem_map.mpr ⟨sl, hsl, if_pos hn⟩, hn,
      mem_putEntry_self _ _⟩, fun x hx other => List.mem_map.mpr ⟨x, hx, if_neg other⟩⟩
  · rw [fileSummary_room held (h.resolve_left held)]
    exact ⟨filed_putSlot l, fun x hx _ => mem_putSlot.mpr (.inr hx)⟩

/-- No slot beside that of the number joins. -/
theorem mem_of_fileSummary {x : SummarySlot} (h : x ∈ fileSummary n e l) (other : x.number ≠ n) : x ∈ l := by
  by_cases held : HoldsSlot n l
  · rw [fileSummary_held held] at h
    obtain ⟨y, hy, rfl⟩ := List.mem_map.mp h
    split at other
    · exact absurd ‹_› other
    · rw [if_neg ‹_›]
      exact hy
  by_cases room : l.length < 4
  · rw [fileSummary_room held room] at h
    obtain rfl | hx := mem_putSlot.mp h
    · exact absurd rfl other
    · exact hx
  · obtain rfl | ⟨old, o, rfl⟩ := List.eq_nil_or_concat l
    · exact absurd (by simp) room
    rw [List.concat_eq_append] at *
    rw [fileSummary_full held (by omega) rfl] at h
    split at h
    · obtain rfl | hx := mem_putSlot.mp h
      · exact absurd rfl other
      · exact List.mem_append_left _ hx
    · exact h

/-- A summary list in which the number `n` is filed as the claims of 09 R179 and R180 say, out of `l`. -/
structure Filed (n : Word) (e : StationSummary) (l r : List SummarySlot) : Prop where
  files : HoldsSlot n l ∨ l.length < 4 → FiledIn n e r ∧ ∀ x ∈ l, x.number ≠ n → x ∈ r
  newer : ∀ old o, l = old ++ [o] → 4 ≤ l.length → ¬ HoldsSlot n l → serialNewer n o.number = true →
    FiledIn n e r ∧ ∀ x ∈ old, x ∈ r
  older : ∀ old o, l = old ++ [o] → 4 ≤ l.length → ¬ HoldsSlot n l → serialNewer n o.number = false → r = l
  others : ∀ x ∈ r, x.number ≠ n → x ∈ l

theorem fileSummary_filed (n : Word) (e : StationSummary) (l : List SummarySlot) : Filed n e l (fileSummary n e l) where
  files := fileSummary_files
  newer := fun old o last full free newer => by
    rw [fileSummary_full free full last, if_pos newer]
    exact ⟨filed_putSlot old, fun x hx => mem_putSlot.mpr (.inr hx)⟩
  older := fun old o last full free older => by
    rw [fileSummary_full free full last, if_neg (by simp [older])]
  others := fun _ h other => mem_of_fileSummary h other

/-- Filing a second summary of the number behind a first. -/
theorem fileSummary_twice (n : Word) (d e : StationSummary) (l : List SummarySlot) :
    Filed n e l (fileSummary n e (fileSummary n d l)) := by
  have first := fileSummary_filed n d l
  have second := fileSummary_filed n e (fileSummary n d l)
  have held : FiledIn n d (fileSummary n d l) → HoldsSlot n (fileSummary n d l) := fun ⟨sl, hsl, hn, _⟩ => ⟨sl, hsl, hn⟩
  refine ⟨fun h => ?_, fun old o last full free newer => ?_, fun old o last full free older => ?_, fun x hx other => ?_⟩
  · obtain ⟨filed, kept⟩ := first.files h
    obtain ⟨filed', kept'⟩ := second.files (.inl (held filed))
    exact ⟨filed', fun x hx other => kept' x (kept x hx other) other⟩
  · obtain ⟨filed, kept⟩ := first.newer old o last full free newer
    obtain ⟨filed', kept'⟩ := second.files (.inl (held filed))
    refine ⟨filed', fun x hx => kept' x (kept x hx) fun e => free ⟨x, ?_, e⟩⟩
    rw [last]
    exact List.mem_append_left _ hx
  · have same := first.older old o last full free older
    rw [same]
    exact (fileSummary_filed n e l).older old o last full free older
  · exact first.others x (second.others x hx other) other

end

/-! ### The peer close (09 R175) -/

/-- The own shift closes by a peer's frame: the time is not valid, and the own number is unknown, equal or older. -/
def ClosesBy (s : State) (m : Word) : Prop :=
  s.sr.valid = false ∧ (s.sr.shift = none ∨ s.sr.shift = some m ∨ ∃ n, s.sr.shift = some n ∧ serialNewer m n = true)

/-- The close skips numbers. -/
def skips (s : State) (m : Word) : Bool :=
  match s.sr.shift with
  | none => false
  | some n => decide (n ≠ m)

theorem peerClose_closes {m : Word} (h : ClosesBy s m) : s.peerClose m = s.closeShift .peer m (skips s m) (m + 1) := by
  obtain ⟨off, number⟩ := h
  unfold State.peerClose skips
  rw [if_neg (by simp [off])]
  obtain none | same | ⟨n, held, newer⟩ := number
  · rw [none]
  · rw [same]
    simp
  · rw [held]
    by_cases eq : m = n
    · simp [eq]
    · simp [eq, newer, Ne.symm eq]

theorem peerClose_stays {m : Word} (h : ¬ ClosesBy s m) : s.peerClose m = s := by
  unfold State.peerClose
  split
  · rfl
  rename_i off
  have invalid : s.sr.valid = false := by simpa using off
  split
  · exact absurd ⟨invalid, .inl ‹_›⟩ h
  rename_i n held
  split
  · exact absurd ⟨invalid, .inr (.inl (by rw [held, ‹m = n›]))⟩ h
  split
  · exact absurd ⟨invalid, .inr (.inr ⟨n, held, ‹_›⟩)⟩ h
  · rfl

theorem closeShift_summary (s : State) (kind : CloseKind) (number : Word) (skipped : Bool) (next : Word) :
    (s.closeShift kind number skipped next).sr.summary
      = fileSummary number ((s.shiftRecord kind number skipped).msg s.ownStation).summary s.sr.summary := by
  have bareEq := closeShift_srBare s kind number skipped next
  change (srBare (s.closeShift kind number skipped next)).summary = _
  rw [bareEq]

/-- The summary behind a taken SHIFT. -/
theorem peerClose_summary (s : State) (m : ShiftMsg) :
    Filed m.number m.summary s.sr.summary (fileSummary m.number m.summary (s.peerClose m.number).sr.summary) := by
  by_cases closes : ClosesBy s m.number
  · rw [peerClose_closes closes, closeShift_summary]
    exact fileSummary_twice _ _ _ _
  · rw [peerClose_stays closes]
    exact fileSummary_filed _ _ _

theorem rxHead_of_heads {cls : FrameClass} {f : RxFrame} (h : s.heads cls f) : s.rxHead cls = some f := by
  obtain ⟨head, cls⟩ := h
  unfold State.rxHead
  split
  · rename_i g rest tx
    rw [tx] at head
    cases head
    rw [if_pos cls]
  · rename_i tx
    rw [tx] at head
    cases head

theorem shiftTaken_eq {f : RxFrame} (h : s.heads .shift f) : exec .shiftTaken s = .next
    (match parseShift f.origin f.payload with
      | none => s.popRx
      | some m => finish s ((s.popRx.peerClose m.number).fileShift m)) := by
  change execShiftTaken s = _
  unfold execShiftTaken
  rw [rxHead_of_heads h] <;> rfl

/-- Settles O51, by whether the frame closes the own shift. -/
theorem shiftsTaken : Obligations.ShiftsTaken := by
  intro s f heads
  rw [shiftTaken_eq heads]
  refine ⟨fun bad => by rw [bad]; rfl, fun m good => ⟨_, by rw [good], ?_, fun valid => ?_, fun off number => ?_,
    fun off number known => ?_, fun held => ?_, fun old o last full free => ⟨fun newer => ?_, fun older => ?_⟩,
    (peerClose_summary s.popRx m).others⟩⟩
  · change (s.popRx.peerClose m.number).li.rx = _
    by_cases closes : ClosesBy s.popRx m.number
    · rw [peerClose_closes closes, closeShift_li_rx]
      rfl
    · rw [peerClose_stays closes]
      rfl
  · have stays : ¬ ClosesBy s.popRx m.number := fun closes => by
      have invalid := closes.1
      rw [show s.popRx.sr.valid = s.sr.valid from rfl, valid] at invalid
      cases invalid
    rw [peerClose_stays stays]
    exact ⟨rfl, rfl⟩
  · have closes : ClosesBy s.popRx m.number := ⟨off, number⟩
    rw [peerClose_closes closes]
    have bareEq := closeShift_srBare s.popRx .peer m.number (skips s.popRx m.number) (m.number + 1)
    refine ⟨congrArg ShiftStore.shift bareEq, ?_⟩
    have ring := closeShift_ring s.popRx .peer m.number (skips s.popRx m.number) (m.number + 1)
    change ∃ r rest, (s.popRx.closeShift .peer m.number (skips s.popRx m.number) (m.number + 1)).sr.ring = r :: rest ∧ _
    cases hr : (s.popRx.closeShift .peer m.number (skips s.popRx m.number) (m.number + 1)).sr.ring with
    | nil =>
      rw [hr] at ring
      cases ring
    | cons r rest =>
      rw [hr, List.take_succ_cons, List.map_cons, List.map_cons] at ring
      obtain ⟨head, -⟩ := List.cons.inj ring
      exact ⟨r, rest, rfl, congrArg ShiftRecord.kind head, congrArg ShiftRecord.number head,
        congrArg ShiftRecord.gap head, congrArg ShiftRecord.incomplete head, congrArg ShiftRecord.ended head⟩
  · have stays : ¬ ClosesBy s.popRx m.number := by
      rintro ⟨-, none | same | ⟨n, held, newer⟩⟩
      · exact known none
      · exact (number _ same).1 rfl
      · exact absurd newer (by simp [(number n held).2])
    rw [peerClose_stays stays]
    exact ⟨rfl, rfl⟩
  · exact (peerClose_summary s.popRx m).files held
  · exact (peerClose_summary s.popRx m).newer old o last full (fun ⟨sl, hsl, e⟩ => free sl hsl e) newer
  · exact (peerClose_summary s.popRx m).older old o last full (fun ⟨sl, hsl, e⟩ => free sl hsl e) older

/-! ### The boundary (09 R173) -/

theorem shiftBoundary_eq {cfg : Config} (on : s.config = some cfg) (due : s.sr.boundaryDue = true) :
    exec .shiftBoundary s = .next (finish s ((s.mapSr fun r => { r with boundaryDue := false }).clockClose cfg)) := by
  change execShiftBoundary s = _
  unfold execShiftBoundary
  rw [on]
  exact congrArg Host.Outcome.next (if_pos due)

theorem clockClose_invalid (off : s.sr.valid = false) (cfg : Config) : s.clockClose cfg = s :=
  if_neg (by simp [off])

theorem clockClose_unknown (valid : s.sr.valid = true) (unknown : s.sr.shift = none) (cfg : Config) :
    s.clockClose cfg = s.mapSr fun r => { r with shift := some (clockShift cfg s.sr.day s.sr.sec) } := by
  unfold State.clockClose
  dsimp only
  rw [if_pos valid, unknown]

theorem clockClose_known (valid : s.sr.valid = true) {n : Word} (known : s.sr.shift = some n) (cfg : Config) :
    s.clockClose cfg = s.closeShift .clock n false (clockShift cfg s.sr.day s.sr.sec) := by
  unfold State.clockClose
  dsimp only
  rw [if_pos valid, known]

/-- Settles O49, by the validity of the time and the knowledge of the number. -/
theorem boundaryCloses : Obligations.BoundaryCloses := by
  intro s cfg on due
  refine ⟨fun off => ⟨_, shiftBoundary_eq on due, (clockClose_invalid (by exact off) cfg).trans rfl⟩, fun k valid hk =>
    ⟨_, shiftBoundary_eq on due, ?_⟩⟩
  obtain ⟨x, hx⟩ : ∃ x, x = s.mapSr fun r => { r with boundaryDue := false } := ⟨_, rfl⟩
  have number : clockShift cfg x.sr.day x.sr.sec = k := by rw [hk, hx]; rfl
  rw [← hx]
  cases known : s.sr.shift with
  | none =>
    rw [clockClose_unknown (by rw [hx]; exact valid) (by rw [hx]; exact known), number, hx]
    exact ⟨rfl, rfl, fun _ => rfl, fun n h => by cases h⟩
  | some n =>
    rw [clockClose_known (by rw [hx]; exact valid) (by rw [hx]; exact known), number]
    have bareEq := closeShift_srBare x .clock n false k
    have ring := closeShift_ring x .clock n false k
    have acct := closeShift_acct x .clock n false k
    have counts := closeShift_bare x .clock n false k
    have notices : (x.closeShift .clock n false k).sp.notices.shiftClosed = true := rfl
    generalize x.closeShift .clock n false k = u at *
    subst hx
    refine ⟨(boundaryDue_of_srBare bareEq).trans rfl, (shift_of_srBare bareEq).trans rfl, fun h => (by cases h), fun m h => ?_⟩
    cases h
    refine ⟨⟨_, ring, rfl, rfl, rfl, rfl, rfl, rfl, rfl, rfl, Bool.or_false _⟩, fun c => ?_,
      (zoneTrips_of_srBare bareEq).trans rfl, (tempCount_of_srBare bareEq).trans rfl, (incomplete_of_srBare bareEq).trans rfl,
      (shiftStart_of_srBare bareEq).trans rfl, (estimated_of_srBare bareEq).trans rfl, (gap_of_srBare bareEq).trans rfl,
      congrArg AlarmList.p1 counts, congrArg AlarmList.p2 counts, congrArg AlarmList.p3 counts, notices⟩
    rw [acct c]
    exact ⟨rfl, rfl, rfl, rfl, rfl, rfl, rfl, rfl, rfl⟩

/-! ### SET_TIME (09 R165) -/

theorem setTime_eq {cfg : Config} {day hi lo : Word} (on : s.config = some cfg) (serves : s.serves 14 [day, hi, lo]) :
    exec (.setTime day hi lo) s = .next (if 86399 < secondArg hi lo then s.refuse 14 .badArgument
      else finish s ((((s.timeSetClose (clockShift cfg day (secondArg hi lo))).mapSr
        fun r => r.setTime day (secondArg hi lo)).clockCond).ok 14)) := by
  refine congrArg Host.Outcome.next ((request_served serves _).trans ?_)
  simp only [on]

/-- The shift number after a SET_TIME is the clock's. -/
theorem timeSetClose_shift (s : State) (k : Word) : (s.timeSetClose k).sr.shift = some k := by
  unfold State.timeSetClose
  split
  · rfl
  · split
    · subst k
      assumption
    · exact (shift_of_srBare (closeShift_srBare s .timeSet _ false k)).trans rfl

theorem timeSetClose_clock (s : State) (k : Word) : (s.timeSetClose k).sr.clockLost = s.sr.clockLost
    ∧ (s.timeSetClose k).sr.crystal = s.sr.crystal := by
  unfold State.timeSetClose
  split
  · exact ⟨rfl, rfl⟩
  · split
    · exact ⟨rfl, rfl⟩
    · have bareEq := closeShift_srBare s .timeSet ‹_› false k
      exact ⟨(clockLost_of_srBare bareEq).trans rfl, (crystal_of_srBare bareEq).trans rfl⟩

theorem timeSetClose_same {k : Word} (h : s.sr.shift = none ∨ s.sr.shift = some k) :
    (s.timeSetClose k).sr.ring = s.sr.ring := by
  unfold State.timeSetClose
  obtain h | h := h <;> rw [h]
  · rfl
  · dsimp only
    rw [if_pos rfl]

theorem timeSetClose_other {n k : Word} (h : s.sr.shift = some n) (other : n ≠ k) :
    s.timeSetClose k = s.closeShift .timeSet n false k := by
  unfold State.timeSetClose
  rw [h]
  exact if_neg other

theorem clockCond_sr (s : State) : srBare s.clockCond = srBare s := srBare_of_plant (State.setCond_plant s _ _ _)

/-- The store after a write of CLOCK_LOST and the answer. -/
theorem clockCond_srBare (s : State) (code : Nat) : srBare (s.clockCond.ok code) = srBare s := clockCond_sr s

/-- Settles O50, by whether the known number is the clock's. -/
theorem timeSet : Obligations.TimeSet := by
  intro s cfg day hi lo sec k on serves hsec hk
  have second : secondArg hi lo = sec := hsec.symm
  have number : clockShift cfg day sec = k := hk.symm
  rw [setTime_eq on serves, second, number]
  refine ⟨fun late => by rw [if_pos (by omega)], fun early => ⟨_, congrArg _ (if_neg (by omega)), ?_⟩⟩
  obtain ⟨lost, crystal⟩ := timeSetClose_clock s k
  have shift := timeSetClose_shift s k
  have same := timeSetClose_same (s := s) (k := k)
  have other := fun n => timeSetClose_other (s := s) (n := n) (k := k)
  have bareEq := clockCond_srBare ((s.timeSetClose k).mapSr fun r => r.setTime day sec) 14
  generalize hx : s.timeSetClose k = x at *
  have buffer : ((x.mapSr fun r => r.setTime day sec).clockCond.ok 14).sp.buffer = .ready ⟨14, .ok, 0, []⟩ := rfl
  generalize (x.mapSr fun r => r.setTime day sec).clockCond.ok 14 = u at *
  refine ⟨(day_of_srBare bareEq).trans rfl, (sec_of_srBare bareEq).trans rfl, (valid_of_srBare bareEq).trans rfl,
    (everValid_of_srBare bareEq).trans rfl, (boundaryDue_of_srBare bareEq).trans rfl,
    (clockLost_of_srBare bareEq).trans ?_, (shift_of_srBare bareEq).trans shift, fun h => ?_,
    fun n known differs => ?_, buffer⟩
  · change (x.sr.clockLost && !(x.sr.crystal == .passing)) = _
    rw [lost, crystal]
    rfl
  · refine (ring_of_srBare bareEq).trans ?_
    rw [← same h]
    rfl
  · have closed := other n known differs
    have ring := closeShift_ring s .timeSet n false k
    have trips := (zoneTrips_of_srBare (closeShift_srBare s .timeSet n false k)).trans rfl
    rw [← closed] at ring trips
    exact ⟨_, (ring_of_srBare bareEq).trans ring, rfl, rfl, (zoneTrips_of_srBare bareEq).trans trips⟩

/-! ### The time base and the crystal (09 R163, R164, R171) -/

theorem runSecond_remainder {a : Account} {now : Nat} (h : 250000 ≤ a.remainder now) :
    (a.runSecond now).remainder now + 250000 = a.remainder now := by
  have left : (a.runSecond now).remainder now = a.remainder now - 250000 := by
    cases hf : a.runFrom <;> simp [Account.remainder, Account.runSecond, hf, seconds]
  omega

theorem isBoundary_eq (cfg : Config) (s : Nat) :
    isBoundary cfg s = decide (s = cfg.b0 * 60 ∨ s = cfg.b1 * 60 ∨ s = cfg.b2 * 60) := by
  simp only [isBoundary, Bool.or_assoc, Bool.decide_or]
  rfl

theorem crystalFails_of (h : s.sr.crystal = .passing ∨ (s.sr.crystal = .waiting ∧ s.sr.crystalSince + 500000 ≤ s.now)) :
    s.crystalFails = true := by
  unfold State.crystalFails
  obtain passing | ⟨waiting, late⟩ := h
  · rw [passing]
  · rw [waiting]
    exact (passed_iff s _ _).mpr late

/-- After a write of CLOCK_LOST at a configured station the condition is the clock-lost state. -/
theorem clockCond_cond (on : s.configured = true) : s.clockCond.cond idClockLost = s.sr.clockLost :=
  setCond_same on _ _ _

/-- Settles O48, command by command. -/
theorem timeBaseKept : Obligations.TimeBaseKept := by
  refine ⟨⟨fun s range => ⟨_, rfl, ?_, rfl, ?_, rfl⟩, fun s c run => ⟨_, guarded_acts rfl run, ?_⟩⟩,
    fun s on fails => ⟨_, guarded_acts rfl (crystalFails_of fails), ?_⟩, fun s on other waited => ⟨_, guarded_idle rfl ?_, ?_⟩⟩
  · change (if s.sr.sec = 86399 then 0 else s.sr.sec + 1) = _
    split <;> omega
  · change (s.sr.boundaryDue || match s.config with
      | some c => isBoundary c (if s.sr.sec = 86399 then 0 else s.sr.sec + 1)
      | none => false) = _
    cases s.config with
    | none => rfl
    | some cfg => exact congrArg (s.sr.boundaryDue || ·) (isBoundary_eq cfg _)
  · have same : (s.mapAcct c fun a => a.runSecond s.now).acct c = (s.acct c).runSecond s.now := State.mapAcct_acct_same s c _
    rw [same]
    exact ⟨rfl, rfl, runSecond_remainder run, rfl, rfl, fun d hd => State.mapAcct_acct_other _ _ (Ne.symm hd), rfl⟩
  · generalize hx : s.mapSr (fun r => { r with
        crystal := .failed
        crystalSince := if r.crystal = .passing then s.now else r.crystalSince
        valid := false
        clockLost := true
        setSinceFail := false }) = x
    have cond := clockCond_cond (s := x) (by rw [← hx]; exact on)
    have bareEq := clockCond_sr x
    generalize x.clockCond = u at *
    subst hx
    exact ⟨(crystal_of_srBare bareEq).trans rfl, (valid_of_srBare bareEq).trans rfl, (clockLost_of_srBare bareEq).trans rfl,
      cond, (day_of_srBare bareEq).trans rfl, (sec_of_srBare bareEq).trans rfl, (shift_of_srBare bareEq).trans rfl,
      (crystalSince_of_srBare bareEq).trans rfl⟩
  · rintro (passing | early)
    · exact other passing
    · rw [(passed_iff s _ _).mpr waited] at early
      cases early
  · generalize hx : s.mapSr (fun r => { r with
        crystal := .passing
        crystalSince := s.now
        clockLost := r.clockLost && !r.setSinceFail }) = x
    have cond := clockCond_cond (s := x) (by rw [← hx]; exact on)
    have bareEq := clockCond_sr x
    generalize x.clockCond = u at *
    subst hx
    exact ⟨(crystal_of_srBare bareEq).trans rfl, (clockLost_of_srBare bareEq).trans rfl, cond,
      (valid_of_srBare bareEq).trans rfl, (day_of_srBare bareEq).trans rfl, (sec_of_srBare bareEq).trans rfl⟩

end Sys2Proof.Proofs
end

section
/-! PROOF. Floor frames and payloads are read back as they were sent (O10, O11): the byte and word layouts of 11
undo one another part by part. -/

namespace Sys2Proof.Proofs
open Sys2Proof.Machine

/-! ### Bytes and words -/

@[simp] theorem hiByte_wordOf (hi lo : Byte) : hiByte (wordOf hi lo) = hi := by
  ext i h
  simp only [hiByte, wordOf, BitVec.getElem_extractLsb', BitVec.getLsbD_append]
  simp [show ¬ 8 + i < 8 by omega, h]

@[simp] theorem loByte_wordOf (hi lo : Byte) : loByte (wordOf hi lo) = lo := by
  ext i h
  simp only [loByte, wordOf, BitVec.getElem_extractLsb', BitVec.getLsbD_append]
  simp [h]

@[simp] theorem wordOf_bytes (w : Word) : wordOf (hiByte w) (loByte w) = w := by
  refine BitVec.eq_of_getLsbD_eq fun i h => ?_
  simp only [wordOf, hiByte, loByte, BitVec.getLsbD_append, BitVec.getLsbD_extractLsb']
  by_cases low : i < 8
  · simp [low]
  · simp [low, show i - 8 < 8 by omega, show 8 + (i - 8) = i by omega]

theorem b8_val {n : Nat} (h : n < 256) : (b8 n).toNat = n := by
  simp only [b8, BitVec.toNat_ofNat]; omega

theorem w16_val {n : Nat} (h : n < 65536) : (w16 n).toNat = n := w16_toNat (by omega)

@[simp] theorem hiByte_bytesWord (hi lo : Nat) : hiByte (bytesWord hi lo) = b8 hi := hiByte_wordOf _ _

@[simp] theorem loByte_bytesWord (hi lo : Nat) : loByte (bytesWord hi lo) = b8 lo := loByte_wordOf _ _

/-- The low bits of a word are those of its low byte. -/
theorem bytesWord_lsb (hi lo : Nat) {i : Nat} (h : i < 8) : (bytesWord hi lo).getLsbD i = lo.testBit i := by
  simp only [bytesWord, wordOf, b8, BitVec.getLsbD_append, h, if_true, BitVec.getLsbD_ofNat]
  simp

@[simp] theorem byteWords_wordBytes (ws : List Word) : byteWords (wordBytes ws) = ws := by
  induction ws with
  | nil => rfl
  | cons w ws ih =>
    have bytes : wordBytes (w :: ws) = hiByte w :: loByte w :: wordBytes ws := rfl
    rw [bytes, byteWords, ih, wordOf_bytes]

@[simp] theorem wordBytes_length (ws : List Word) : (wordBytes ws).length = 2 * ws.length := by
  simp [wordBytes, Nat.mul_comm]

/-! ### Codes -/

@[simp] theorem classOf_code (c : FrameClass) : classOf c.code = some c := by cases c <;> rfl

theorem code_lt (c : FrameClass) : c.code < 256 := by cases c <;> decide

theorem stationNumber_lt (n : Station) : stationNumber n < 256 := by
  have := n.isLt
  simp only [stationNumber]; omega

/-! ### Floor frames (O10) -/

theorem frameBody_length (cls : FrameClass) (origin : Station) (seq : Byte) (payload : List Word) :
    (frameBody cls origin seq payload).length = 2 * payload.length + 4 := by
  simp [frameBody]

theorem parseFrame_frameBytes (cls : FrameClass) (origin : Station) (seq : Byte) {payload : List Word}
    (some1 : 1 ≤ payload.length) (most : payload.length ≤ 128) :
    parseFrame (frameBytes cls origin seq payload) 0 = some ⟨cls, origin, seq, payload⟩ := by
  have body := frameBody_length cls origin seq payload
  have whole : (frameBytes cls origin seq payload).length = 2 * payload.length + 6 := by
    simp [frameBytes, body]
  have check : (frameBytes cls origin seq payload).drop ((frameBytes cls origin seq payload).length - 2)
      = wordBytes [crc16 (frameBody cls origin seq payload)] := by
    rw [whole, show 2 * payload.length + 6 - 2 = (frameBody cls origin seq payload).length by omega]
    exact List.drop_left
  have covered : (frameBytes cls origin seq payload).take ((frameBytes cls origin seq payload).length - 2)
      = frameBody cls origin seq payload := by
    rw [whole, show 2 * payload.length + 6 - 2 = (frameBody cls origin seq payload).length by omega]
    exact List.take_left
  have lenByte : (b8 (payload.length - 1)).toNat = payload.length - 1 := b8_val (by omega)
  have parts : frameBytes cls origin seq payload
      = b8 cls.code :: b8 (stationNumber origin) :: seq :: b8 (payload.length - 1)
        :: (wordBytes payload ++ wordBytes [crc16 (frameBody cls origin seq payload)]) := rfl
  have rest : (wordBytes payload ++ wordBytes [crc16 (frameBody cls origin seq payload)]).take
      ((wordBytes payload ++ wordBytes [crc16 (frameBody cls origin seq payload)]).length - 2)
        = wordBytes payload := by
    rw [List.length_append, wordBytes_length [_]]
    exact List.take_left
  rw [parts] at whole check covered ⊢
  rw [parseFrame, check, covered, rest]
  rw [whole, lenByte, b8_val (code_lt cls), b8_val (stationNumber_lt origin), classOf_code, stationOf_number rfl]
  rw [if_pos ⟨rfl, by omega, by omega, by omega, by omega, byteWords_wordBytes _⟩, byteWords_wordBytes]

/-! ### The levels of the frame in send -/

/-- The levels of one byte: for each bit, most significant first, the bit and its opposite. -/
def byteLevels (x : Byte) : List Bool := (byteBits x).flatMap bitLevels

theorem byteLevels_length (x : Byte) : (byteLevels x).length = 16 := rfl

theorem byteLevels_bit (x : Byte) {k : Nat} (h : k < 8) :
    (byteLevels x)[2 * k]? = some (x.getLsbD (7 - k)) ∧ (byteLevels x)[2 * k + 1]? = some (!x.getLsbD (7 - k)) := by
  interval_cases k <;> exact ⟨rfl, rfl⟩

theorem lineLevelsOf_cons (x : Byte) (xs : List Byte) : lineLevelsOf (x :: xs) = byteLevels x ++ lineLevelsOf xs := rfl

theorem lineLevelsOf_length (xs : List Byte) : (lineLevelsOf xs).length = 16 * xs.length := by
  induction xs with
  | nil => rfl
  | cons x xs ih => rw [lineLevelsOf_cons, List.length_append, ih, byteLevels_length, List.length_cons]; omega

theorem lineLevelsOf_bit (xs : List Byte) {i k : Nat} {x : Byte} (hx : xs[i]? = some x) (h : k < 8) :
    (lineLevelsOf xs)[16 * i + 2 * k]? = some (x.getLsbD (7 - k))
      ∧ (lineLevelsOf xs)[16 * i + 2 * k + 1]? = some (!x.getLsbD (7 - k)) := by
  induction xs generalizing i with
  | nil => simp at hx
  | cons y ys ih =>
    rw [lineLevelsOf_cons]
    cases i with
    | zero =>
      obtain rfl : y = x := by simpa using hx
      rw [List.getElem?_append_left (by rw [byteLevels_length]; omega),
        List.getElem?_append_left (by rw [byteLevels_length]; omega)]
      simpa using byteLevels_bit y h
    | succ i =>
      rw [List.getElem?_append_right (by rw [byteLevels_length]; omega),
        List.getElem?_append_right (by rw [byteLevels_length]; omega), byteLevels_length,
        show 16 * (i + 1) + 2 * k - 16 = 16 * i + 2 * k by omega,
        show 16 * (i + 1) + 2 * k + 1 - 16 = 16 * i + 2 * k + 1 by omega]
      exact ih (by simpa using hx)

/-- Settles O10: the tests of 01 R14 hold of the bytes one by one; the levels are counted byte by byte. -/
theorem framesRoundTrip : Obligations.FramesRoundTrip := by
  intro cls origin seq payload some1 most
  refine ⟨parseFrame_frameBytes cls origin seq some1 most, ?_⟩
  rintro s f found rfl rfl rfl rfl
  have bytes : s.lineBytes = frameBytes f.cls s.ownStation f.seq f.payload := by
    simp only [State.lineBytes, found]
  exact ⟨bytes, lineLevelsOf_length _, fun i k x hx h => lineLevelsOf_bit _ hx h⟩

/-! ### Numbers in payload words (11 R198) -/

theorem zoneOf_byte (z : Zone) : zoneOf (b8 z.val).toNat = some z := by
  rw [b8_val (by omega), zoneOf_val rfl]

theorem chanOf_byte (c : Chan) : chanOf (b8 c.val).toNat = some c := by
  rw [b8_val (by omega), chanOf_val rfl]

theorem alarmIdOf_byte (id : AlarmId) : alarmIdOf (b8 id.val).toNat = some id := by
  rw [b8_val (by omega), alarmIdOf_val rfl]

theorem stationOf_byte (n : Station) : stationOf (b8 (stationNumber n)).toNat = some n := by
  rw [b8_val (stationNumber_lt n), stationOf_number rfl]

theorem words32_read {n : Nat} (h : n < 4294967296) :
    (w16 (n / 65536)).toNat * 65536 + (w16 n).toNat = n := by
  rw [w16_val (by omega)]
  simp only [w16, BitVec.toNat_ofNat]
  omega

theorem bit_le (b : Bool) : bit b ≤ 1 := by cases b <;> decide

theorem bit_eq_one (b : Bool) : (b8 (bit b)).getLsbD 0 = b := by cases b <;> rfl

theorem stampOf_words {t : Stamp} (h : t.fits) :
    stampOf t.day (w16 (bit t.valid * 32768 + t.sec / 65536 % 2)) (w16 t.sec) = t := by
  obtain ⟨day, sec, valid⟩ := t
  have range : sec < 131072 := h
  have high : (w16 (bit valid * 32768 + sec / 65536 % 2)).toNat = bit valid * 32768 + sec / 65536 % 2 :=
    w16_val (by have := bit_le valid; omega)
  have flag : (w16 (bit valid * 32768 + sec / 65536 % 2)).getLsbD 15 = valid := by
    rw [BitVec.getLsbD, high, Nat.testBit_eq_decide_div_mod_eq]
    cases valid <;> simp [bit] <;> omega
  have low : (w16 sec).toNat = sec % 65536 := by simp [w16]
  simp only [stampOf, flag, high, low, Stamp.mk.injEq, true_and, and_true]
  cases valid <;> simp only [bit, if_true, Bool.false_eq_true, if_false] <;> omega

/-! ### The payloads of 11 R201 -/

theorem zoneCauseOf_code {k : ZoneCause} (h : k ≠ .peerTrip) : zoneCauseOf (b8 k.code).toNat = some k := by
  cases k with
  | peerTrip => exact absurd rfl h
  | _ => rfl

theorem parseTrip_words {m : TripMsg} (h : m.fits) : parseTrip m.words = some m := by
  obtain ⟨z, epoch, cause, channel⟩ := m
  have cause : zoneCauseOf (b8 cause.code).toNat = some cause := zoneCauseOf_code h
  cases channel with
  | none =>
    have none : hiByte 0 = 0 := rfl
    simp only [TripMsg.words, parseTrip, hiByte_bytesWord, loByte_bytesWord, zoneOf_byte, cause, none, if_true]
  | some c =>
    have one : b8 1 = 1 := rfl
    have ne : (1 : Byte) ≠ 0 := by decide
    simp only [TripMsg.words, parseTrip, hiByte_bytesWord, loByte_bytesWord, zoneOf_byte, cause, one, ne, if_false,
      if_true, chanOf_byte]

/-- The state byte of an ALERT: a code of 07, or 5 for REMOVED. -/
def alertCode : Option AlarmState → Nat
  | some st => st.code
  | none => 5

theorem alertCode_read (st : Option AlarmState) :
    ¬ ((b8 (alertCode st)).toNat = 0 ∨ 5 < (b8 (alertCode st)).toNat)
      ∧ alarmStateOf (b8 (alertCode st)).toNat = st := by
  rcases st with _ | st
  · exact ⟨by decide, rfl⟩
  · cases st <;> exact ⟨by decide, rfl⟩

theorem alertWords_eq (m : AlertMsg) :
    m.words = [bytesWord m.id.val m.priority, bytesWord (alertCode m.state) (bit m.value.isSome), m.seq, m.time.day,
      w16 (bit m.time.valid * 32768 + m.time.sec / 65536 % 2), w16 m.time.sec, w16 (m.value.getD 0)] := by
  unfold AlertMsg.words alertCode
  cases m.state <;> rfl

theorem value_read {v : Option Nat} (h : ∀ n, v = some n → n < 65536) :
    (if (b8 (bit v.isSome)).getLsbD 0 then some (w16 (v.getD 0)).toNat else none) = v := by
  rw [bit_eq_one]
  cases v with
  | none => rfl
  | some n => exact congrArg some (w16_val (h n rfl))

theorem parseAlert_words {m : AlertMsg} (h : m.fits) : parseAlert m.words = some m := by
  obtain ⟨priority, time, value⟩ := h
  obtain ⟨known, state⟩ := alertCode_read m.state
  rw [alertWords_eq]
  simp only [parseAlert, hiByte_bytesWord, loByte_bytesWord, alarmIdOf_byte, known, if_false, state, b8_val priority,
    stampOf_words time]
  exact congrArg some (by rw [value_read value])

theorem parseDemand_words (z : Zone) {d : Demand} (h : d.target < 65536) :
    parseDemand (demandWords z d) = some (z, d) := by
  simp only [parseDemand, demandWords, hiByte_bytesWord, loByte_bytesWord, zoneOf_byte, stationOf_byte, w16_val h]

theorem closeKindOf_code (k : CloseKind) : closeKindOf (b8 k.code).toNat = some k := by cases k <;> rfl

theorem parseShift_words {m : ShiftMsg} (h : m.fits) : parseShift m.summary.station m.words = some m := by
  obtain ⟨energy, volume, trips, p1⟩ := h
  simp only [parseShift, ShiftMsg.words, words32, List.cons_append, List.nil_append, hiByte_bytesWord,
    loByte_bytesWord, b8_val (stationNumber_lt _), if_true, closeKindOf_code, bit_eq_one, words32_read energy,
    words32_read volume, w16_val trips, w16_val p1]

theorem ackWords_read (n : Station) (id : AlarmId) (seq : Word) :
    ackTarget (ackWords n id seq) = stationNumber n
      ∧ ∃ w, ackWords n id seq = [w, seq] ∧ (loByte w).toNat = id.val := by
  refine ⟨?_, _, rfl, ?_⟩
  · rw [ackTarget, ackWords, List.headD_cons, hiByte_bytesWord, b8_val (stationNumber_lt n)]
  · rw [loByte_bytesWord, b8_val (by omega)]

/-! ### SNAP (11 R200) -/

theorem zoneFlags_read (a b c d e : Bool) :
    (w16 (bit a + 2 * bit b + 4 * bit c + 8 * bit d + 16 * bit e)).getLsbD 0 = a
      ∧ (w16 (bit a + 2 * bit b + 4 * bit c + 8 * bit d + 16 * bit e)).getLsbD 1 = b
      ∧ (w16 (bit a + 2 * bit b + 4 * bit c + 8 * bit d + 16 * bit e)).getLsbD 2 = c
      ∧ (w16 (bit a + 2 * bit b + 4 * bit c + 8 * bit d + 16 * bit e)).getLsbD 3 = d
      ∧ (w16 (bit a + 2 * bit b + 4 * bit c + 8 * bit d + 16 * bit e)).getLsbD 4 = e := by
  revert a b c d e
  decide

theorem flags_read (hi : Nat) (a b c : Bool) :
    (bytesWord hi (bit a + 2 * bit b + 4 * bit c)).getLsbD 0 = a
      ∧ (bytesWord hi (bit a + 2 * bit b + 4 * bit c)).getLsbD 1 = b
      ∧ (bytesWord hi (bit a + 2 * bit b + 4 * bit c)).getLsbD 2 = c := by
  rw [bytesWord_lsb _ _ (by decide), bytesWord_lsb _ _ (by decide), bytesWord_lsb _ _ (by decide)]
  revert a b c
  decide

theorem zoneStateOf_code (st : ZoneState) : zoneStateOf (b8 st.code).toNat = some st := by cases st <;> rfl

theorem modeOf_code {m : Mode} (h : m ≠ .unconfigured) : modeOf (b8 m.code).toNat = some m := by
  cases m with
  | unconfigured => exact absurd rfl h
  | _ => rfl

theorem fuelStateOf_code {st : ChState} (h : st.fuelCode ≠ 0) : fuelStateOf (b8 st.fuelCode).toNat = some st := by
  cases st with
  | starting => exact absurd rfl h
  | fanFault => exact absurd rfl h
  | _ => rfl

theorem fanStateOf_code {st : ChState} (h : st.fanCode ≠ 0) : fanStateOf (b8 st.fanCode).toNat = some st := by
  cases st with
  | off | starting | running | fanFault => rfl
  | _ => exact absurd rfl h

/-- An optional value read back from its flag and its word. -/
theorem present_read {α : Type} (x : Option α) (d : α) : (if x.isSome then some (x.getD d) else none) = x := by
  cases x <;> rfl

theorem parseZoneBlocks_words {bs : List ZoneBlock} (h : ∀ b ∈ bs, b.fits) (rest : List Word) :
    parseZoneBlocks bs.length (bs.flatMap ZoneBlock.words ++ rest) = some (bs, rest) := by
  induction bs with
  | nil => rfl
  | cons b bs ih =>
    have more := ih fun x hx => h x (List.mem_cons_of_mem _ hx)
    have target := h b List.mem_cons_self
    obtain ⟨z, st, epoch, demand, scanner, fuelOpen⟩ := b
    obtain ⟨f0, f1, f2, f3, f4⟩ := zoneFlags_read demand.isSome scanner.isSome (scanner.getD false) fuelOpen epoch.isSome
    rw [List.flatMap_cons, List.append_assoc, List.length_cons]
    simp only [ZoneBlock.words, List.cons_append, List.nil_append, parseZoneBlocks, more]
    have block : parseZoneBlock (bytesWord z.val st.code)
        (w16 (bit demand.isSome + 2 * bit scanner.isSome + 4 * bit (scanner.getD false) + 8 * bit fuelOpen
          + 16 * bit epoch.isSome)) (epoch.getD 0) (w16 ((demand.map Demand.target).getD 0))
        ((demand.map Demand.epoch).getD 0) (bytesWord ((demand.map (fun d => stationNumber d.setter)).getD 0) 0)
          = some ⟨z, st, epoch, demand, scanner, fuelOpen⟩ := by
      simp only [parseZoneBlock, hiByte_bytesWord, loByte_bytesWord, zoneOf_byte, zoneStateOf_code, f0, f1, f2, f3, f4,
        present_read]
      cases demand with
      | none => rfl
      | some d => simp only [Option.isSome_some, if_true, Option.map_some, Option.getD_some, stationOf_byte,
          w16_val (target d rfl)]
    rw [block]

theorem parseSummary_words {x : Summary} (h : x.fits) (rest : List Word) :
    parseSummary (x.words ++ rest) = some (x, rest) := by
  cases x with
  | fuel f =>
    obtain ⟨state, rank, hmin, hmaxEff, alloc, actual, least, most⟩ := h
    obtain ⟨f0, f1, f2⟩ := flags_read f.state.fuelCode f.trim f.igniter f.valveOpen
    have kind : b8 1 = 1 := rfl
    simp only [Summary.words, List.cons_append, List.nil_append, parseSummary, hiByte_bytesWord, loByte_bytesWord,
      chanOf_byte, zoneOf_byte, kind, if_true, fuelStateOf_code state, f0, f1, f2, b8_val (show f.rank < 256 by omega),
      w16_val hmin, w16_val hmaxEff, w16_val alloc, w16_val actual, w16_val (show f.airFactor < 65536 by omega)]
    rw [if_pos ⟨rank, least, most⟩]
  | fan f =>
    obtain ⟨state, flow, recup⟩ := h
    have fan : (2 : Byte) ≠ 1 := by decide
    have kind : b8 2 = 2 := rfl
    simp only [Summary.words, List.cons_append, List.nil_append, parseSummary, hiByte_bytesWord, loByte_bytesWord,
      chanOf_byte, zoneOf_byte, fan, if_false, fanStateOf_code state, w16_val flow,
      w16_val (show f.recup < 65536 by omega), recup, if_true, kind]

theorem parseSummaries_words {xs : List Summary} (h : ∀ x ∈ xs, x.fits) (rest : List Word) :
    parseSummaries xs.length (xs.flatMap Summary.words ++ rest) = some (xs, rest) := by
  induction xs with
  | nil => rfl
  | cons x xs ih =>
    rw [List.flatMap_cons, List.append_assoc, List.length_cons]
    simp only [parseSummaries, parseSummary_words (h x List.mem_cons_self),
      ih fun y hy => h y (List.mem_cons_of_mem _ hy)]

/-- The words of an optional roll-call entry. -/
def entryWords : Option RollEntry → List Word
  | some e => e.words
  | none => []

theorem parseRollEntry_words {entry : Option RollEntry} (h : ∀ e, entry = some e → e.fits) (rest : List Word) :
    parseRollEntry entry.isSome (entryWords entry ++ rest) = some (entry, rest) := by
  cases entry with
  | none => rfl
  | some e =>
    obtain ⟨id, priority, state, time⟩ := h e rfl
    simp only [entryWords, RollEntry.words, Stamp.words, List.cons_append, List.nil_append, parseRollEntry,
      Option.isSome_some, if_true, hiByte_bytesWord, loByte_bytesWord, b8_val id, b8_val priority, b8_val state,
      stampOf_words time]

theorem snapWords_eq (m : SnapMsg) :
    m.words = bytesWord m.mode.code (bit m.shift.isSome + 2 * bit m.timeValid + 4 * bit m.entry.isSome)
      :: m.shift.getD 0 :: bytesWord m.listed m.index :: bytesWord m.zones.length m.chans.length
        :: (entryWords m.entry ++ (m.zones.flatMap ZoneBlock.words ++ (m.chans.flatMap Summary.words ++ []))) := by
  unfold SnapMsg.words entryWords
  cases m.entry <;> simp

theorem parseSnap_words {m : SnapMsg} (h : m.fits) : parseSnap m.words = some m := by
  obtain ⟨mode, listed, index, nz, nc, zones, chans, entry, zfits, cfits⟩ := h
  obtain ⟨f0, f1, f2⟩ := flags_read m.mode.code m.shift.isSome m.timeValid m.entry.isSome
  have parts : parseParts m.entry.isSome m.zones.length m.chans.length
      (entryWords m.entry ++ (m.zones.flatMap ZoneBlock.words ++ (m.chans.flatMap Summary.words ++ [])))
        = some (m.entry, m.zones, m.chans) := by
    simp only [parseParts, parseRollEntry_words entry, parseZoneBlocks_words zfits, parseSummaries_words cfits]
    exact if_pos ⟨zones, chans⟩
  have ranges : m.listed ≤ 48 ∧ m.index ≤ 47 ∧ m.zones.length ≤ 4 ∧ m.chans.length ≤ 8 := ⟨listed, index, nz, nc⟩
  rw [snapWords_eq]
  simp only [parseSnap, hiByte_bytesWord, loByte_bytesWord, b8_val (show m.listed < 256 by omega),
    b8_val (show m.index < 256 by omega), b8_val (show m.zones.length < 256 by omega),
    b8_val (show m.chans.length < 256 by omega), modeOf_code mode, f0, f1, f2, parts, present_read]
  rw [if_pos ranges]

/-- Settles O11: each payload is read back field by field. -/
theorem payloadsRoundTrip : Obligations.PayloadsRoundTrip :=
  ⟨fun _ => parseSnap_words, fun _ => parseTrip_words, fun _ => parseAlert_words, fun z _ => parseDemand_words z,
    fun _ => parseShift_words, ackWords_read⟩

end Sys2Proof.Proofs
end

section
/-! PROOF. An offered TRIP always finds room (O12): a full queue holds a waiting frame of lower priority, or two
waiting TRIPs of one zone. -/

namespace Sys2Proof.Proofs
open Sys2Proof.Machine

/-! ### What a full queue gives up (01 R12) -/

theorem worstWaiting_skip {n : Nat} (q : List TxFrame) {f : TxFrame} (h : f.inSend = true ∨ f.cls.code ≤ n) :
    worstWaiting n (q ++ [f]) = worstWaiting n q := by
  unfold worstWaiting
  rw [List.foldl_append, List.foldl_cons, List.foldl_nil, if_pos h]

theorem worstWaiting_take {n : Nat} (q : List TxFrame) {f : TxFrame} (h : ¬ (f.inSend = true ∨ f.cls.code ≤ n)) :
    worstWaiting n (q ++ [f]) = some ((worstWaiting n q).elim f.cls.code fun m => max m f.cls.code) := by
  unfold worstWaiting
  rw [List.foldl_append, List.foldl_cons, List.foldl_nil, if_neg h]
  cases List.foldl _ none q <;> rfl

theorem worstWaiting_some {n m : Nat} {q : List TxFrame} (h : worstWaiting n q = some m) :
    ∃ f ∈ q, f.inSend = false ∧ f.cls.code = m ∧ n < m := by
  induction q using List.reverseRecOn generalizing m with
  | nil => cases h
  | append_singleton q f ih =>
    have older : ∀ {m}, worstWaiting n q = some m → ∃ g ∈ q ++ [f], g.inSend = false ∧ g.cls.code = m ∧ n < m :=
      fun hm =>
      (ih hm).imp fun g ⟨mem, hg⟩ => ⟨List.mem_append_left _ mem, hg⟩
    by_cases skip : f.inSend = true ∨ f.cls.code ≤ n
    · exact older (worstWaiting_skip q skip ▸ h)
    · have mine : f.inSend = false := by simpa using fun sent => skip (.inl sent)
      have below : n < f.cls.code := by simpa using fun le => skip (.inr le)
      rw [worstWaiting_take q skip, Option.some_inj] at h
      cases worst : worstWaiting n q with
      | none =>
        rw [worst] at h
        exact ⟨f, by simp, mine, h, h ▸ below⟩
      | some k =>
        rw [worst, Option.elim_some] at h
        rcases Nat.le_total k f.cls.code with le | le
        · exact ⟨f, by simp, mine, by rw [← h, Nat.max_eq_right le], by omega⟩
        · rw [Nat.max_eq_left le] at h
          exact older (h ▸ worst)

theorem worstWaiting_none {n : Nat} {q : List TxFrame} (h : worstWaiting n q = none) :
    ∀ f ∈ q, f.inSend = true ∨ f.cls.code ≤ n := by
  induction q using List.reverseRecOn with
  | nil => simp
  | append_singleton q f ih =>
    by_cases skip : f.inSend = true ∨ f.cls.code ≤ n
    · intro g hg
      rcases List.mem_append.mp hg with old | last
      · exact ih (worstWaiting_skip q skip ▸ h) g old
      · exact (List.mem_singleton.mp last) ▸ skip
    · rw [worstWaiting_take q skip] at h
      cases h

theorem youngestOf_isSome {m : Nat} {q : List TxFrame} {f : TxFrame} (mem : f ∈ q) (waits : f.inSend = false)
    (code : f.cls.code = m) : (youngestOf m q).isSome = true := by
  obtain ⟨i, hi, rfl⟩ := List.mem_iff_getElem.mp mem
  have cand : (q[i], i) ∈ q.zipIdx.filter fun x => !x.1.inSend && x.1.cls.code == m :=
    List.mem_filter.mpr ⟨List.mem_zipIdx_iff_getElem?.mpr (List.getElem?_eq_getElem hi), by simp [waits, code]⟩
  rw [youngestOf, Option.isSome_map, List.getLast?_isSome]
  exact fun e => by rw [e] at cand; cases cand

/-- The waiting TRIPs of a queue. -/
def waitingTrips (q : List TxFrame) : List TxFrame := q.filter fun f => !f.inSend && f.cls == .trip

/-- With no zone named by two of them, the waiting TRIPs are four at most. -/
theorem waitingTrips_length_le {q : List TxFrame} (none : surplusTrip q = none)
    (zones : ∀ f ∈ q, f.cls = .trip → (tripZoneByte f).toNat < 4) : (waitingTrips q).length ≤ 4 := by
  have single := List.findIdx?_eq_none_iff.mp none
  have distinct : ((waitingTrips q).map tripZoneByte).Nodup := by
    refine List.nodup_iff_count_le_one.mpr fun z => ?_
    by_contra twice
    have mem : z ∈ (waitingTrips q).map tripZoneByte := List.count_pos_iff.mp (by omega)
    obtain ⟨f, hf, rfl⟩ := List.mem_map.mp mem
    obtain ⟨mem, waits⟩ := List.mem_filter.mp hf
    have one := single f mem
    rw [waits, Bool.true_and, decide_eq_false_iff_not] at one
    refine one ?_
    rw [List.count, List.countP_map, waitingTrips, List.countP_filter] at twice
    have same : (fun g : TxFrame => ((· == tripZoneByte f) ∘ tripZoneByte) g && (!g.inSend && g.cls == .trip))
        = fun g => !g.inSend && g.cls == .trip && tripZoneByte g == tripZoneByte f :=
      funext fun g => Bool.and_comm _ _
    rw [same] at twice
    omega
  have numbers : (((waitingTrips q).map tripZoneByte).map BitVec.toNat).Nodup :=
    distinct.map fun _ _ => BitVec.eq_of_toNat_eq
  have range : ((waitingTrips q).map tripZoneByte).map BitVec.toNat ⊆ List.range 4 := by
    intro n hn
    simp only [List.map_map, List.mem_map, Function.comp_apply] at hn
    obtain ⟨f, hf, rfl⟩ := hn
    obtain ⟨mem, waits⟩ := List.mem_filter.mp hf
    simp only [Bool.and_eq_true, beq_iff_eq] at waits
    exact List.mem_range.mpr (zones f mem waits.2)
  simpa using (numbers.subperm range).length_le

/-- Of a full queue of frames of the highest priority all but the one in send are waiting TRIPs. -/
theorem waitingTrips_of_none {q : List TxFrame} (none : worstWaiting FrameClass.trip.code q = none)
    (one : q.countP TxFrame.inSend ≤ 1) : q.length ≤ (waitingTrips q).length + 1 := by
  have all : ∀ f ∈ q, (¬ f.inSend = true) ↔ (!f.inSend && f.cls == .trip) = true := by
    intro f hf
    have class0 : f.inSend = true ∨ f.cls = .trip := (worstWaiting_none none f hf).imp_right fun le => by
      cases hc : f.cls with
      | trip => rfl
      | _ => rw [hc] at le; exact absurd le (by decide)
    rcases class0 with h | h <;> simp [h]
  have rest := List.length_eq_countP_add_countP TxFrame.inSend (l := q)
  have waiting : q.countP (fun f => decide ¬ f.inSend = true) = (waitingTrips q).length := by
    rw [waitingTrips, ← List.countP_eq_length_filter]
    exact List.countP_congr fun f hf => by rw [decide_eq_true_iff]; exact all f hf
  omega

/-- Settles O12: a TRIP that finds the queue full evicts a waiting frame of a lower priority, or the older of two
waiting TRIPs of one zone. -/
theorem tripNeverRefused : Obligations.TripNeverRefused := by
  intro s m mode room one zones
  have new : s.li.tx.any (replaceable .trip m.words) = false :=
    List.any_eq_false.mpr fun g _ => by simp [replaceable, matchesKey, sameKey]
  have evicts : 12 ≤ s.li.tx.length → (evictee .trip s.li.tx).isSome = true := by
    intro full
    unfold evictee
    cases worst : worstWaiting FrameClass.trip.code s.li.tx with
    | some k =>
      obtain ⟨f, mem, waits, code, -⟩ := worstWaiting_some worst
      exact Option.isSome_map.trans (youngestOf_isSome mem waits code)
    | none =>
      have many := waitingTrips_of_none worst one
      rw [if_pos rfl, Option.isSome_map, Option.isSome_iff_ne_none]
      intro none
      have := waitingTrips_length_le none zones
      omega
  have fresh : ∀ t : State, (∃ q, t.li.tx = insertFrame (s.newFrame .trip m.words 0 0) q) →
      ∃ f ∈ t.li.tx, f.cls = .trip ∧ f.payload = m.words ∧ f.inSend = false := by
    rintro t ⟨q, tx⟩
    exact ⟨s.newFrame .trip m.words 0 0, by rw [tx]; exact mem_insertFrame.mpr (.inl rfl), rfl, rfl, rfl⟩
  have refused : (s.offer .trip m.words 0 0).2 = .accepted := by
    unfold State.offer
    dsimp only
    rw [if_neg mode, if_neg (by simp), if_neg (by simp [new]), if_neg (by simp)]
    split
    · rfl
    · rename_i full
      obtain ⟨⟨i, b⟩, h⟩ := Option.isSome_iff_exists.mp (evicts (by omega))
      rw [h]
  refine ⟨refused, ?_⟩
  obtain ⟨-, h⟩ | ⟨-, -, ⟨h, -⟩ | ⟨-, -, ⟨-, h⟩ | ⟨-, i, b, -, h⟩⟩⟩ := offer_cases s .trip m.words 0 0
  · exact absurd refused h
  · rw [new] at h; cases h
  · exact fresh _ ⟨_, by rw [h]; rfl⟩
  · exact fresh _ ⟨_, by rw [h]; rfl⟩

end Sys2Proof.Proofs
end

section
/-! PROOF. The longer operations of the channel engine: the ramp, feed targets, derating, entry to RUNNING and STOPPING,
trips and fans. Each is a sequence of changes of one channel, and makes a stated record of it (03 sections 3.4 to 3.8). -/

namespace Sys2Proof.Proofs
open Sys2Proof.Machine

/-! ### The records the operations make -/

/-- The record after feeder acquisition has restarted. -/
def acquiringRec (ch : Channel) (now : Nat) : Channel :=
  match ch.track with
  | none => ch
  | some t => { ch with
      track := some { t with tracking := false, locked := false, within := 0, outside := 0 }
      unlockedClock := none
      acquiringClock := some (now + seconds 60) }

/-- The record after the end of STOPPING. -/
def stoppedRec (ch : Channel) : Channel := issuedRec (offRec ch) (.setFeed 0)

/-- The setpoint a step of the ramp gives. -/
def rampTo (ch : Channel) (f : FuelCfg) : Nat := rampMove ch.setpoint ch.target f.ramp

/-- The record after a step of the ramp that does not end STOPPING. -/
def rampedRec (ch : Channel) (f : FuelCfg) (t : Nat) : Channel :=
  issuedRec { ch with
    setpoint := rampTo ch f
    rampNext := if rampTo ch f = ch.target then none else some (t + seconds 1) } (.setFeed (rampTo ch f))

/-- The record after a step of the ramp. -/
def stepRec (ch : Channel) (f : FuelCfg) (t : Nat) : Channel :=
  if ch.state = .stopping ∧ rampTo ch f = f.fmin then stoppedRec (rampedRec ch f t) else rampedRec ch f t

/-- The record after a feed target is set, before a step of the ramp. -/
def aimedRec (ch : Channel) (f : FuelCfg) (target now : Nat) : Channel :=
  if 5 * f.fmax < absDiff target ch.target * 100 then acquiringRec { ch with target := target } now
  else { ch with target := target }

/-- The record after a feed target is set. -/
def retargetRec (ch : Channel) (f : FuelCfg) (target now : Nat) : Channel :=
  if ch.rampNext = none ∧ target ≠ ch.setpoint then stepRec (aimedRec ch f target now) f now
  else aimedRec ch f target now

/-- The record after an allocation is held. -/
def holdRec (ch : Channel) (f : FuelCfg) (a now : Nat) : Channel :=
  if ch.alloc = a then ch else retargetRec { ch with alloc := a } f (feedOf f a) now

/-- The record after Hmax_eff is set. -/
def effRec (ch : Channel) (f : FuelCfg) (v now : Nat) : Channel :=
  if ch.state = .running ∧ v < ch.alloc then holdRec { ch with hmaxEff := v } f v now else { ch with hmaxEff := v }

/-- The record after a passed proof. -/
def ranRec (ch : Channel) (f : FuelCfg) (isolated : Bool) (now : Nat) : Channel :=
  retargetRec { ch with
    proof := none
    alloc := ch.hmin
    state := if isolated then .limited else .running
    track := some ⟨false, false, 0, 0, none⟩
    unlockedClock := none
    acquiringClock := some (now + seconds 60) } f (if isolated then f.fmin else feedOf f ch.hmin) now

/-- The record after CHANNEL_STOP in RUNNING or LIMITED. -/
def stoppingRec (ch : Channel) (f : FuelCfg) (now : Nat) : Channel :=
  if ch.setpoint = f.fmin then stoppedRec { ch with alloc := ch.hmin, state := .stopping, target := f.fmin }
  else retargetRec { ch with alloc := ch.hmin, state := .stopping } f f.fmin now

/-- The record after a trip that enters `st`. -/
def trippedRec (ch : Channel) (cause : TripCause) (st : ChState) (clock : Nat) (stamp : Stamp) : Channel :=
  { match ch.inFlight with
    | none => sentRec { untrackedRec (ch.tripRecord cause clock stamp) with queued := none } (.setFeed 0) 1
    | some _ => { untrackedRec (ch.tripRecord cause clock stamp) with queued := some (.setFeed 0) } with state := st }

/-- The record of a fan after a setpoint is handed to it. -/
def flowRec (ch : Channel) (v : Nat) : Channel :=
  if ch.setpoint = v then ch else issuedRec { ch with setpoint := v } (.setFlow v)

variable (s : State) (c : Chan)

/-! ### The conditions of a state (03 section 3.7) -/

theorem trip_ne_lockout : idChannelTrip c ≠ idChannelLockout c := by revert c; decide
theorem trip_ne_fanFault : idChannelTrip c ≠ idFanFault c := by revert c; decide
theorem lockout_ne_fanFault : idChannelLockout c ≠ idFanFault c := by revert c; decide

@[simp] theorem setCond_configured (id : AlarmId) (v : Bool) (x : Option Nat) :
    (s.setCond id v x).configured = s.configured := by
  rw [State.configured, config_of_plant (State.setCond_plant _ _ _ _), State.configured]

/-- Writes of the three conditions, in the order of a change of state. -/
theorem stateConds_write (on : s.configured = true) (a b d : Bool) (x y z : Option Nat) :
    (((s.setCond (idChannelTrip c) a x).setCond (idChannelLockout c) b y).setCond (idFanFault c) d z).cond
        (idChannelTrip c) = a
      ∧ (((s.setCond (idChannelTrip c) a x).setCond (idChannelLockout c) b y).setCond (idFanFault c) d z).cond
        (idChannelLockout c) = b
      ∧ (((s.setCond (idChannelTrip c) a x).setCond (idChannelLockout c) b y).setCond (idFanFault c) d z).cond
        (idFanFault c) = d := by
  simp [State.setCond_cond, on, trip_ne_lockout, trip_ne_fanFault, lockout_ne_fanFault]

/-- A change of state writes the three conditions that follow the state. -/
theorem setChState_conds (on : s.configured = true) {st : ChState} (h : (s.chan c).state ≠ st) :
    (s.setChState c st).cond (idChannelTrip c) = (st == .tripped)
      ∧ (s.setChState c st).cond (idChannelLockout c) = (st == .lockedOut)
      ∧ (s.setChState c st).cond (idFanFault c) = (st == .fanFault) := by
  unfold State.setChState
  rw [if_neg h]
  dsimp only
  have written : (((s.mapChan c fun ch => { ch with state := st }).notify .channelState).mapAcct c
      fun a => a.setRunning st.runs s.now).configured = true := on
  generalize ((s.mapChan c fun ch => { ch with state := st }).notify .channelState).mapAcct c
      (fun a => a.setRunning st.runs s.now) = t at written ⊢
  exact stateConds_write t c written _ _ _ _ _ _

/-! ### Feed targets (03 R49) -/

theorem restartAcquiring_chanMoves : ChanMoves c s (s.restartAcquiring c) := by
  unfold State.restartAcquiring
  split
  · exact .refl
  dsimp only
  split
  · exact (ChanMoves.record .refl _).notify _
  · exact .record .refl _

@[simp] theorem restartAcquiring_chan_same : (s.restartAcquiring c).chan c = acquiringRec (s.chan c) s.now := by
  unfold State.restartAcquiring acquiringRec
  cases (s.chan c).track with
  | none => rfl
  | some t =>
    dsimp only
    split <;> simp

theorem finishStopping_chanMoves : ChanMoves c s (s.finishStopping c) :=
  (enterOff_chanMoves s c).trans (issue_chanMoves _ c _)

@[simp] theorem finishStopping_chan_same : (s.finishStopping c).chan c = stoppedRec (s.chan c) := by
  simp [State.finishStopping, stoppedRec]

theorem stepRamp_chanMoves (f : FuelCfg) (t : Nat) : ChanMoves c s (s.stepRamp c f t) := by
  unfold State.stepRamp
  dsimp only
  split
  · exact ((ChanMoves.record .refl _).trans (issue_chanMoves _ c _)).trans (finishStopping_chanMoves _ c)
  · exact (ChanMoves.record .refl _).trans (issue_chanMoves _ c _)

@[simp] theorem stepRamp_chan_same (f : FuelCfg) (t : Nat) :
    (s.stepRamp c f t).chan c = stepRec (s.chan c) f t := by
  unfold State.stepRamp stepRec rampedRec rampTo
  dsimp only
  split <;> simp

theorem retarget_chanMoves (f : FuelCfg) (target : Nat) : ChanMoves c s (s.retarget c f target) := by
  unfold State.retarget
  dsimp only
  have m : ChanMoves c s (s.mapChan c fun x => { x with target := target }) := .record .refl _
  have m' := m.trans (restartAcquiring_chanMoves _ c)
  repeat' split
  · exact m'.trans (stepRamp_chanMoves _ c f _)
  · exact m.trans (stepRamp_chanMoves _ c f _)
  · exact m'
  · exact m

@[simp] theorem retarget_chan_same (f : FuelCfg) (target : Nat) :
    (s.retarget c f target).chan c = retargetRec (s.chan c) f target s.now := by
  unfold State.retarget retargetRec aimedRec
  dsimp only
  split <;> split <;> simp

theorem holdAlloc_chanMoves (f : FuelCfg) (a : Nat) : ChanMoves c s (s.holdAlloc c f a) := by
  unfold State.holdAlloc
  split
  · exact .refl
  · exact (ChanMoves.record .refl _).trans (retarget_chanMoves _ c f _)

@[simp] theorem holdAlloc_chan_same (f : FuelCfg) (a : Nat) :
    (s.holdAlloc c f a).chan c = holdRec (s.chan c) f a s.now := by
  unfold State.holdAlloc holdRec
  split
  · rfl
  · simp

theorem deliver_chanMoves (a : Nat) : ChanMoves c s (s.deliver c a) := by
  unfold State.deliver
  split
  · exact .refl
  split
  · exact holdAlloc_chanMoves s c _ _
  · exact .refl

/-! ### Derating (03 R51, R52) -/

theorem setHmaxEff_chanMoves (f : FuelCfg) (v : Nat) : ChanMoves c s (s.setHmaxEff c f v) := by
  unfold State.setHmaxEff
  dsimp only
  split
  · exact (ChanMoves.record .refl _).trans (holdAlloc_chanMoves _ c f _)
  · exact .record .refl _

@[simp] theorem setHmaxEff_chan_same (f : FuelCfg) (v : Nat) :
    (s.setHmaxEff c f v).chan c = effRec (s.chan c) f v s.now := by
  unfold State.setHmaxEff effRec
  dsimp only
  split <;> simp

@[simp] theorem setCond_now (id : AlarmId) (v : Bool) (x : Option Nat) : (s.setCond id v x).now = s.now :=
  now_of_plant (State.setCond_plant _ _ _ _)

theorem startDerating_chanMoves (f : FuelCfg) : ChanMoves c s (s.startDerating c f) :=
  (ChanMoves.cond .refl (by simp [stateIds]) _ _).trans (setHmaxEff_chanMoves _ c f _)

@[simp] theorem startDerating_chan_same (f : FuelCfg) :
    (s.startDerating c f).chan c = effRec (s.chan c) f (s.chan c).derated s.now := by
  simp [State.startDerating]

theorem endDerating_chanMoves : ChanMoves c s (s.endDerating c) :=
  (ChanMoves.record .refl _).cond (by simp [stateIds]) _ _

@[simp] theorem endDerating_chan_same :
    (s.endDerating c).chan c = { s.chan c with hmaxEff := (s.chan c).hmax } := by
  simp [State.endDerating]

/-! ### Entry to RUNNING and STOPPING (03 R54 to R56) -/

theorem enterRunning_chanMoves (f : FuelCfg) : ChanMoves c s (s.enterRunning c f) :=
  (ChanMoves.record ((ChanMoves.record .refl _).trans (setChState_chanMoves _ c _)) _).trans
    (retarget_chanMoves _ c f _)

@[simp] theorem setChState_now (st : ChState) : (s.setChState c st).now = s.now := (setChState_chanMoves s c st).now

@[simp] theorem enterRunning_chan_same (f : FuelCfg) :
    (s.enterRunning c f).chan c = ranRec (s.chan c) f (s.pt.mode == .isolated) s.now := by
  simp [State.enterRunning, ranRec, State.startTracking]

theorem startStopping_chanMoves (f : FuelCfg) : ChanMoves c s (s.startStopping c f) := by
  unfold State.startStopping
  dsimp only
  have m : ChanMoves c s ((s.mapChan c fun ch => { ch with alloc := ch.hmin }).setChState c .stopping) :=
    (ChanMoves.record .refl _).trans (setChState_chanMoves _ c _)
  split
  · exact (m.record _).trans (finishStopping_chanMoves _ c)
  · exact m.trans (retarget_chanMoves _ c f _)

@[simp] theorem startStopping_chan_same (f : FuelCfg) :
    (s.startStopping c f).chan c = stoppingRec (s.chan c) f s.now := by
  unfold State.startStopping stoppingRec
  dsimp only
  split <;> simp

/-! ### Trips (03 R57, R58) -/

/-- The state a trip enters. -/
def tripState (f : FuelCfg) (cause : TripCause) : ChState := if s.locksOut c f cause then .lockedOut else .tripped

theorem tripChannel_chanMoves (cause : TripCause) : ChanMoves c s (s.tripChannel c cause) := by
  unfold State.tripChannel
  split
  · exact .refl
  split
  case isFalse => exact .refl
  dsimp only
  have m : ChanMoves c s ((s.mapChan c fun ch => ch.tripRecord cause s.runClock s.stamp).endTracking c) :=
    (ChanMoves.record .refl _).trans (endTracking_chanMoves _ c)
  split
  · exact (ChanMoves.account ((m.record _).trans (sendCmd_chanMoves _ c _ 1)) _).trans (setChState_chanMoves _ c _)
  · exact ((m.record _).account _).trans (setChState_chanMoves _ c _)

theorem tripChannel_idle {cause : TripCause} (h : cause.reaches (s.chan c).state = false) :
    s.tripChannel c cause = s := by
  unfold State.tripChannel
  split
  · rfl
  · rw [if_neg (by simp [h])]

theorem tripChannel_chan_same {f : FuelCfg} (hf : s.fuel? c = some f) {cause : TripCause}
    (h : cause.reaches (s.chan c).state = true) :
    (s.tripChannel c cause).chan c = trippedRec (s.chan c) cause (tripState s c f cause) s.runClock s.stamp := by
  unfold State.tripChannel trippedRec tripState
  rw [hf]
  dsimp only
  rw [if_pos h]
  cases (s.chan c).inFlight <;> simp

@[simp] theorem sendCmd_acct (cmd : Cmd) (a : Nat) (d : Chan) : (s.sendCmd c cmd a).acct d = s.acct d := rfl

@[simp] theorem setCond_acct (id : AlarmId) (v : Bool) (x : Option Nat) (d : Chan) :
    (s.setCond id v x).acct d = s.acct d := acct_of_plant (State.setCond_plant _ _ _ _) d

@[simp] theorem setChState_count (st : ChState) (d : Chan) : ((s.setChState c st).acct d).count = (s.acct d).count := by
  unfold State.setChState
  split
  · rfl
  · simp only [setCond_acct]
    by_cases h : d = c
    · subst h
      rw [State.mapAcct_acct_same]
      exact (setRunning_keeps _ _ _).2.2.2.1
    · rw [State.mapAcct_acct_other _ _ (Ne.symm h)]
      rfl

theorem countTrip_count (a : Account) : (a.countTrip).count = min (a.count + 1) 65535 := rfl

theorem tripChannel_count {f : FuelCfg} (hf : s.fuel? c = some f) {cause : TripCause}
    (h : cause.reaches (s.chan c).state = true) :
    ((s.tripChannel c cause).acct c).count = min ((s.acct c).count + 1) 65535 := by
  unfold State.tripChannel
  rw [hf]
  dsimp only
  rw [if_pos h, setChState_count, State.mapAcct_acct_same, countTrip_count]
  have same : ∀ t : State, t.acct c = s.acct c → min ((t.acct c).count + 1) 65535 = min ((s.acct c).count + 1) 65535 :=
    fun t ht => by rw [ht]
  split
  · refine same _ ?_
    rw [sendCmd_acct]
    exact setCond_acct _ _ _ _ c
  · exact same _ (setCond_acct _ _ _ _ c)

/-! ### Fans (03 R60 to R62) -/

theorem startFan_chanMoves (f : FanCfg) : ChanMoves c s (s.startFan c f) :=
  ((ChanMoves.record .refl _).trans (issue_chanMoves _ c _)).trans (setChState_chanMoves _ c _)

@[simp] theorem startFan_chan_same (f : FanCfg) : (s.startFan c f).chan c = { issuedRec { s.chan c with
    setpoint := f.fmin, startClock := some (s.now + seconds 30) } (.setFlow f.fmin) with state := .starting } := by
  simp [State.startFan]

theorem stopFan_chanMoves : ChanMoves c s (s.stopFan c) :=
  ((ChanMoves.record .refl _).trans (issue_chanMoves _ c _)).trans (setChState_chanMoves _ c _)

@[simp] theorem stopFan_chan_same : (s.stopFan c).chan c = { issuedRec { s.chan c with
    setpoint := 0, startClock := none, lowFlowClock := none } (.setFlow 0) with state := .off } := by
  simp [State.stopFan]

theorem faultFan_chanMoves : ChanMoves c s (s.faultFan c) :=
  ((ChanMoves.record .refl _).account _).trans (setChState_chanMoves _ c _)

@[simp] theorem faultFan_chan_same : (s.faultFan c).chan c =
    { s.chan c with startClock := none, lowFlowClock := none, state := .fanFault } := by
  simp [State.faultFan]

theorem faultFan_count : ((s.faultFan c).acct c).count = min ((s.acct c).count + 1) 65535 := by
  unfold State.faultFan
  rw [setChState_count, State.mapAcct_acct_same, countTrip_count]
  rfl

theorem flow_chanMoves (v : Nat) : ChanMoves c s (s.setFlow c v) := by
  unfold State.setFlow
  split
  · exact .refl
  · exact (ChanMoves.record .refl _).trans (issue_chanMoves _ c _)

@[simp] theorem setFlow_chan_rec (v : Nat) : (s.setFlow c v).chan c = flowRec (s.chan c) v := by
  unfold State.setFlow flowRec
  split
  · rfl
  · simp

theorem takeBase_chanMoves (f : FanCfg) : ChanMoves c s (s.takeBase c f) := by
  unfold State.takeBase
  split
  · exact flow_chanMoves s c _
  · exact .refl

theorem flowHanded_chanMoves (f : FanCfg) : ChanMoves c s (s.flowHanded c f) := by
  unfold State.flowHanded
  dsimp only
  split
  · exact ((ChanMoves.record .refl _).trans (setChState_chanMoves _ c _)).trans (takeBase_chanMoves _ c f)
  · exact .refl

theorem adoptFan_chanMoves (f : FanCfg) (v : Nat) : ChanMoves c s (s.adoptFan c f v) := by
  unfold State.adoptFan
  dsimp only
  split
  · exact (ChanMoves.record .refl _).trans (setChState_chanMoves _ c _)
  · exact .refl

/-! ### What the handshake and the ramp keep of the record -/

section

variable (ch : Channel) (cmd : Cmd)

/-- A record with the handshake of another. -/
def shookRec (ch ch' : Channel) : Channel :=
  { ch with
    inFlight := ch'.inFlight
    queued := ch'.queued
    feedDue := ch'.feedDue
    proof := ch'.proof
    tagCtr := ch'.tagCtr }

/-- A record with the setpoint, the ramp clock and the handshake of another. -/
def fedRec (ch ch' : Channel) : Channel :=
  { shookRec ch ch' with setpoint := ch'.setpoint, rampNext := ch'.rampNext }

/-- An issued command changes the handshake only. -/
theorem issuedRec_eq : issuedRec ch cmd = shookRec ch (issuedRec ch cmd) := by
  unfold issuedRec Channel.enqueue shookRec
  split
  · rfl
  · split <;> rfl

theorem issuedRec_free {ch : Channel} (h : ch.inFlight = none) : issuedRec ch cmd = sentRec ch cmd 1 := by
  rw [issuedRec, h]

@[simp] theorem issuedRec_setpoint : (issuedRec ch cmd).setpoint = ch.setpoint :=
  (congrArg Channel.setpoint (issuedRec_eq ch cmd)).trans rfl
@[simp] theorem issuedRec_alloc : (issuedRec ch cmd).alloc = ch.alloc :=
  (congrArg Channel.alloc (issuedRec_eq ch cmd)).trans rfl
@[simp] theorem issuedRec_track : (issuedRec ch cmd).track = ch.track :=
  (congrArg Channel.track (issuedRec_eq ch cmd)).trans rfl
@[simp] theorem issuedRec_target : (issuedRec ch cmd).target = ch.target :=
  (congrArg Channel.target (issuedRec_eq ch cmd)).trans rfl
@[simp] theorem issuedRec_cause : (issuedRec ch cmd).cause = ch.cause :=
  (congrArg Channel.cause (issuedRec_eq ch cmd)).trans rfl
@[simp] theorem issuedRec_igniter : (issuedRec ch cmd).igniter = ch.igniter :=
  (congrArg Channel.igniter (issuedRec_eq ch cmd)).trans rfl
@[simp] theorem issuedRec_hmin : (issuedRec ch cmd).hmin = ch.hmin := (congrArg Channel.hmin (issuedRec_eq ch cmd)).trans rfl
@[simp] theorem issuedRec_rampNext : (issuedRec ch cmd).rampNext = ch.rampNext :=
  (congrArg Channel.rampNext (issuedRec_eq ch cmd)).trans rfl
@[simp] theorem issuedRec_startClock : (issuedRec ch cmd).startClock = ch.startClock :=
  (congrArg Channel.startClock (issuedRec_eq ch cmd)).trans rfl
@[simp] theorem issuedRec_lowFlowClock : (issuedRec ch cmd).lowFlowClock = ch.lowFlowClock :=
  (congrArg Channel.lowFlowClock (issuedRec_eq ch cmd)).trans rfl

theorem proofSent_none {ch : Channel} (h : ch.proof = none) (a : Nat) : ch.proofSent cmd a = none := by
  unfold Channel.proofSent
  split <;> simp [h]

theorem issuedRec_proof_none {ch : Channel} (h : ch.proof = none) : (issuedRec ch cmd).proof = none := by
  unfold issuedRec Channel.enqueue
  split
  · exact proofSent_none cmd h 1
  · split <;> exact h

/-- The record after the end of STOPPING, or after a stop in PROVING: OFF with SHUT asserted and nothing fed. -/
theorem offWithRec_off (off : Bool) : (offWithRec ch off).setpoint = 0 ∧ (offWithRec ch off).alloc = 0
    ∧ (offWithRec ch off).proof = none ∧ (offWithRec ch off).track = none := by
  have none1 : (issuedRec (offRec ch) (.setFeed 0)).proof = none := issuedRec_proof_none _ rfl
  unfold offWithRec
  split
  · exact ⟨by simp [offRec], by simp [offRec], issuedRec_proof_none _ none1, by simp [offRec, untrackedRec]⟩
  · exact ⟨by simp [offRec], by simp [offRec], none1, by simp [offRec, untrackedRec]⟩

theorem stoppedRec_eq : stoppedRec ch = offWithRec ch false := rfl

variable (f : FuelCfg) (target now t : Nat)

/-- Setting the target changes the tracking at most. -/
theorem aimedRec_eq : aimedRec ch f target now = { ch with
    target := target
    track := (aimedRec ch f target now).track
    unlockedClock := (aimedRec ch f target now).unlockedClock
    acquiringClock := (aimedRec ch f target now).acquiringClock } := by
  unfold aimedRec acquiringRec
  split
  · split <;> rfl
  · rfl

@[simp] theorem aimedRec_state : (aimedRec ch f target now).state = ch.state :=
  (congrArg Channel.state (aimedRec_eq ch f target now)).trans rfl
@[simp] theorem aimedRec_setpoint : (aimedRec ch f target now).setpoint = ch.setpoint :=
  (congrArg Channel.setpoint (aimedRec_eq ch f target now)).trans rfl
@[simp] theorem aimedRec_target : (aimedRec ch f target now).target = target :=
  (congrArg Channel.target (aimedRec_eq ch f target now)).trans rfl

/-- The record after a target is set: that of the aim, but for the setpoint, the ramp and the handshake. -/
theorem retargetRec_eq (going : ch.state ≠ .stopping) :
    retargetRec ch f target now = fedRec (aimedRec ch f target now) (retargetRec ch f target now) := by
  unfold retargetRec
  split
  · rw [stepRec, if_neg (by rw [aimedRec_state]; exact fun h => going h.1), rampedRec, issuedRec_eq]
    rfl
  · rfl

theorem retargetRec_proof_none {ch : Channel} (none : ch.proof = none) (going : ch.state ≠ .stopping) :
    (retargetRec ch f target now).proof = Option.none := by
  have aimed : (aimedRec ch f target now).proof = Option.none :=
    (congrArg Channel.proof (aimedRec_eq ch f target now)).trans none
  unfold retargetRec
  split
  · rw [stepRec, if_neg (by rw [aimedRec_state]; exact fun h => going h.1)]
    exact issuedRec_proof_none _ aimed
  · exact aimed

section

variable {ch : Channel} (going : ch.state ≠ .stopping)

include going

theorem retargetRec_state : (retargetRec ch f target now).state = ch.state :=
  (congrArg Channel.state (retargetRec_eq ch f target now going)).trans
    ((congrArg Channel.state (aimedRec_eq ch f target now)).trans rfl)
theorem retargetRec_shut : (retargetRec ch f target now).shutReleased = ch.shutReleased :=
  (congrArg Channel.shutReleased (retargetRec_eq ch f target now going)).trans
    ((congrArg Channel.shutReleased (aimedRec_eq ch f target now)).trans rfl)
theorem retargetRec_igniter : (retargetRec ch f target now).igniter = ch.igniter :=
  (congrArg Channel.igniter (retargetRec_eq ch f target now going)).trans
    ((congrArg Channel.igniter (aimedRec_eq ch f target now)).trans rfl)
theorem retargetRec_alloc : (retargetRec ch f target now).alloc = ch.alloc :=
  (congrArg Channel.alloc (retargetRec_eq ch f target now going)).trans
    ((congrArg Channel.alloc (aimedRec_eq ch f target now)).trans rfl)
theorem retargetRec_hmaxEff : (retargetRec ch f target now).hmaxEff = ch.hmaxEff :=
  (congrArg Channel.hmaxEff (retargetRec_eq ch f target now going)).trans
    ((congrArg Channel.hmaxEff (aimedRec_eq ch f target now)).trans rfl)
theorem retargetRec_target : (retargetRec ch f target now).target = target :=
  (congrArg Channel.target (retargetRec_eq ch f target now going)).trans (aimedRec_target ch f target now)

end

end

end Sys2Proof.Proofs
end

section
/-! PROOF. The requests on channels: CHANNEL_START, CHANNEL_STOP, RESET_TRIP and RELEASE_LOCKOUT (O26, O27, O28). -/

namespace Sys2Proof.Proofs
open Sys2Proof.Machine

section

variable {s : State} {w : Word} {c : Chan}

/-! ### The argument of a channel request (03 R38) -/

theorem chanArg_above (h : 8 ≤ w.toNat) : s.chanArg w = .refused .badArgument := by
  rw [State.chanArg, chanOf_above h]

theorem chanArg_unused (h : w.toNat = c.val) (hc : s.chanCfg c = .unused) : s.chanArg w = .refused .badArgument := by
  rw [State.chanArg, chanOf_val h]
  simp only [hc]

theorem chanArg_unusable {f : FuelCfg} (h : w.toNat = c.val) (hc : s.chanCfg c = .fuel f) (ncv : f.ncv = 0) :
    s.chanArg w = .refused .state := by
  rw [State.chanArg, chanOf_val h]
  simp only [hc, ncv, if_true]

theorem chanArg_of_fuel {f : FuelCfg} (h : w.toNat = c.val) (hf : s.fuel? c = some f) : s.chanArg w = .fuel c f := by
  obtain ⟨kind, ncv⟩ := fuel?_some hf
  rw [State.chanArg, chanOf_val h]
  simp only [kind, ncv, if_false]

theorem fan?_some {f : FanCfg} (h : s.fan? c = some f) : s.chanCfg c = .fan f := by
  unfold State.fan? at h
  split at h
  · cases h
    assumption
  · cases h

theorem chanArg_of_fan {f : FanCfg} (h : w.toNat = c.val) (hf : s.fan? c = some f) : s.chanArg w = .fan c f := by
  rw [State.chanArg, chanOf_val h]
  simp only [fan?_some hf]

/-! ### What each request does with its argument -/

theorem channelStart_refused (serves : s.serves 4 [w]) {r : Reason} (ha : s.chanArg w = .refused r) :
    exec (.channelStart w) s = .next (s.refuse 4 r) :=
  congrArg Host.Outcome.next ((request_served serves _).trans (by simp only [ha]))

theorem channelStart_fuel (serves : s.serves 4 [w]) {f : FuelCfg} (ha : s.chanArg w = .fuel c f) :
    exec (.channelStart w) s = .next (s.startFuel c f) :=
  congrArg Host.Outcome.next ((request_served serves _).trans (by simp only [ha]))

theorem channelStart_fan (serves : s.serves 4 [w]) {f : FanCfg} (ha : s.chanArg w = .fan c f) :
    exec (.channelStart w) s = .next (s.startFanRequest c f) :=
  congrArg Host.Outcome.next ((request_served serves _).trans (by simp only [ha]))

theorem channelStop_refused (serves : s.serves 5 [w]) {r : Reason} (ha : s.chanArg w = .refused r) :
    exec (.channelStop w) s = .next (s.refuse 5 r) :=
  congrArg Host.Outcome.next ((request_served serves _).trans (by simp only [ha]))

theorem channelStop_fuel (serves : s.serves 5 [w]) {f : FuelCfg} (ha : s.chanArg w = .fuel c f) :
    exec (.channelStop w) s = .next (s.stopFuel c f) :=
  congrArg Host.Outcome.next ((request_served serves _).trans (by simp only [ha]))

theorem channelStop_fan (serves : s.serves 5 [w]) {f : FanCfg} (ha : s.chanArg w = .fan c f) :
    exec (.channelStop w) s = .next (s.stopFanRequest c) :=
  congrArg Host.Outcome.next ((request_served serves _).trans (by simp only [ha]))

theorem resetTrip_refused (serves : s.serves 6 [w]) {r : Reason} (ha : s.chanArg w = .refused r) :
    exec (.resetTrip w) s = .next (s.refuse 6 r) :=
  congrArg Host.Outcome.next ((request_served serves _).trans (by simp only [ha]))

theorem resetTrip_fuel (serves : s.serves 6 [w]) {f : FuelCfg} (ha : s.chanArg w = .fuel c f) :
    exec (.resetTrip w) s = .next (if (s.chan c).state = .tripped ∧ (s.zone f.zone).state ≠ .tripped
      ∧ s.causeCleared c f = true then finish s ((s.enterOff c).ok 6) else s.refuse 6 .state) :=
  congrArg Host.Outcome.next ((request_served serves _).trans (by simp only [ha]))

theorem resetTrip_fan (serves : s.serves 6 [w]) {f : FanCfg} (ha : s.chanArg w = .fan c f) :
    exec (.resetTrip w) s = .next (if (s.chan c).state = .fanFault ∧ s.decides = true then
      finish s ((s.startFan c f).ok 6) else s.refuse 6 .state) :=
  congrArg Host.Outcome.next ((request_served serves _).trans (by simp only [ha]))

theorem releaseLockout_refused (serves : s.serves 7 [w]) {r : Reason} (ha : s.chanArg w = .refused r) :
    exec (.releaseLockout w) s = .next (s.refuse 7 r) :=
  congrArg Host.Outcome.next ((request_served serves _).trans (by simp only [ha]))

theorem releaseLockout_fan (serves : s.serves 7 [w]) {f : FanCfg} (ha : s.chanArg w = .fan c f) :
    exec (.releaseLockout w) s = .next (s.refuse 7 .state) :=
  congrArg Host.Outcome.next ((request_served serves _).trans (by simp only [ha]))

/-- The state in which a locked-out channel enters OFF: its repeat history is cleared (03 R59). -/
def released (s : State) (c : Chan) : State := s.mapChan c fun ch => { ch with history := none }

theorem releaseLockout_fuel (serves : s.serves 7 [w]) {f : FuelCfg} (ha : s.chanArg w = .fuel c f) :
    exec (.releaseLockout w) s = .next (if (s.chan c).state = .lockedOut ∧ (s.zone f.zone).state = .dark then
      finish s (((released s c).enterOff c).ok 7) else s.refuse 7 .state) :=
  congrArg Host.Outcome.next ((request_served serves _).trans (by simp only [ha]; rfl))

/-! ### Light-off proofs (04 R71, R72) -/

/-- The record of a channel that enters PROVING. -/
def provingRec (ch : Channel) (f : FuelCfg) (igniter : Bool) (now : Nat) : Channel :=
  { ch with
    setpoint := f.fmin
    target := f.fmin
    alloc := ch.hmin
    proof := some ⟨igniter, false, false, now + seconds f.proving⟩
    state := .proving }

/-- The record after an order of SHUT release with SET_FEED Fmin. -/
def fuelledRec (ch : Channel) (f : FuelCfg) : Channel :=
  issuedRec { ch with shutReleased := true, proof := ch.proof.map fun p => { p with released := true } }
    (.setFeed f.fmin)

theorem releaseShut_chanMoves (s : State) (c : Chan) (f : FuelCfg) : ChanMoves c s (s.releaseShut c f) :=
  (ChanMoves.record .refl _).trans (issue_chanMoves _ c _)

@[simp] theorem releaseShut_chan_same (s : State) (c : Chan) (f : FuelCfg) :
    (s.releaseShut c f).chan c = fuelledRec (s.chan c) f := by
  simp [State.releaseShut, fuelledRec]

theorem startProof_chanMoves (s : State) (c : Chan) (f : FuelCfg) : ChanMoves c s (s.startProof c f) := by
  unfold State.startProof
  dsimp only
  have m : ChanMoves c s _ := (ChanMoves.record .refl fun ch => { ch with
    setpoint := f.fmin
    target := f.fmin
    alloc := ch.hmin
    proof := some ⟨(s.zone f.zone).state == .ready, false, false, s.now + seconds f.proving⟩ }).trans
      (setChState_chanMoves _ c .proving)
  repeat' split
  · exact m.trans (tripChannel_chanMoves _ c _)
  · exact m.trans (issue_chanMoves _ c _)
  · exact m.trans (tripChannel_chanMoves _ c _)
  · exact m.trans (releaseShut_chanMoves _ c f)

theorem startProof_igniter (f : FuelCfg) (fine : (s.chan c).faultPt.faulted = false)
    (ready : (s.zone f.zone).state = .ready) :
    (s.startProof c f).chan c = issuedRec (provingRec (s.chan c) f true s.now) (.igniter true) := by
  unfold State.startProof
  dsimp only
  rw [if_neg (by simp [fine]), if_pos (by simp [ready])]
  simp [provingRec, ready]

theorem startProof_feed (f : FuelCfg) (fine : (s.chan c).faultPt.faulted = false)
    (lit : (s.zone f.zone).state = .lit) (flame : (s.zone f.zone).flameLost = false) :
    (s.startProof c f).chan c = fuelledRec (provingRec (s.chan c) f false s.now) f := by
  unfold State.startProof
  dsimp only
  rw [if_neg (by simp [fine]), if_neg (by simp [lit]), if_neg (by simp [flame])]
  simp [provingRec, lit, show (ZoneState.lit == ZoneState.ready) = false from rfl]

/-- The conditions under which CHANNEL_START starts a proof (03 R54). -/
theorem startFuel_starts {f : FuelCfg} (off : (s.chan c).state = .off) (normal : s.pt.mode = .normal)
    (clear : (s.zone f.zone).firstOut = none) (permitted : s.startPermitted f = true) :
    s.startFuel c f = finish s ((s.startProof c f).ok 4) := by
  unfold State.startFuel
  rw [if_neg (by simp [off]), if_neg (by simp [off]), if_neg (by simp [normal]), if_neg (by simp [clear]),
    if_pos permitted]

end

/-- Settles O26: light-off orders what the zone's state requires; the refusals stand in the order of the tests. -/
theorem fuelStarts : Obligations.FuelStarts := by
  refine ⟨fun s w c f on serves hw hf off free normal clear fine => ?_, fun s w serves => ?_⟩
  · have moves := startProof_chanMoves s c f
    have start := channelStart_fuel serves (chanArg_of_fuel hw hf)
    refine ⟨fun ready igniter => ?_, fun lit flame => ?_⟩
    · have made := startProof_igniter f fine ready
      rw [issuedRec_free _ (by exact free)] at made
      refine ⟨(s.startProof c f).ok 4, ?_, ?_, ?_, ?_, ?_, ?_, ?_, fun d hd => moves.chan_other hd, rfl, moves.zs⟩
      · rw [start, startFuel_starts off normal clear (by simp [State.startPermitted, ready, igniter])]
      · exact congrArg Channel.state made
      · exact (congrArg Channel.shutReleased made).trans rfl
      · exact congrArg Channel.setpoint made
      · exact congrArg Channel.alloc made
      · refine (congrArg Channel.proof made).trans ?_
        simp [sentRec, provingRec, Channel.proofSent, seconds, Nat.mul_comm]
      · exact congrArg Channel.inFlight made
    · have made := startProof_feed f fine lit flame
      rw [fuelledRec, issuedRec_free _ (by exact free)] at made
      refine ⟨(s.startProof c f).ok 4, ?_, ?_, ?_, ?_, ?_, ?_, ?_, fun d hd => moves.chan_other hd, rfl, moves.zs⟩
      · rw [start, startFuel_starts off normal clear (by simp [State.startPermitted, lit])]
      · exact congrArg Channel.state made
      · exact congrArg Channel.shutReleased made
      · exact congrArg Channel.setpoint made
      · exact congrArg Channel.alloc made
      · refine (congrArg Channel.proof made).trans ?_
        simp [sentRec, provingRec, Channel.proofSent, seconds, Nat.mul_comm]
      · exact congrArg Channel.inFlight made
  · refine ⟨fun above => channelStart_refused serves (chanArg_above above), fun c hw => ⟨fun hc =>
      channelStart_refused serves (chanArg_unused hw hc), fun f hc ncv =>
      channelStart_refused serves (chanArg_unusable hw hc ncv), fun f hf => ?_⟩⟩
    rw [channelStart_fuel serves (chanArg_of_fuel hw hf), State.startFuel]
    refine ⟨fun stopping => ?_, fun stopping off => ?_, fun off normal pending => ?_, fun off normal clear lit ready => ?_⟩
    · rw [if_pos stopping]
    · rw [if_neg stopping]
      rcases off with off | mode
      · rw [if_pos off]
      · by_cases off : (s.chan c).state = .off
        · rw [if_neg (by simp [off]), if_pos mode]
        · rw [if_pos off]
    · rw [if_neg (by simp [off]), if_neg (by simp [off]), if_neg (by simp [normal]),
        if_pos (Option.isSome_iff_ne_none.mpr pending)]
    · rw [if_neg (by simp [off]), if_neg (by simp [off]), if_neg (by simp [normal]), if_neg (by simp [clear]), if_neg]
      simp only [State.startPermitted, Bool.or_eq_true, Bool.and_eq_true, beq_iff_eq]
      exact fun h => h.elim lit fun h => ready ⟨h.2, h.1⟩

/-! ### CHANNEL_STOP (03 R55, R60) -/

section

variable {s : State} {w : Word} {c : Chan}

/-- The last step of the ramp toward Fmin (03 R49). -/
theorem rampMove_last {setpoint fmin ramp : Nat} (above : fmin < setpoint) (near : setpoint ≤ fmin + ramp) :
    rampMove setpoint fmin ramp = fmin := by
  rw [rampMove, if_neg (by omega)]
  omega

/-- A step of the ramp that does not reach Fmin. -/
theorem rampMove_far {setpoint fmin ramp : Nat} (far : fmin + ramp < setpoint) :
    rampMove setpoint fmin ramp ≠ fmin := by
  rw [rampMove, if_neg (by omega)]
  omega

/-- A stop within one ramp of Fmin ends at once. -/
theorem stoppingRec_near {ch : Channel} {f : FuelCfg} (now : Nat) (near : ch.setpoint = f.fmin ∨
    (ch.rampNext = none ∧ f.fmin ≤ ch.setpoint ∧ ch.setpoint ≤ f.fmin + f.ramp)) :
    ∃ ch', stoppingRec ch f now = offWithRec ch' false := by
  unfold stoppingRec
  by_cases reached : ch.setpoint = f.fmin
  · rw [if_pos reached]
    exact ⟨_, rfl⟩
  · obtain ⟨ramp, least, most⟩ := near.resolve_left reached
    have last : rampTo (aimedRec { ch with alloc := ch.hmin, state := .stopping } f f.fmin now) f = f.fmin := by
      rw [rampTo, aimedRec_setpoint, aimedRec_target]
      exact rampMove_last (lt_of_le_of_ne least (Ne.symm reached)) most
    rw [if_neg reached, retargetRec, if_pos ⟨ramp, Ne.symm reached⟩, stepRec, if_pos ⟨aimedRec_state _ _ _ _, last⟩]
    exact ⟨_, rfl⟩

/-- A stop further from Fmin moves the setpoint toward it. -/
theorem stoppingRec_far {ch : Channel} {f : FuelCfg} (now : Nat) (far : f.fmin + f.ramp < ch.setpoint ∨
    (ch.rampNext ≠ none ∧ ch.setpoint ≠ f.fmin)) :
    (stoppingRec ch f now).state = .stopping ∧ (stoppingRec ch f now).target = f.fmin
      ∧ (stoppingRec ch f now).alloc = ch.hmin ∧ (stoppingRec ch f now).shutReleased = ch.shutReleased := by
  have away : ch.setpoint ≠ f.fmin := far.elim (fun h => by omega) And.right
  have aimed := aimedRec_eq { ch with alloc := ch.hmin, state := .stopping } f f.fmin now
  unfold stoppingRec
  rw [if_neg away, retargetRec]
  split
  case isTrue due =>
    obtain ⟨ramp, -⟩ := due
    have step : f.fmin + f.ramp < ch.setpoint := far.resolve_right fun h => h.1 ramp
    rw [stepRec, if_neg]
    · simp only [rampedRec, issuedRec_state, issuedRec_target, issuedRec_alloc, issuedRec_shut]
      rw [aimed]
      exact ⟨rfl, rfl, rfl, rfl⟩
    · rw [rampTo, aimedRec_setpoint, aimedRec_target]
      exact fun h => rampMove_far step h.2
  case isFalse =>
    rw [aimed]
    exact ⟨rfl, rfl, rfl, rfl⟩

theorem stopFuel_refused {f : FuelCfg} (proving : (s.chan c).state ≠ .proving) (running : (s.chan c).state ≠ .running)
    (limited : (s.chan c).state ≠ .limited) : s.stopFuel c f = s.refuse 5 .state := by
  unfold State.stopFuel
  split
  · exact absurd ‹_› proving
  · exact absurd ‹_› running
  · exact absurd ‹_› limited
  · rfl

theorem stopFuel_runs {f : FuelCfg} (h : (s.chan c).state = .running ∨ (s.chan c).state = .limited) :
    s.stopFuel c f = finish s ((s.startStopping c f).ok 5) := by
  unfold State.stopFuel
  rcases h with h | h <;> simp only [h]

theorem stopFuel_proving {f : FuelCfg} (h : (s.chan c).state = .proving) :
    s.stopFuel c f = finish s ((s.stopProving c).ok 5) := by
  unfold State.stopFuel
  simp only [h]

/-- A channel whose record is that of a stop is OFF. -/
theorem stopped_off {u : State} {ch : Channel} {off : Bool} (h : u.chan c = offWithRec ch off) :
    (u.chan c).state = .off ∧ (u.chan c).shutReleased = false ∧ (u.chan c).setpoint = 0 ∧ (u.chan c).alloc = 0
      ∧ (u.chan c).proof = none ∧ (u.chan c).track = none := by
  rw [h]
  exact ⟨offWithRec_state _ _, offWithRec_shut _ _, offWithRec_off _ _⟩

end

/-- Settles O27: what a stop makes of the channel, by the distance of its setpoint from Fmin. -/
theorem stopCommands : Obligations.StopCommands := by
  refine ⟨fun s w serves => ⟨fun above => channelStop_refused serves (chanArg_above above), fun c hw =>
    ⟨fun hc => channelStop_refused serves (chanArg_unused hw hc), fun f hc ncv =>
    channelStop_refused serves (chanArg_unusable hw hc ncv), fun f hf proving running limited => ?_⟩⟩,
    fun s w c on serves hw => ⟨fun f hf => ⟨fun ends => ?_, fun runs far => ?_⟩, fun f hf => ⟨fun runs => ?_, fun off => ?_⟩⟩⟩
  · rw [channelStop_fuel serves (chanArg_of_fuel hw hf), stopFuel_refused proving running limited]
  · have stop := channelStop_fuel serves (chanArg_of_fuel hw hf)
    rcases ends with proving | ⟨runs, near⟩
    · obtain ⟨state, shut, setpoint, alloc, proof, track⟩ :=
        stopped_off (u := (s.stopProving c).ok 5) (offWith_chan_same s c (s.chan c).igniterLive)
      exact ⟨(s.stopProving c).ok 5, by rw [stop, stopFuel_proving proving], state, shut, setpoint, alloc, proof, track,
        fun d hd => (offWith_chanMoves s c _).chan_other hd, rfl⟩
    · obtain ⟨ch, made⟩ := stoppingRec_near (ch := s.chan c) s.now near
      obtain ⟨state, shut, setpoint, alloc, proof, track⟩ :=
        stopped_off (u := (s.startStopping c f).ok 5) ((startStopping_chan_same s c f).trans made)
      exact ⟨(s.startStopping c f).ok 5, by rw [stop, stopFuel_runs runs], state, shut, setpoint, alloc, proof, track,
        fun d hd => (startStopping_chanMoves s c f).chan_other hd, rfl⟩
  · obtain ⟨state, target, alloc, shut⟩ := stoppingRec_far (ch := s.chan c) s.now far
    have made := startStopping_chan_same s c f
    rw [← made] at state target alloc shut
    exact ⟨(s.startStopping c f).ok 5, by rw [channelStop_fuel serves (chanArg_of_fuel hw hf), stopFuel_runs runs],
      state, target, alloc, shut, fun d hd => (startStopping_chanMoves s c f).chan_other hd, rfl⟩
  · have made := stopFan_chan_same s c
    refine ⟨(s.stopFan c).ok 5, ?_, ?_, ?_, ?_, ?_, fun d hd => (stopFan_chanMoves s c).chan_other hd, rfl⟩
    · rw [channelStop_fan serves (chanArg_of_fan hw hf), State.stopFanRequest, if_neg runs]
    · exact congrArg Channel.state made
    · exact (congrArg Channel.setpoint made).trans (issuedRec_setpoint _ _)
    · exact (congrArg Channel.startClock made).trans (issuedRec_startClock _ _)
    · exact (congrArg Channel.lowFlowClock made).trans (issuedRec_lowFlowClock _ _)
  · rw [channelStop_fan serves (chanArg_of_fan hw hf), State.stopFanRequest, if_pos off]

/-! ### RESET_TRIP and RELEASE_LOCKOUT (03 R59, R60) -/

theorem causeCleared_iff (s : State) (c : Chan) (f : FuelCfg) : s.causeCleared c f = true ↔ s.cleared c f := by
  unfold State.causeCleared State.cleared
  cases (s.chan c).cause with
  | none => simp
  | some cause => cases cause <;> simp [Point.faulted]

/-- Entry to OFF clears CHANNEL_TRIP and CHANNEL_LOCKOUT. -/
theorem enterOff_conds (s : State) (c : Chan) (on : s.configured = true) (h : (s.chan c).state ≠ .off) :
    (s.enterOff c).cond (idChannelTrip c) = false ∧ (s.enterOff c).cond (idChannelLockout c) = false := by
  obtain ⟨trip, lockout, -⟩ := setChState_conds (((s.mapChan c fun ch => { ch with
    cause := none
    alloc := 0
    target := 0
    setpoint := 0
    rampNext := none
    proof := none
    shutReleased := false })).endTracking c) c ((setCond_configured _ _ _ _).trans on) (st := .off)
    (by simpa [untrackedRec] using h)
  exact ⟨trip, lockout⟩

/-- Settles O28: both requests enter OFF, which keeps the repeat history it finds. -/
theorem tripsReset : Obligations.TripsReset := by
  refine ⟨fun s w c f on serves hw hf => ⟨fun tripped zone cleared => ?_, fun no => ?_⟩,
    fun s w c f on serves hw hf => ⟨fun locked dark => ?_, fun no => ?_⟩, fun s w x code serves hx => ?_⟩
  · have made := enterOff_chan_same s c
    have conds := enterOff_conds s c on (by simp [tripped])
    refine ⟨(s.enterOff c).ok 6, ?_, congrArg Channel.state made, congrArg Channel.cause made,
      (congrArg Channel.history made).trans rfl, fun d hd => (enterOff_chanMoves s c).chan_other hd, conds.1, rfl⟩
    rw [resetTrip_fuel serves (chanArg_of_fuel hw hf), if_pos ⟨tripped, zone, (causeCleared_iff s c f).mpr cleared⟩]
  · rw [resetTrip_fuel serves (chanArg_of_fuel hw hf), if_neg]
    rintro ⟨tripped, zone, cleared⟩
    exact no.elim (fun h => h tripped) (·.elim zone fun h => h ((causeCleared_iff s c f).mp cleared))
  · have made := enterOff_chan_same (released s c) c
    have conds := enterOff_conds (released s c) c on (by simp [locked, released])
    refine ⟨((released s c).enterOff c).ok 7, ?_, congrArg Channel.state made, congrArg Channel.cause made, ?_,
      fun d hd => ?_, conds.2, rfl⟩
    · rw [releaseLockout_fuel serves (chanArg_of_fuel hw hf), if_pos ⟨locked, dark⟩]
    · refine (congrArg Channel.history made).trans ?_
      simp [offRec, untrackedRec, released]
    · exact ((enterOff_chanMoves (released s c) c).chan_other hd).trans (State.mapChan_chan_other _ _ (Ne.symm hd))
  · rw [releaseLockout_fuel serves (chanArg_of_fuel hw hf), if_neg]
    exact fun h => no.elim (fun ne => ne h.1) fun ne => ne h.2
  · rcases hx with ⟨rfl, rfl⟩ | ⟨rfl, rfl⟩
    · exact ⟨fun above => resetTrip_refused serves (chanArg_above above), fun c hw =>
        ⟨fun hc => resetTrip_refused serves (chanArg_unused hw hc), fun f hc ncv =>
        resetTrip_refused serves (chanArg_unusable hw hc ncv), fun f _ h => absurd h (by decide)⟩⟩
    · exact ⟨fun above => releaseLockout_refused serves (chanArg_above above), fun c hw =>
        ⟨fun hc => releaseLockout_refused serves (chanArg_unused hw hc), fun f hc ncv =>
        releaseLockout_refused serves (chanArg_unusable hw hc ncv), fun f hf _ =>
        releaseLockout_fan serves (chanArg_of_fan hw hf)⟩⟩

end Sys2Proof.Proofs
end

section
/-! PROOF. The sample points: what one write of a point changes, what the record of a sample does before its consumers,
and that no consumer writes a point (03 section 3.2). -/

namespace Sys2Proof.Proofs
open Sys2Proof.Machine

section

variable {s t : State}

/-! ### One write of a point -/

theorem point_of_ce (h : t.ce = s.ce) (p : PointId) : t.point p = s.point p := by
  cases p <;> simp only [State.point, State.chan, h]

@[simp] theorem mapPoint_point_same (p : PointId) (f : Point → Point) : (s.mapPoint p f).point p = f (s.point p) := by
  cases p <;> simp [State.mapPoint, State.point]

theorem mapPoint_point_other {p q : PointId} (h : q ≠ p) (f : Point → Point) :
    (s.mapPoint p f).point q = s.point q := by
  cases p with
  | flame z =>
    cases q with
    | flame y => exact upd_get_other _ _ (fun e => h (e ▸ rfl))
    | _ => rfl
  | clinker =>
    cases q with
    | clinker => exact absurd rfl h
    | _ => rfl
  | feed c | valve c | fault c | flow c | bed c =>
    cases q with
    | flame y => rfl
    | clinker => rfl
    | feed d | valve d | fault d | flow d | bed d =>
      by_cases e : d = c
      · subst e
        simp_all [State.mapPoint, State.point]
      · simp [State.mapPoint, State.point, State.mapChan_chan_other _ _ (Ne.symm e)]

/-- The channel engine's clocks and receiver stand beside the points. -/
@[simp] theorem mapPoint_fieldRx (p : PointId) (f : Point → Point) : (s.mapPoint p f).ce.fieldRx = s.ce.fieldRx := by
  cases p <;> rfl
@[simp] theorem mapPoint_silence (p : PointId) (f : Point → Point) :
    (s.mapPoint p f).ce.silenceSince = s.ce.silenceSince := by
  cases p <;> rfl

/-- A write of a point leaves the other blocks. -/
theorem mapPoint_outside (p : PointId) (f : Point → Point) : s.mapPoint p f = { s with ce := (s.mapPoint p f).ce } := by
  cases p <;> rfl

/-! ### The still part -/

theorem chanStill_of_still (h : t.still = s.still) (c : Chan) : (t.chan c).still = (s.chan c).still := by
  have chans : t.ce.chans.map Channel.still = s.ce.chans.map Channel.still := by
    change t.still.ce.chans = s.still.ce.chans
    rw [h]
  simpa [State.chan, get_map] using congrArg (fun v => v.get c) chans

theorem point_of_still (h : t.still = s.still) (p : PointId) : t.point p = s.point p := by
  have chans := fun c => chanStill_of_still h c
  have flames : t.ce.flames = s.ce.flames := by change t.still.ce.flames = s.still.ce.flames; rw [h]
  have clinker : t.ce.clinker = s.ce.clinker := by change t.still.ce.clinker = s.still.ce.clinker; rw [h]
  cases p with
  | feed c => change (t.chan c).still.feedPt = (s.chan c).still.feedPt; rw [chans]
  | valve c => change (t.chan c).still.valvePt = (s.chan c).still.valvePt; rw [chans]
  | fault c => change (t.chan c).still.faultPt = (s.chan c).still.faultPt; rw [chans]
  | flow c => change (t.chan c).still.flowPt = (s.chan c).still.flowPt; rw [chans]
  | bed c => change (t.chan c).still.bedPt = (s.chan c).still.bedPt; rw [chans]
  | flame z => exact congrArg (fun v => v.get z) flames
  | clinker => exact clinker

theorem silence_of_still (h : t.still = s.still) : t.ce.silenceSince = s.ce.silenceSince := by
  change t.still.ce.silenceSince = s.still.ce.silenceSince
  rw [h]

theorem fieldRx_of_still (h : t.still = s.still) : t.ce.fieldRx = s.ce.fieldRx := by
  change t.still.ce.fieldRx = s.still.ce.fieldRx
  rw [h]

end

/-! ### The point of a record (03 R39) -/

section

variable {s : State} {c : Chan} {src : Byte}

theorem matchPoint_of_config {t : State} (h : t.config = s.config) (src q : Byte) :
    t.matchPoint src q = s.matchPoint src q := by
  have fuel : ∀ c, t.fuel? c = s.fuel? c := fun c => by simp only [State.fuel?, State.chanCfg, h]
  have fan : ∀ c, t.fan? c = s.fan? c := fun c => by simp only [State.fan?, State.chanCfg, h]
  have scanner : ∀ z, t.hasScanner z = s.hasScanner z := fun z => by simp only [State.hasScanner, h]
  have clinker : t.clinkerPresent = s.clinkerPresent := by simp only [State.clinkerPresent, h]
  simp only [State.matchPoint, fuel, fan, scanner, clinker]

theorem matchPoint_fuel {f : FuelCfg} (hf : s.fuel? c = some f) (hsrc : src.toNat = c.val) :
    s.matchPoint src 1 = some (.feed c) ∧ s.matchPoint src 4 = some (.valve c)
      ∧ s.matchPoint src 5 = some (.fault c) := by
  refine ⟨?_, ?_, ?_⟩ <;> simp [State.matchPoint, chanOf_val hsrc, hf]

theorem not_fuel_of_fan {f : FanCfg} (hf : s.fan? c = some f) : s.fuel? c = none := by
  rw [State.fuel?, fan?_some hf]

theorem matchPoint_flow {f : FanCfg} (hf : s.fan? c = some f) (hsrc : src.toNat = c.val) :
    s.matchPoint src 2 = some (.flow c) := by
  simp [State.matchPoint, chanOf_val hsrc, not_fuel_of_fan hf, hf]

theorem matchPoint_clinker (h : s.clinkerPresent = true) : s.matchPoint 32 7 = some .clinker := by
  have chan : chanOf 32 = none := rfl
  have zone : zoneOf 16 = none := rfl
  simp [State.matchPoint, chan, zone, h]

theorem matchPoint_flame {z : Zone} (h : s.hasScanner z = true) (hsrc : src.toNat = 16 + z.val) :
    s.matchPoint src 6 = some (.flame z) := by
  have chan : chanOf src.toNat = none := chanOf_above (by omega)
  have zone : zoneOf (src.toNat - 16) = some z := zoneOf_val (by omega)
  simp [State.matchPoint, chan, zone, h, show 16 ≤ src.toNat by omega]

end

/-! ### The record before its consumers (03 R39, R40) -/

section

variable {s : State}

/-- A point after a sample of the value `v` of a quality. -/
def takenPoint (x : Point) (v : Nat) (ql : Byte) (now : Nat) : Point :=
  if qualityGood ql then x.takeGood v (qualityUncertain ql) else x.takeBad now

/-- The silence clock restarts (03 R39). -/
def heard (s : State) : State := s.mapCe fun e => { e with silenceSince := s.now, fieldRx := .hunting }

@[simp] theorem heard_point (s : State) (p : PointId) : (heard s).point p = s.point p := by cases p <;> rfl

/-- The state after a record of a point, but for the alarm conditions it writes. -/
def sensed (s : State) (p : PointId) (v : Word) (ql : Byte) : State :=
  (heard s).mapPoint p fun x => takenPoint x (sampleValue p v) ql s.now

/-- The state after a record of a point, before its consumers. -/
def sampled (s : State) (p : PointId) (v : Word) (ql : Byte) : State :=
  s.endSilence.samplePoint p (sampleValue p v) (qualityGood ql) (qualityUncertain ql)

theorem endSilence_plant (s : State) : s.endSilence.plant = (heard s).plant := State.setCond_plant _ _ _ _

theorem samplePointCond_plant (s : State) (p : PointId) : (s.samplePointCond p).plant = s.plant := by
  unfold State.samplePointCond
  split
  · exact State.setCond_plant _ _ _ _
  · rfl

theorem mapPoint_plant {a b : State} (h : a.plant = b.plant) (p : PointId) (f : Point → Point) :
    (a.mapPoint p f).plant = (b.mapPoint p f).plant := by
  have ce := ce_of_plant h
  have one : ∀ x : State, (x.mapPoint p f).plant = { x.plant with ce := (x.mapPoint p f).ce } := fun x => by
    rw [mapPoint_outside p f]; rfl
  have both : (a.mapPoint p f).ce = (b.mapPoint p f).ce := by
    cases p <;> simp only [State.mapPoint, State.mapChan, State.mapCe, ce]
  rw [one a, one b, h, both]

theorem sampled_plant (s : State) (p : PointId) (v : Word) (ql : Byte) :
    (sampled s p v ql).plant = (sensed s p v ql).plant := by
  have now : s.endSilence.now = s.now := (now_of_plant (endSilence_plant s)).trans rfl
  rw [sampled, State.samplePoint, samplePointCond_plant, now]
  exact mapPoint_plant (endSilence_plant s) p _

theorem sampled_point_same (p : PointId) (v : Word) (ql : Byte) :
    (sampled s p v ql).point p = takenPoint (s.point p) (sampleValue p v) ql s.now := by
  rw [point_of_ce (ce_of_plant (sampled_plant s p v ql)), sensed, mapPoint_point_same, heard_point]

theorem sampled_point_other {p q : PointId} (h : q ≠ p) (v : Word) (ql : Byte) :
    (sampled s p v ql).point q = s.point q := by
  rw [point_of_ce (ce_of_plant (sampled_plant s p v ql)), sensed, mapPoint_point_other h, heard_point]

theorem exec_sampleRecord_point {src q : Byte} (on : s.configured = true) {p : PointId}
    (hp : s.matchPoint src q = some p) (v : Word) (ql : Byte) (el : Word) :
    exec (.sampleRecord src q v ql el) s = .next (finish s ((sampled s p v ql).handSample p (sampleValue p v)
      (qualityGood ql) (sampleElapsed el))) := by
  have match1 : s.endSilence.matchPoint src q = some p :=
    (matchPoint_of_config (config_of_plant (endSilence_plant s)) src q).trans hp
  change execSampleRecord src q v ql el s = _
  simp only [execSampleRecord, on, if_true, match1, sampled]

theorem exec_sampleRecord_none {src q : Byte} (on : s.configured = true) (hp : s.matchPoint src q = none)
    (v : Word) (ql : Byte) (el : Word) :
    exec (.sampleRecord src q v ql el) s = .next (finish s s.endSilence) := by
  have match1 : s.endSilence.matchPoint src q = none :=
    (matchPoint_of_config (config_of_plant (endSilence_plant s)) src q).trans hp
  change execSampleRecord src q v ql el s = _
  simp only [execSampleRecord, on, if_true, match1]

end

/-! ### The consumers write no point (03 R41) -/

section

variable (s : State)

theorem integrateFeed_ce (c : Chan) (ncv sp e : Nat) : (s.integrateFeed c ncv sp e).ce = s.ce := by
  unfold State.integrateFeed
  dsimp only
  split <;> rfl

theorem integrateFlow_ce (c : Chan) (sp e : Nat) : (s.integrateFlow c sp e).ce = s.ce := by
  unfold State.integrateFlow
  dsimp only
  split <;> rfl

/-- What every consumer of a sample keeps. -/
structure SensorsKept (s t : State) : Prop where
  point : ∀ p, t.point p = s.point p
  silence : t.ce.silenceSince = s.ce.silenceSince
  fieldRx : t.ce.fieldRx = s.ce.fieldRx

variable {s} {t u : State}

theorem SensorsKept.refl : SensorsKept s s := ⟨fun _ => rfl, rfl, rfl⟩

theorem SensorsKept.trans (a : SensorsKept s t) (b : SensorsKept t u) : SensorsKept s u :=
  ⟨fun p => (b.point p).trans (a.point p), b.silence.trans a.silence, b.fieldRx.trans a.fieldRx⟩

theorem SensorsKept.of_still (h : t.still = s.still) : SensorsKept s t :=
  ⟨point_of_still h, silence_of_still h, fieldRx_of_still h⟩

theorem SensorsKept.of_ce (h : t.ce = s.ce) : SensorsKept s t := ⟨point_of_ce h, by rw [h], by rw [h]⟩

theorem SensorsKept.of_moves {e : Bool} (m : Moves e s t) : SensorsKept s t := .of_still m.still

theorem takeFeed_sensors (c : Chan) (f : FuelCfg) (v : Nat) (good : Bool) (e : Nat) :
    SensorsKept s (s.takeFeed c f v good e) := by
  unfold State.takeFeed
  dsimp only
  have integrated : SensorsKept s (s.integrateFeed c f.ncv (s.chan c).setpoint e) := .of_ce (integrateFeed_ce s c _ _ _)
  split
  case isFalse => exact integrated
  case isTrue =>
    have actual : ∀ (x : State) (h : Nat), SensorsKept x (x.mapChan c fun ch => { ch with actual := h }) := fun x h => by
      refine ⟨fun p => ?_, rfl, rfl⟩
      cases p with
      | flame z => rfl
      | clinker => rfl
      | feed d | valve d | fault d | flow d | bed d =>
        by_cases hd : d = c
        · subst hd; simp [State.point]
        · simp [State.point, State.mapChan_chan_other _ _ (Ne.symm hd)]
    have tracked := (integrated.trans (actual _ (heatOf f.ncv v))).trans
      (.of_moves (e := true) (State.trackSample_moves _ c f v))
    split
    · exact (tracked.trans (.of_moves (e := true) (State.setHmaxEff_moves _ c f _))).trans
        (.of_moves (State.feedProof_moves _ c f v))
    · exact tracked.trans (.of_moves (State.feedProof_moves _ c f v))

theorem handSample_sensors (p : PointId) (v : Nat) (good : Bool) (e : Nat) :
    SensorsKept s (s.handSample p v good e) := by
  unfold State.handSample
  cases p with
  | feed c =>
    dsimp only
    split
    · exact takeFeed_sensors c _ v good e
    · exact .refl
  | valve c =>
    dsimp only
    split
    · exact .of_moves (State.judgeHold_moves _ _)
    · exact .refl
  | fault c =>
    dsimp only
    split
    · exact .of_moves (e := true) (State.tripChannel_moves _ c _)
    · exact .refl
  | flow c =>
    dsimp only
    split
    · unfold State.takeFlow
      dsimp only
      have integrated := SensorsKept.of_ce (integrateFlow_ce s c (s.chan c).setpoint e)
      split
      · exact (integrated.trans (.of_moves (e := true) (State.adoptFan_moves _ c _ v))).trans
          (.of_moves (e := true) (State.flowHanded_moves _ c _))
      · exact integrated.trans (.of_moves (e := true) (State.flowHanded_moves _ c _))
    · exact .refl
  | bed c =>
    dsimp only
    split
    · exact (SensorsKept.of_moves (e := true) (State.judgeBlow_moves _ c)).trans
        (.of_moves (e := true) (State.computeFan_moves _ c _ e))
    · exact .refl
  | flame z => exact .refl
  | clinker =>
    have judged : ∀ x : State, x.ce = s.ce → SensorsKept s x.judgeHigh := fun x hx =>
      (SensorsKept.of_ce hx).trans (.of_moves (e := true) (State.judgeHigh_moves x))
    cases good with
    | true => exact judged (s.mapSr fun r => r.clinkerSample v) rfl
    | false => exact judged s rfl

end

end Sys2Proof.Proofs
end

section
/-! PROOF. A change of a zone's state (04 section 4.2): what it makes of the zone's record and of the zone's own fuel
channels, and that it leaves every other zone, every other channel and the TRIP frames of the transmit queue. -/

namespace Sys2Proof.Proofs
open Sys2Proof.Machine

/-! ### The TRIP frames of the transmit queue -/

/-- The TRIP frames of the transmit queue. -/
def tripFrames (s : State) : List TxFrame := s.li.tx.filter fun g => g.cls == .trip

section

variable (s : State)

theorem filter_insertFrame {p : TxFrame → Bool} {f : TxFrame} (h : p f = false) (q : List TxFrame) :
    (insertFrame f q).filter p = q.filter p := by
  induction q with
  | nil => simp [insertFrame, h]
  | cons g q ih =>
    unfold insertFrame
    split
    · rw [List.filter_cons, List.filter_cons, ih]
    · rw [List.filter_cons, if_neg (by simp [h])]

theorem filter_eraseIdx {α : Type} {p : α → Bool} {q : List α} {i : Nat} {g : α} (hg : q[i]? = some g)
    (h : p g = false) : (q.eraseIdx i).filter p = q.filter p := by
  induction q generalizing i with
  | nil => rfl
  | cons a q ih =>
    cases i with
    | zero =>
      obtain rfl : a = g := by simpa using hg
      rw [List.eraseIdx_cons_zero, List.filter_cons, if_neg (by simp [h])]
    | succ i => rw [List.eraseIdx_cons_succ, List.filter_cons, List.filter_cons, ih (by simpa using hg)]

/-- What a full queue gives up for a frame other than a TRIP is no TRIP. -/
theorem evictee_not_trip {cls : FrameClass} {q : List TxFrame} (h : cls ≠ .trip) {i : Nat} {b : Bool}
    (he : evictee cls q = some (i, b)) : ∃ g, q[i]? = some g ∧ g.cls ≠ .trip := by
  unfold evictee at he
  split at he
  case h_1 m worst =>
    have above : cls.code < m := by
      obtain ⟨f, -, -, -, above⟩ := worstWaiting_some worst
      exact above
    obtain ⟨j, hj, e⟩ := Option.map_eq_some_iff.mp he
    obtain ⟨rfl, rfl⟩ := Prod.mk.inj e
    obtain ⟨g, hg, -, code⟩ := youngestOf_some hj
    refine ⟨g, hg, fun trip => ?_⟩
    rw [trip] at code
    have zero : FrameClass.trip.code = 0 := rfl
    omega
  case h_2 =>
    rw [if_neg h] at he
    cases he

theorem enqueueReplace_trips {f : TxFrame} (h : f.cls ≠ .trip) : tripFrames (s.enqueueReplace f) = tripFrames s := by
  rw [tripFrames, enqueueReplace_tx, tripFrames]
  induction s.li.tx with
  | nil => rfl
  | cons g q ih =>
    rw [List.map_cons, List.filter_cons, List.filter_cons, replacedBy_cls, ih]
    split
    · rename_i trip
      have same : replacedBy f g = g := by
        unfold replacedBy
        rw [if_neg]
        intro rep
        have cls := matchesKey_cls (replaceable_iff.mp rep).2.2
        exact h (cls ▸ by simpa using trip)
      rw [same]
    · rfl

theorem offer_trips {cls : FrameClass} (h : cls ≠ .trip) (p : List Word) (r k : Nat) :
    tripFrames (s.offer cls p r k).1 = tripFrames s := by
  have new : (fun g : TxFrame => g.cls == FrameClass.trip) (s.newFrame cls p r k) = false := by
    simpa [State.newFrame] using h
  obtain ⟨he, -⟩ | ⟨-, -, ⟨-, he⟩ | ⟨-, -, ⟨-, he⟩ | ⟨-, i, b, hev, he⟩⟩⟩ := offer_cases s cls p r k
  · rw [he]
  · rw [he]; exact enqueueReplace_trips s h
  · rw [he]; exact filter_insertFrame new _
  · rw [he]
    obtain ⟨g, hg, trip⟩ := evictee_not_trip h hev
    refine (filter_insertFrame new _).trans ?_
    rw [evictAt_tx hg]
    exact filter_eraseIdx hg (by simpa using trip)

theorem rollRemoval_trips (p : Nat) : tripFrames (s.rollRemoval p) = tripFrames s := by
  unfold State.rollRemoval tripFrames
  change (List.map _ s.li.tx).filter _ = s.li.tx.filter _
  induction s.li.tx with
  | nil => rfl
  | cons g q ih =>
    rw [List.map_cons, List.filter_cons, List.filter_cons, ih]
    by_cases trip : g.cls = .trip
    · simp [trip]
    · split <;> simp_all

theorem listMoves_trips {s t : State} (m : ListMoves s t) : tripFrames t = tripFrames s := by
  refine m.keep (fun x => tripFrames x = tripFrames s) (fun a b hm ha => ?_) rfl
  cases hm with
  | list f => exact ha
  | removal p => exact (rollRemoval_trips a p).trans ha
  | offer id => exact (offer_trips a (by decide) _ _ _).trans ha
  | notify k => exact ha

theorem setCond_trips (id : AlarmId) (v : Bool) (x : Option Nat) : tripFrames (s.setCond id v x) = tripFrames s :=
  listMoves_trips (setCond_listMoves s id v x)

theorem ChanMoves.trips {c : Chan} {s t : State} (m : ChanMoves c s t) : tripFrames t = tripFrames s := by
  refine m.leaves tripFrames fun a b hm => ?_
  cases hm with
  | cond id v x h => exact setCond_trips _ _ _ _
  | _ => rfl

end

/-! ### The hand-on of a zone's state -/

/-- The conditions that a change of a zone's state writes. -/
def zoneIds (z : Zone) : List AlarmId := [idAirShort z, idDemandUnreachable z, idPurgeAborted z, idZoneTrip z]

/-- One elementary change that handing on a zone's state makes: a notice, a condition, FA's record of the zone, CR. -/
inductive ZoneHand (z : Zone) : State → State → Prop
  | notify (s : State) (k : Notice) : ZoneHand z s (s.notify k)
  | cond (s : State) (id : AlarmId) (v : Bool) (x : Option Nat) (h : id ∈ zoneIds z) : ZoneHand z s (s.setCond id v x)
  | firing (s : State) (f : Firing → Firing) : ZoneHand z s (s.mapFiring z f)
  | cooler (s : State) (f : Cooler → Cooler) : ZoneHand z s (s.mapCr f)

/-- A sequence of them. -/
abbrev ZoneHands (z : Zone) : State → State → Prop := Relation.ReflTransGen (ZoneHand z)

section

variable {z : Zone} {s t : State}

theorem ZoneHands.leaves {β : Sort _} (P : State → β) (h : ∀ a b, ZoneHand z a b → P b = P a) (m : ZoneHands z s t) :
    P t = P s := by
  induction m with
  | refl => rfl
  | tail _ m ih => exact (h _ _ m).trans ih

theorem ZoneHands.zs (m : ZoneHands z s t) : t.zs = s.zs := by
  refine m.leaves State.zs fun a b hm => ?_
  cases hm with
  | cond id v x _ => exact zs_of_plant (State.setCond_plant _ _ _ _)
  | _ => rfl

theorem ZoneHands.ce (m : ZoneHands z s t) : t.ce = s.ce := by
  refine m.leaves State.ce fun a b hm => ?_
  cases hm with
  | cond id v x _ => exact ce_of_plant (State.setCond_plant _ _ _ _)
  | _ => rfl

theorem ZoneHands.trips (m : ZoneHands z s t) : tripFrames t = tripFrames s := by
  refine m.leaves tripFrames fun a b hm => ?_
  cases hm with
  | cond id v x _ => exact setCond_trips _ _ _ _
  | _ => rfl

theorem ZoneHands.accts (m : ZoneHands z s t) : t.sr.accts = s.sr.accts := by
  refine m.leaves (fun x => x.sr.accts) fun a b hm => ?_
  cases hm with
  | cond id v x _ => exact accts_of_plant (State.setCond_plant _ _ _ _)
  | _ => rfl

theorem ZoneHands.firing_other (m : ZoneHands z s t) {y : Zone} (h : y ≠ z) : t.firing y = s.firing y := by
  refine m.leaves (fun x => x.firing y) fun a b hm => ?_
  cases hm with
  | cond id v x _ => exact firing_of_plant (State.setCond_plant _ _ _ _) y
  | firing f => exact State.mapFiring_firing_other _ _ (Ne.symm h)
  | _ => rfl

end

section

variable (s : State) (z : Zone) (st : ZoneState)

theorem firingLeavesLit_hands : ZoneHands z s (s.firingLeavesLit z) := by
  unfold State.firingLeavesLit State.holdShortfall
  exact (((Relation.ReflTransGen.single (.firing _ _)).tail (.cond _ _ _ _ (by simp [zoneIds]))).tail
    (.cond _ _ _ _ (by simp [zoneIds]))).tail (.cooler _ _)

/-- What a change of state hands on, once its notice is in the set. -/
theorem zoneWritten_noticed :
    ZoneHands z ((s.mapZone z (enteredRec s z st)).notify .zoneState) (zoneWritten s z st) := by
  have handed : ZoneHands z ((s.mapZone z (enteredRec s z st)).notify .zoneState) (zoneHanded s z st) := by
    unfold zoneHanded
    dsimp only
    have left := firingLeavesLit_hands ((s.mapZone z (enteredRec s z st)).notify .zoneState) z
    split <;> split
    · exact (left.tail (.cond _ _ _ _ (by simp [zoneIds]))).tail (.firing _ _)
    · exact (Relation.ReflTransGen.single (.cond _ _ _ _ (by simp [zoneIds]))).tail (.firing _ _)
    · exact left
    · exact .refl
  exact handed.tail (.cond _ _ _ _ (by simp [zoneIds]))

theorem zoneWritten_hands : ZoneHands z (s.mapZone z (enteredRec s z st)) (zoneWritten s z st) :=
  (Relation.ReflTransGen.single (.notify _ _)).trans (zoneWritten_noticed s z st)

@[simp] theorem zoneWritten_zone_same : (zoneWritten s z st).zone z = enteredRec s z st (s.zone z) := by
  rw [State.zone, (zoneWritten_hands s z st).zs]
  exact State.mapZone_zone_same _ _ _

@[simp] theorem zoneWritten_chan (d : Chan) : (zoneWritten s z st).chan d = s.chan d := by
  rw [State.chan, (zoneWritten_hands s z st).ce]
  rfl

theorem zoneWritten_trips : tripFrames (zoneWritten s z st) = tripFrames s := (zoneWritten_hands s z st).trips.trans rfl

end

/-! ### The zone's fuel is closed -/

/-- The channel has fuel that a zone which does not permit fuel takes away. -/
def fuelled (ch : Channel) : Bool := ch.shutReleased || ch.state == .proving

/-- The record of a channel that loses its zone. -/
def lostRec (ch : Channel) : Channel := offWithRec ch (ch.igniterLive || ch.igniting)

section

variable {s : State} {z : Zone}

@[simp] theorem loseZone_chan_same (c : Chan) : (s.loseZone c).chan c = lostRec (s.chan c) := offWith_chan_same _ _ _

theorem foldl_loseZone_chan {l : List Chan} (distinct : l.Nodup) (c : Chan) :
    (l.foldl State.loseZone s).chan c = if c ∈ l then lostRec (s.chan c) else s.chan c := by
  induction l generalizing s with
  | nil => rfl
  | cons d l ih =>
    obtain ⟨fresh, distinct⟩ := List.nodup_cons.mp distinct
    rw [List.foldl_cons, ih distinct]
    by_cases h : c = d
    · subst h
      rw [if_neg fresh, if_pos List.mem_cons_self, loseZone_chan_same]
    · rw [(loseZone_chanMoves s d).chan_other h]
      simp [h]

/-- An operation on channels, one after the other, leaves what each of them leaves. -/
theorem foldl_chan_leaves {β : Sort _} (P : State → β) {op : State → Chan → State} (h : ∀ x c, P (op x c) = P x)
    (l : List Chan) (s : State) : P (l.foldl op s) = P s := by
  induction l generalizing s with
  | nil => rfl
  | cons c l ih => exact (ih _).trans (h _ _)

theorem allChans_nodup : allChans.Nodup := by decide

theorem ownFuels_nodup (s : State) (z : Zone) : (s.ownFuels z).Nodup := allChans_nodup.filter _

theorem mem_ownFuels_iff {c : Chan} : c ∈ s.ownFuels z ↔ s.ownFuel z c = true := by
  rw [State.ownFuels, List.mem_filter]
  exact ⟨And.right, fun h => ⟨mem_allChans c, h⟩⟩

theorem closeFuel_chan (c : Chan) : (s.closeFuel z).chan c
    = if s.ownFuel z c = true ∧ fuelled (s.chan c) = true then lostRec (s.chan c) else s.chan c := by
  rw [State.closeFuel, foldl_loseZone_chan ((ownFuels_nodup s z).filter _)]
  exact if_congr (by simp only [List.mem_filter, mem_ownFuels_iff, fuelled]) rfl rfl

theorem closeFuel_zs : (s.closeFuel z).zs = s.zs := foldl_chan_leaves State.zs (fun x c => (loseZone_chanMoves x c).zs) _ _

theorem closeFuel_trips : tripFrames (s.closeFuel z) = tripFrames s :=
  foldl_chan_leaves tripFrames (fun x c => (loseZone_chanMoves x c).trips) _ _

end

/-! ### The change of a zone's state -/

section

variable {s : State} {z : Zone} {st : ZoneState}

theorem ownFuel_of_config {t : State} (h : t.config = s.config) (z : Zone) (c : Chan) :
    t.ownFuel z c = s.ownFuel z c := by
  simp only [State.ownFuel, State.fuel?, State.chanCfg, h]

theorem zoneWritten_config : (zoneWritten s z st).config = s.config := by
  refine ((zoneWritten_hands s z st).leaves State.config fun a b hm => ?_).trans rfl
  cases hm with
  | cond id v x _ => exact config_of_plant (State.setCond_plant _ _ _ _)
  | _ => rfl

theorem setZone_zs (h : (s.zone z).state ≠ st) : (s.setZone z st).zs = (s.mapZone z (enteredRec s z st)).zs := by
  rw [setZone_eq h]
  split
  · exact (zoneWritten_hands s z st).zs
  · exact closeFuel_zs.trans (zoneWritten_hands s z st).zs

theorem setZone_zone_same (h : (s.zone z).state ≠ st) : (s.setZone z st).zone z = enteredRec s z st (s.zone z) := by
  rw [State.zone, setZone_zs h]
  exact State.mapZone_zone_same _ _ _

theorem setZone_zone_other {y : Zone} (h : y ≠ z) : (s.setZone z st).zone y = s.zone y := by
  by_cases same : (s.zone z).state = st
  · rw [s.setZone_same z st same]
  · rw [State.zone, setZone_zs same]
    exact State.mapZone_zone_other _ _ (Ne.symm h)

theorem setZone_trips : tripFrames (s.setZone z st) = tripFrames s := by
  by_cases same : (s.zone z).state = st
  · rw [s.setZone_same z st same]
  · rw [setZone_eq same]
    split
    · exact zoneWritten_trips s z st
    · exact closeFuel_trips.trans (zoneWritten_trips s z st)

/-- A state that permits fuel leaves the channels. -/
theorem setZone_ce_fires (fires : st.firesFuel = true) : (s.setZone z st).ce = s.ce := by
  by_cases same : (s.zone z).state = st
  · rw [s.setZone_same z st same]
  · rw [setZone_eq same, if_pos fires]
    exact (zoneWritten_hands s z st).ce.trans rfl

/-- A state that does not permit fuel takes it from the zone's own fuel channels, and leaves the others. -/
theorem setZone_chan (differ : (s.zone z).state ≠ st) (shut : st.firesFuel = false) (c : Chan) :
    (s.setZone z st).chan c
      = if s.ownFuel z c = true ∧ fuelled (s.chan c) = true then lostRec (s.chan c) else s.chan c := by
  rw [setZone_eq differ, if_neg (by simp [shut]), closeFuel_chan, zoneWritten_chan,
    ownFuel_of_config zoneWritten_config]

theorem setZone_chan_other {c : Chan} (h : s.ownFuel z c = false) : (s.setZone z st).chan c = s.chan c := by
  by_cases same : (s.zone z).state = st
  · rw [s.setZone_same z st same]
  cases fires : st.firesFuel
  · rw [setZone_chan same fires, if_neg (by simp [h])]
  · rw [State.chan, setZone_ce_fires fires, State.chan]

theorem setZone_shut (differ : (s.zone z).state ≠ st) (shut : st.firesFuel = false) {c : Chan}
    (h : s.ownFuel z c = true) : ((s.setZone z st).chan c).shutReleased = false := by
  rw [setZone_chan differ shut]
  split
  · exact offWithRec_shut _ _
  · rename_i no
    have dry : fuelled (s.chan c) = false := by simpa [h] using no
    exact (Bool.or_eq_false_iff.mp dry).1

/-- A channel with nothing to close stays as it is. -/
theorem setZone_chan_dry {c : Chan} (dry : fuelled (s.chan c) = false) : (s.setZone z st).chan c = s.chan c := by
  by_cases same : (s.zone z).state = st
  · rw [s.setZone_same z st same]
  cases fires : st.firesFuel
  · rw [setZone_chan same fires, if_neg (by simp [dry])]
  · rw [State.chan, setZone_ce_fires fires, State.chan]

/-- The blocks that a change of a zone's state leaves are those of the still part. -/
theorem config_of_still {t : State} (h : t.still = s.still) : t.config = s.config := by
  change t.still.config = s.still.config
  rw [h]

end

end Sys2Proof.Proofs
end

section
/-! PROOF. Failed attempts and replies of the actuator handshake (O23, O24; 03 section 3.3). -/

namespace Sys2Proof.Proofs
open Sys2Proof.Machine

section

variable {s t : State} {c : Chan}

theorem stamp_of_plant (h : t.plant = s.plant) : t.stamp = s.stamp := by
  change t.plant.stamp = s.plant.stamp
  rw [h]

theorem runClock_of_plant (h : t.plant = s.plant) : t.runClock = s.runClock := by
  change t.plant.runClock = s.plant.runClock
  rw [h]

theorem locksOut_congr (clock : t.runClock = s.runClock) (history : (t.chan c).history = (s.chan c).history)
    (f : FuelCfg) (cause : TripCause) : t.locksOut c f cause = s.locksOut c f cause := by
  simp only [State.locksOut, clock, history]

theorem slow_not_state (c d : Chan) : idActuatorSlow c ∉ stateIds d := by revert c d; decide

/-! ### A failed attempt (03 R46) -/

/-- The state after an attempt failure is noted. -/
def slowed (s : State) (c : Chan) : State :=
  (s.mapChan c fun ch => { ch with slowSince := some s.now }).setCond (idActuatorSlow c) true none

/-- The state after the command in flight has failed for good. -/
def given (s : State) (c : Chan) : State := (slowed s c).mapChan c fun ch => { ch with inFlight := none }

theorem slowed_plant : (slowed s c).plant = (s.mapChan c fun ch => { ch with slowSince := some s.now }).plant :=
  State.setCond_plant _ _ _ _

@[simp] theorem slowed_chan_same : (slowed s c).chan c = { s.chan c with slowSince := some s.now } :=
  (setCond_chan _ _ _ _ c).trans (State.mapChan_chan_same _ _ _)

theorem slowed_chan_other {d : Chan} (h : d ≠ c) : (slowed s c).chan d = s.chan d :=
  (setCond_chan _ _ _ _ d).trans (State.mapChan_chan_other _ _ (Ne.symm h))

theorem slowed_cond (on : s.configured = true) : (slowed s c).cond (idActuatorSlow c) = true :=
  setCond_same (s := s.mapChan c fun ch => { ch with slowSince := some s.now }) on _ _ _

theorem slowed_config : (slowed s c).config = s.config :=
  (config_of_plant slowed_plant).trans rfl

@[simp] theorem given_chan_same : (given s c).chan c = { s.chan c with slowSince := some s.now, inFlight := none } := by
  simp [given]

theorem given_chan_other {d : Chan} (h : d ≠ c) : (given s c).chan d = s.chan d :=
  (State.mapChan_chan_other _ _ (Ne.symm h)).trans (slowed_chan_other h)

theorem given_fuel {f : FuelCfg} (hf : s.fuel? c = some f) : (given s c).fuel? c = some f := by
  rw [← hf, State.fuel?, State.chanCfg, show (given s c).config = s.config from slowed_config, State.fuel?, State.chanCfg]

theorem given_acct (d : Chan) : (given s c).acct d = s.acct d := (setCond_acct _ _ _ _ d).trans rfl

variable {fl : InFlight} (flight : (s.chan c).inFlight = some fl)

include flight

theorem attemptFailed_first (first : fl.attempt = 1) : s.attemptFailed c = (slowed s c).sendCmd c fl.cmd 2 := by
  unfold State.attemptFailed
  rw [flight]
  dsimp only
  rw [if_pos first]
  rfl

theorem attemptFailed_trips (second : fl.attempt ≠ 1) {f : FuelCfg} (hf : s.fuel? c = some f)
    (reach : TripCause.actuatorFailure.reaches (s.chan c).state = true) :
    s.attemptFailed c = (given s c).tripChannel c .actuatorFailure := by
  unfold State.attemptFailed
  rw [flight]
  dsimp only
  rw [if_neg second, (fuel?_some hf).1]
  exact if_pos reach

theorem attemptFailed_ends (second : fl.attempt ≠ 1) {f : FuelCfg} (hf : s.fuel? c = some f)
    (reach : TripCause.actuatorFailure.reaches (s.chan c).state = false) :
    s.attemptFailed c = (slowed s c).nextCmd c := by
  unfold State.attemptFailed
  rw [flight]
  dsimp only
  rw [if_neg second, (fuel?_some hf).1]
  exact if_neg (by simp [reach])

theorem attemptFailed_fan (second : fl.attempt ≠ 1) {f : FanCfg} (hf : s.fan? c = some f) :
    s.attemptFailed c = if (s.chan c).state = .fanFault then
        (slowed s c).mapChan c fun ch => { ch with inFlight := none, queued := none }
      else ((slowed s c).mapChan c fun ch => { ch with inFlight := none, queued := none }).faultFan c := by
  unfold State.attemptFailed
  rw [flight]
  dsimp only
  rw [if_neg second, fan?_some hf]
  rfl

omit flight

/-- What a trip of a fuel channel makes of it. -/
theorem trippedRec_free {ch : Channel} (free : ch.inFlight = none) (cause : TripCause) (st : ChState) (clock : Nat)
    (stamp : Stamp) : trippedRec ch cause st clock stamp
      = { sentRec { untrackedRec (ch.tripRecord cause clock stamp) with queued := none } (.setFeed 0) 1
          with state := st } := by
  rw [trippedRec, free]

theorem trippedRec_fields (ch : Channel) {cause : TripCause} (counting : cause ≠ .zoneTrip) (st : ChState) (clock : Nat)
    (stamp : Stamp) : (trippedRec ch cause st clock stamp).state = st
      ∧ (trippedRec ch cause st clock stamp).cause = some cause
      ∧ (trippedRec ch cause st clock stamp).history = some ⟨cause, clock, stamp⟩
      ∧ (trippedRec ch cause st clock stamp).shutReleased = false
      ∧ (trippedRec ch cause st clock stamp).setpoint = 0 ∧ (trippedRec ch cause st clock stamp).alloc = 0
      ∧ (trippedRec ch cause st clock stamp).proof = none ∧ (trippedRec ch cause st clock stamp).track = none := by
  unfold trippedRec
  cases ch.inFlight <;>
    simp [sentRec, untrackedRec, Channel.tripRecord, counting, Channel.proofSent]

/-- The failure of the second attempt at a fuel channel that the trip reaches. -/
theorem given_trip {f : FuelCfg} (hf : s.fuel? c = some f)
    (reach : TripCause.actuatorFailure.reaches (s.chan c).state = true) :
    ((given s c).tripChannel c .actuatorFailure).chan c = trippedRec { s.chan c with
        slowSince := some s.now
        inFlight := none } .actuatorFailure
      (if s.locksOut c f .actuatorFailure = true then .lockedOut else .tripped) s.runClock s.stamp := by
  have clock : (given s c).runClock = s.runClock := (runClock_of_plant (State.setCond_plant _ _ _ _)).trans rfl
  have stamp : (given s c).stamp = s.stamp := (stamp_of_plant (State.setCond_plant _ _ _ _)).trans rfl
  have locks : (given s c).locksOut c f .actuatorFailure = s.locksOut c f .actuatorFailure :=
    locksOut_congr clock (by simp) f _
  rw [tripChannel_chan_same _ _ (given_fuel hf) (by simpa using reach), tripState, locks, clock, stamp, given_chan_same]

end

/-! ### The reply window (O24) -/

theorem windowExpiry_acts {s : State} {c : Chan} {fl : InFlight} {w : Nat} (flight : (s.chan c).inFlight = some fl)
    (window : fl.window = some w) (due : w ≤ s.now) :
    exec (.replyWindowExpiry c) s = .next (finish s (s.attemptFailed c)) := by
  refine guarded_acts rfl ?_
  rw [flight, Option.bind_some, window]
  exact (due_some s w).mpr due

/-- Settles O24: the second failure ends the command and trips or faults the channel. -/
theorem windowExpiryTrips : Obligations.WindowExpiryTrips := by
  refine ⟨fun s c fl w f on flight window due second hf reach => ?_, fun s c fl w f on flight window due second hf run => ?_⟩
  · have failed := attemptFailed_trips flight second hf reach
    have made := given_trip hf reach
    obtain ⟨state, cause, history, shut, setpoint, alloc, proof, track⟩ := trippedRec_fields { s.chan c with
      slowSince := some s.now
      inFlight := none } (cause := .actuatorFailure) (by decide)
      (if s.locksOut c f .actuatorFailure = true then .lockedOut else .tripped) s.runClock s.stamp
    refine ⟨s.attemptFailed c, windowExpiry_acts flight window due, ?_⟩
    rw [failed, made]
    refine ⟨state, cause, history, shut, setpoint, alloc, proof, track, ?_, ?_, fun d hd => ?_⟩
    · rw [trippedRec_free rfl]
      rfl
    · rw [tripChannel_count _ _ (given_fuel hf) (by simpa using reach), given_acct]
    · exact ((tripChannel_chanMoves _ c _).chan_other hd).trans (given_chan_other hd)
  · have failed := (attemptFailed_fan flight second hf).trans (if_neg run)
    have made := faultFan_chan_same ((slowed s c).mapChan c fun ch => { ch with inFlight := none, queued := none }) c
    rw [State.mapChan_chan_same, slowed_chan_same] at made
    have rises : (s.attemptFailed c).cond (idFanFault c) = true := by
      rw [failed]
      refine (setChState_conds _ c ?_ ?_).2.2
      · exact (congrArg Option.isSome slowed_config).trans on
      · simpa using run
    refine ⟨s.attemptFailed c, windowExpiry_acts flight window due, ?_⟩
    rw [failed] at rises ⊢
    refine ⟨congrArg Channel.state made, (congrArg Channel.setpoint made).trans rfl, congrArg Channel.inFlight made,
      congrArg Channel.queued made, rises, ?_, fun d hd => ?_⟩
    · rw [faultFan_count]
      exact congrArg (fun a : Account => min (a.count + 1) 65535) (setCond_acct _ _ _ _ c)
    · exact ((faultFan_chanMoves _ c).chan_other hd).trans
        ((State.mapChan_chan_other _ _ (Ne.symm hd)).trans (slowed_chan_other hd))

/-! ### Replies (03 R45) -/

/-- The receiver has left the reply record behind. -/
def rxd (s : State) : State := s.mapCe fun e => { e with fieldRx := e.fieldRx.behind 6 }

section

variable {s : State} {c : Chan} {tag : Byte}

@[simp] theorem rxd_chan (d : Chan) : (rxd s).chan d = s.chan d := rfl

theorem reply_unmatched (on : s.configured = true) (h : ∀ fl, (s.chan c).inFlight = some fl → fl.tag ≠ tag)
    (code : Byte) : exec (.actuatorReply (b8 c.val) tag code) s = .next (rxd s) := by
  change execActuatorReply (b8 c.val) tag code s = _
  unfold execActuatorReply
  dsimp only
  rw [if_pos on, chanOf_byte]
  dsimp only
  cases flight : (s.chan c).inFlight with
  | none => rfl
  | some fl =>
    dsimp only
    rw [if_neg (h fl flight)]
    rfl

variable {fl : InFlight}

theorem reply_taken (on : s.configured = true) (flight : (s.chan c).inFlight = some fl) (ht : fl.tag = tag)
    (code : Byte) :
    exec (.actuatorReply (b8 c.val) tag code) s = .next (finish s ((rxd s).takeReply c fl code)) := by
  change execActuatorReply (b8 c.val) tag code s = _
  unfold execActuatorReply
  dsimp only
  rw [if_pos on, chanOf_byte]
  dsimp only
  rw [flight]
  dsimp only
  rw [if_pos ht]
  rfl

theorem takeReply_done (s : State) (c : Chan) (fl : InFlight) : s.takeReply c fl 1 = s.commandDone c fl := rfl

theorem takeReply_busy (s : State) (c : Chan) (fl : InFlight) : s.takeReply c fl 2 = s.commandBusy c fl := rfl

/-- FAILED, or the fifth BUSY, fails the attempt. -/
theorem takeReply_failed (s : State) (c : Chan) {code : Byte} (h : code = 3 ∨ (code = 2 ∧ 4 ≤ fl.busy)) :
    s.takeReply c fl code = s.attemptFailed c := by
  rcases h with rfl | ⟨rfl, busy⟩
  · rfl
  · rw [takeReply_busy, State.commandBusy, if_neg (by omega)]

/-! ### What the end of a command makes of the record -/

/-- The record after the end of a command changes the handshake and the igniter-off mark only. -/
theorem nextRec_eq (ch : Channel) :
    nextRec ch = { shookRec ch (nextRec ch) with igniterOff := (nextRec ch).igniterOff } := by
  unfold nextRec shookRec
  split
  · rfl
  split
  · rfl
  split <;> rfl

@[simp] theorem nextRec_state (ch : Channel) : (nextRec ch).state = ch.state :=
  (congrArg Channel.state (nextRec_eq ch)).trans rfl
@[simp] theorem nextRec_igniter (ch : Channel) : (nextRec ch).igniter = ch.igniter :=
  (congrArg Channel.igniter (nextRec_eq ch)).trans rfl
@[simp] theorem nextRec_shut (ch : Channel) : (nextRec ch).shutReleased = ch.shutReleased :=
  (congrArg Channel.shutReleased (nextRec_eq ch)).trans rfl
@[simp] theorem nextRec_cause (ch : Channel) : (nextRec ch).cause = ch.cause :=
  (congrArg Channel.cause (nextRec_eq ch)).trans rfl
@[simp] theorem nextRec_hmin (ch : Channel) : (nextRec ch).hmin = ch.hmin :=
  (congrArg Channel.hmin (nextRec_eq ch)).trans rfl

theorem nextRec_idle {ch : Channel} (queued : ch.queued = none) (off : ch.igniterOff = false)
    (feed : ch.feedDue = false) : nextRec ch = { ch with inFlight := none } := by
  unfold nextRec
  rw [queued]
  simp [off, feed]

theorem nextRec_queued {ch : Channel} {cmd : Cmd} (queued : ch.queued = some cmd) :
    nextRec ch = sentRec { ch with inFlight := none, queued := none } cmd 1 := by
  unfold nextRec
  rw [queued]

/-- A proof that already knows its order does not change when another command is sent. -/
theorem proofSent_known {ch : Channel} {p : Proof} (h : ch.proof = some p) (sent : p.sent = true) (cmd : Cmd) (a : Nat) :
    ch.proofSent cmd a = some p := by
  obtain ⟨igniter, known, released, window⟩ := p
  obtain rfl : known = true := sent
  unfold Channel.proofSent
  split <;> simp [h]

theorem sentRec_proof_known {ch : Channel} {p : Proof} (h : ch.proof = some p) (sent : p.sent = true) (cmd : Cmd)
    (a : Nat) : (sentRec ch cmd a).proof = some p := proofSent_known h sent cmd a

theorem nextRec_proof_known {ch : Channel} {p : Proof} (h : ch.proof = some p) (sent : p.sent = true) :
    (nextRec ch).proof = some p := by
  unfold nextRec
  split
  · exact sentRec_proof_known h sent _ 1
  split
  · exact sentRec_proof_known h sent _ 1
  split
  · exact sentRec_proof_known h sent _ 1
  · exact h

theorem issuedRec_feed_proof (ch : Channel) (v : Nat) : (issuedRec ch (.setFeed v)).proof = ch.proof := by
  unfold issuedRec
  split
  · simp [sentRec, Channel.proofSent]
  · unfold Channel.enqueue
    split <;> rfl

theorem commandDone_plain (s : State) (c : Chan) (h : ∀ on, fl.cmd ≠ .igniter on) :
    s.commandDone c fl = s.nextCmd c := by
  unfold State.commandDone
  split
  · exact absurd ‹_› (h _)
  · rfl
  · rfl

/-- The state after an IGNITER command has ended with DONE. -/
def ignited (s : State) (c : Chan) (on : Bool) : State := (s.mapChan c fun ch => { ch with igniter := on }).nextCmd c

theorem ignited_chanMoves (s : State) (c : Chan) (on : Bool) : ChanMoves c s (ignited s c on) :=
  (ChanMoves.record .refl _).trans (nextCmd_chanMoves _ c)

@[simp] theorem ignited_chan_same (s : State) (c : Chan) (on : Bool) :
    (ignited s c on).chan c = nextRec { s.chan c with igniter := on } := by
  simp [ignited]

theorem commandDone_igniter {on : Bool} (s : State) (c : Chan) (h : fl.cmd = .igniter on) :
    s.commandDone c fl = if on && (s.chan c).awaitsDone then (ignited s c on).igniterDone c else ignited s c on := by
  unfold State.commandDone
  rw [h]
  rfl

/-! ### The release of an igniter proof (04 R71) -/

/-- The state after the IGNITER on of a proof has ended, and the release is ordered. -/
def lightOff (s : State) (c : Chan) (f : FuelCfg) : State := (ignited s c true).releaseShut c f

variable {f : FuelCfg} {w : Nat}

theorem igniterDone_releases (proof : ((ignited s c true).chan c).proof = some ⟨true, true, false, w⟩)
    (hf : s.fuel? c = some f) (fires : (s.zone f.zone).state.firesFuel = true) :
    (ignited s c true).igniterDone c = if (s.zone f.zone).view = true then (lightOff s c f).passProof f.zone c f
      else lightOff s c f := by
  have moves := ignited_chanMoves s c true
  have fuel : (ignited s c true).fuel? c = some f := (moves.fuel? c).trans hf
  unfold State.igniterDone
  rw [fuel, proof]
  dsimp only
  rw [moves.zone, if_pos ⟨rfl, rfl, fires⟩]
  rfl

/-- The record of the channel after the release: the proof is released, and SET_FEED Fmin is issued. -/
theorem lightOff_chan_same : (lightOff s c f).chan c = fuelledRec (nextRec { s.chan c with igniter := true }) f := by
  simp [lightOff]

theorem lightOff_chanMoves : ChanMoves c s (lightOff s c f) :=
  (ignited_chanMoves s c true).trans (releaseShut_chanMoves _ c f)

/-- The state after an igniter proof has passed, before its zone is judged. -/
def lit (s : State) (c : Chan) (f : FuelCfg) : State := (s.enterRunning c f).issue c (.igniter false)

theorem lit_chanMoves (s : State) (c : Chan) (f : FuelCfg) : ChanMoves c s (lit s c f) :=
  (enterRunning_chanMoves s c f).trans (issue_chanMoves _ c _)

theorem lit_chan_same (s : State) (c : Chan) (f : FuelCfg) : (lit s c f).chan c
    = issuedRec (ranRec (s.chan c) f (s.pt.mode == .isolated) s.now) (.igniter false) := by
  simp [lit]

theorem passProof_igniter (z : Zone) {p : Proof} (proof : (s.chan c).proof = some p) (igniter : p.igniter = true) :
    s.passProof z c f = if (s.zone z).state = .ready then (lit s c f).setZone z .lit else lit s c f := by
  unfold State.passProof
  rw [proof]
  dsimp only
  rw [if_pos igniter]
  change (if ((lit s c f).zone z).state = .ready then (lit s c f).setZone z .lit else lit s c f) = _
  rw [(lit_chanMoves s c f).zone z]

/-- A passed proof changes the channel alone among the channels. -/
theorem passProof_igniter_chan (z : Zone) {p : Proof} (proof : (s.chan c).proof = some p) (igniter : p.igniter = true)
    (d : Chan) : (s.passProof z c f).chan d = (lit s c f).chan d := by
  rw [passProof_igniter z proof igniter]
  split
  · rw [State.chan, setZone_ce_fires rfl, State.chan]
  · rfl

theorem passProof_igniter_state (z : Zone) {p : Proof} (proof : (s.chan c).proof = some p) (igniter : p.igniter = true)
    (fires : (s.zone z).state = .ready ∨ (s.zone z).state = .lit) : ((s.passProof z c f).zone z).state = .lit := by
  rw [passProof_igniter z proof igniter]
  split
  · rw [State.setZone_state, if_pos rfl]
  · rename_i ready
    rw [(lit_chanMoves s c f).zone z]
    exact fires.resolve_left ready

/-- The record of a channel whose igniter proof has passed. -/
theorem passedRec_fields (ch : Channel) (f : FuelCfg) (isolated : Bool) (now : Nat) :
    (issuedRec (ranRec ch f isolated now) (.igniter false)).proof = none
      ∧ (issuedRec (ranRec ch f isolated now) (.igniter false)).state = (if isolated then .limited else .running)
      ∧ (issuedRec (ranRec ch f isolated now) (.igniter false)).alloc = ch.hmin := by
  have going : ∀ b : Bool, (if b then ChState.limited else ChState.running) ≠ .stopping := by decide
  refine ⟨issuedRec_proof_none _ ?_, ?_, ?_⟩
  · exact retargetRec_proof_none _ _ _ rfl (going isolated)
  · rw [issuedRec_state]
    exact retargetRec_state _ _ _ (going isolated)
  · rw [issuedRec_alloc]
    exact retargetRec_alloc _ _ _ (going isolated)

theorem passedRec_kept (ch : Channel) (f : FuelCfg) (isolated : Bool) (now : Nat) :
    (issuedRec (ranRec ch f isolated now) (.igniter false)).igniter = ch.igniter
      ∧ (issuedRec (ranRec ch f isolated now) (.igniter false)).shutReleased = ch.shutReleased := by
  have going : ∀ b : Bool, (if b then ChState.limited else ChState.running) ≠ .stopping := by decide
  refine ⟨?_, ?_⟩
  · rw [issuedRec_igniter]
    exact retargetRec_igniter _ _ _ (going isolated)
  · rw [issuedRec_shut]
    exact retargetRec_shut _ _ _ (going isolated)

end

/-- The end of an igniter proof's order: the release, and with the view proven the pass. -/
theorem done_of_proof {s : State} {c : Chan} {tag : Byte} {fl : InFlight} {f : FuelCfg} {w : Nat}
    (on : s.configured = true) (flight : (s.chan c).inFlight = some fl) (ht : fl.tag = tag)
    (cmd : fl.cmd = .igniter true) (hf : s.fuel? c = some f) (proof : (s.chan c).proof = some ⟨true, true, false, w⟩)
    (fires : (s.zone f.zone).state = .ready ∨ (s.zone f.zone).state = .lit) :
    ∃ u, exec (.actuatorReply (b8 c.val) tag 1) s = .next (finish s u)
      ∧ (u.chan c).igniter = true ∧ (u.chan c).shutReleased = true
      ∧ (∀ d, d ≠ c → u.chan d = s.chan d)
      ∧ ((s.zone f.zone).view = false → (u.chan c).state = (s.chan c).state
          ∧ (u.chan c).proof = some ⟨true, true, true, w⟩ ∧ u.zs = s.zs
          ∧ ((s.chan c).queued = none → (s.chan c).igniterOff = false → (s.chan c).feedDue = false →
              (u.chan c).inFlight = some ⟨.setFeed f.fmin, (s.chan c).tagCtr, 1, 0, none⟩))
      ∧ ((s.zone f.zone).view = true → (u.chan c).proof = none
          ∧ (u.chan c).state = (if s.pt.mode = .isolated then .limited else .running)
          ∧ (u.chan c).alloc = (s.chan c).hmin ∧ (u.zone f.zone).state = .lit) := by
  have fires' : (s.zone f.zone).state.firesFuel = true := by rcases fires with h | h <;> rw [h] <;> rfl
  have known : (nextRec { s.chan c with igniter := true }).proof = some ⟨true, true, false, w⟩ :=
    nextRec_proof_known proof rfl
  have moves : ChanMoves c (rxd s) (lightOff (rxd s) c f) := lightOff_chanMoves
  have made : (lightOff (rxd s) c f).chan c = fuelledRec (nextRec { s.chan c with igniter := true }) f :=
    lightOff_chan_same
  have igniter : ((lightOff (rxd s) c f).chan c).igniter = true := by rw [made]; simp [fuelledRec]
  have shut : ((lightOff (rxd s) c f).chan c).shutReleased = true := by rw [made]; simp [fuelledRec]
  have state : ((lightOff (rxd s) c f).chan c).state = (s.chan c).state := by rw [made]; simp [fuelledRec]
  have hmin : ((lightOff (rxd s) c f).chan c).hmin = (s.chan c).hmin := by rw [made]; simp [fuelledRec]
  have released : ((lightOff (rxd s) c f).chan c).proof = some ⟨true, true, true, w⟩ := by
    rw [made, fuelledRec, issuedRec_feed_proof, known]
    rfl
  have aware : (s.chan c).awaitsDone = true := by simp [Channel.awaitsDone, proof]
  have done := (commandDone_igniter (rxd s) c cmd).trans (if_pos (by rw [rxd_chan, aware]; rfl))
  rw [igniterDone_releases (s := rxd s) (by rw [ignited_chan_same]; exact known) hf fires'] at done
  refine ⟨_, reply_taken on flight ht 1, ?_⟩
  rw [takeReply_done, done]
  cases view : (s.zone f.zone).view with
  | false =>
    rw [if_neg (show ¬ ((rxd s).zone f.zone).view = true from fun h => by cases view.symm.trans h)]
    refine ⟨igniter, shut, fun d hd => moves.chan_other hd, fun _ => ⟨state, released, moves.zs,
      fun queued off feed => ?_⟩, fun h => (by cases h)⟩
    · rw [made, nextRec_idle (ch := { s.chan c with igniter := true }) queued off feed, fuelledRec,
        issuedRec_free _ (by rfl)]
      rfl
  | true =>
    rw [if_pos (show ((rxd s).zone f.zone).view = true from view)]
    have chans := passProof_igniter_chan (s := lightOff (rxd s) c f) (f := f) f.zone released rfl
    obtain ⟨proved, runs, alloc⟩ := passedRec_fields ((lightOff (rxd s) c f).chan c) f
      ((lightOff (rxd s) c f).pt.mode == .isolated) (lightOff (rxd s) c f).now
    obtain ⟨igniterKept, shutKept⟩ := passedRec_kept ((lightOff (rxd s) c f).chan c) f
      ((lightOff (rxd s) c f).pt.mode == .isolated) (lightOff (rxd s) c f).now
    rw [← lit_chan_same] at proved runs alloc igniterKept shutKept
    rw [← chans] at proved runs alloc igniterKept shutKept
    refine ⟨igniterKept.trans igniter, shutKept.trans shut, fun d hd => ?_,
      fun h => (by cases h), fun _ => ⟨proved, ?_, ?_, ?_⟩⟩
    · rw [chans, (lit_chanMoves _ c f).chan_other hd]
      exact moves.chan_other hd
    · rw [runs, moves.mode]
      exact if_congr beq_iff_eq rfl rfl
    · exact alloc.trans hmin
    · refine passProof_igniter_state f.zone released rfl ?_
      rw [moves.zone]
      exact fires

/-- Settles O23: by the code of the reply, the command in flight and its attempt. -/
theorem repliesMatched : Obligations.RepliesMatched := by
  intro s c tag code on
  refine ⟨fun h => reply_unmatched on h code, fun fl flight ht => ?_⟩
  have taken := reply_taken on flight ht code
  refine ⟨fun h1 h2 h3 => ?_, fun h2 busy => ?_, fun h1 plain queued off feed => ?_, fun cmd h1 plain queued => ?_,
    fun h1 hcmd queued off feed => ?_, fun f w h1 hcmd hf proof fires => ?_, fun h1 hcmd idle => ?_,
    fun failed first => ?_, fun failed second => ⟨fun f hf => ?_, fun f hf => ?_⟩⟩
  · rw [taken, State.takeReply, if_neg h1, if_neg h2, if_neg h3]
    rfl
  · subst h2
    refine ⟨_, taken, ?_, fun d hd => ?_⟩
    · rw [takeReply_busy, State.commandBusy, if_pos busy, State.mapChan_chan_same]
      rfl
    · rw [takeReply_busy, State.commandBusy, if_pos busy, State.mapChan_chan_other _ _ (Ne.symm hd)]
      rfl
  · subst h1
    refine ⟨_, taken, ?_, fun d hd => ?_⟩
    · rw [takeReply_done, commandDone_plain _ _ plain, nextCmd_chan_same]
      exact nextRec_idle queued off feed
    · rw [takeReply_done, commandDone_plain _ _ plain]
      exact (nextCmd_chanMoves _ c).chan_other hd
  · subst h1
    refine ⟨_, taken, ?_, fun d hd => ?_⟩
    · rw [takeReply_done, commandDone_plain _ _ plain, nextCmd_chan_same]
      refine (nextRec_queued queued).trans ?_
      simp [sentRec, Channel.proofSent]
    · rw [takeReply_done, commandDone_plain _ _ plain]
      exact (nextCmd_chanMoves _ c).chan_other hd
  · subst h1
    have done := commandDone_igniter (rxd s) c hcmd
    rw [Bool.false_and, if_neg Bool.false_ne_true] at done
    refine ⟨_, taken, ?_, fun d hd => ?_⟩
    · rw [takeReply_done, done, ignited_chan_same]
      exact nextRec_idle queued off feed
    · rw [takeReply_done, done]
      exact (ignited_chanMoves _ c false).chan_other hd
  · subst h1
    exact done_of_proof on flight ht hcmd hf proof fires
  · subst h1
    have unaware : (s.chan c).awaitsDone = false := by
      unfold Channel.awaitsDone
      split
      · rename_i p hp
        simp [idle p hp]
      · rfl
    have done := commandDone_igniter (rxd s) c hcmd
    rw [rxd_chan, unaware, Bool.and_false, if_neg Bool.false_ne_true] at done
    have made := (ignited_chan_same (rxd s) c true).trans (nextRec_eq _)
    rw [← done] at made
    have moves : ChanMoves c (rxd s) ((rxd s).commandDone c fl) := by
      rw [done]
      exact ignited_chanMoves _ c true
    exact ⟨(rxd s).commandDone c fl, taken, congrArg Channel.igniter made, (congrArg Channel.shutReleased made).trans rfl,
      (congrArg Channel.state made).trans rfl, moves.zs.trans rfl, fun d hd => moves.chan_other hd⟩
  · have send := attemptFailed_first (s := rxd s) flight first
    refine ⟨_, taken, ?_, ?_, fun d hd => ?_⟩ <;> rw [takeReply_failed _ _ failed, send]
    · rw [(sendCmd_chanMoves _ c _ 2).cond_other (slow_not_state c c)]
      exact slowed_cond on
    · rw [sendCmd_chan_same, slowed_chan_same]
      simp [sentRec, Channel.proofSent]
      rfl
    · exact ((sendCmd_chanMoves _ c _ 2).chan_other hd).trans (slowed_chan_other hd)
  · refine ⟨_, taken, ?_⟩
    rw [takeReply_failed _ _ failed]
    cases reach : TripCause.actuatorFailure.reaches (s.chan c).state with
    | true =>
      have trips := attemptFailed_trips (s := rxd s) flight second hf reach
      have made := given_trip (s := rxd s) hf reach
      have moves := tripChannel_chanMoves (given (rxd s) c) c .actuatorFailure
      obtain ⟨state, cause, -, shut, -⟩ := trippedRec_fields { s.chan c with
        slowSince := some s.now
        inFlight := none } (cause := .actuatorFailure) (by decide)
        (if s.locksOut c f .actuatorFailure = true then .lockedOut else .tripped) s.runClock s.stamp
      rw [trips]
      refine ⟨?_, fun d hd => (moves.chan_other hd).trans (given_chan_other hd), fun _ => ?_, fun h => by cases h⟩
      · rw [moves.cond_other (slow_not_state c c)]
        exact slowed_cond on
      · rw [made]
        refine ⟨state, cause, shut, ?_⟩
        rw [trippedRec_free rfl]
        rfl
    | false =>
      have ends := attemptFailed_ends (s := rxd s) flight second hf reach
      have moves := nextCmd_chanMoves (slowed (rxd s) c) c
      rw [ends]
      refine ⟨?_, fun d hd => (moves.chan_other hd).trans (slowed_chan_other hd), fun h => (by cases h), fun _ => ?_⟩
      · rw [moves.cond_other (slow_not_state c c)]
        exact slowed_cond on
      · rw [nextCmd_chan_same, slowed_chan_same]
        simp
  · refine ⟨_, taken, ?_⟩
    have fan := attemptFailed_fan (s := rxd s) flight second hf
    rw [takeReply_failed _ _ failed, fan]
    by_cases fault : ((rxd s).chan c).state = .fanFault
    · rw [if_pos fault, State.mapChan_chan_same, slowed_chan_same]
      exact ⟨fault, rfl, rfl, fun d hd => (State.mapChan_chan_other _ _ (Ne.symm hd)).trans (slowed_chan_other hd)⟩
    · rw [if_neg fault, faultFan_chan_same, State.mapChan_chan_same, slowed_chan_same]
      exact ⟨rfl, rfl, rfl, fun d hd => ((faultFan_chanMoves _ c).chan_other hd).trans
        ((State.mapChan_chan_other _ _ (Ne.symm hd)).trans (slowed_chan_other hd))⟩

end Sys2Proof.Proofs
end

section
/-! PROOF. The channels' records after a sample of each quantity, and the fan channels (O29; 03 R60 to R62). -/

namespace Sys2Proof.Proofs
open Sys2Proof.Machine

section

variable {s : State} {c : Chan}

/-! ### The record of a channel after a sample -/

theorem sampled_chan (p : PointId) (v : Word) (ql : Byte) (d : Chan) :
    (sampled s p v ql).chan d = (sensed s p v ql).chan d := chan_of_plant (sampled_plant s p v ql) d

theorem sampled_chan_other (p : PointId) (v : Word) (ql : Byte) {d : Chan} (h : pointChan? p ≠ some d) :
    (sampled s p v ql).chan d = s.chan d := by
  rw [sampled_chan]
  cases p with
  | flame z => rfl
  | clinker => rfl
  | feed c | valve c | fault c | flow c | bed c =>
    exact State.mapChan_chan_other _ _ fun e => h (e ▸ rfl)

theorem sampled_flow (v : Word) (ql : Byte) : (sampled s (.flow c) v ql).chan c
    = { s.chan c with flowPt := takenPoint (s.chan c).flowPt v.toNat ql s.now } := by
  rw [sampled_chan]
  exact State.mapChan_chan_same _ _ _

theorem sampled_feed (v : Word) (ql : Byte) : (sampled s (.feed c) v ql).chan c
    = { s.chan c with feedPt := takenPoint (s.chan c).feedPt v.toNat ql s.now } := by
  rw [sampled_chan]
  exact State.mapChan_chan_same _ _ _

theorem sampled_fault (v : Word) (ql : Byte) : (sampled s (.fault c) v ql).chan c
    = { s.chan c with faultPt := takenPoint (s.chan c).faultPt v.toNat ql s.now } := by
  rw [sampled_chan]
  exact State.mapChan_chan_same _ _ _

theorem sampled_valve (v : Word) (ql : Byte) : (sampled s (.valve c) v ql).chan c
    = { s.chan c with valvePt := takenPoint (s.chan c).valvePt v.toNat ql s.now } := by
  rw [sampled_chan]
  exact State.mapChan_chan_same _ _ _

theorem sensed_outside (p : PointId) (v : Word) (ql : Byte) :
    sensed s p v ql = { s with ce := (sensed s p v ql).ce } := by
  rw [sensed, mapPoint_outside]
  rfl

theorem sampled_config (p : PointId) (v : Word) (ql : Byte) : (sampled s p v ql).config = s.config := by
  rw [config_of_plant (sampled_plant s p v ql), sensed_outside]

theorem sampled_mode (p : PointId) (v : Word) (ql : Byte) : (sampled s p v ql).pt.mode = s.pt.mode := by
  rw [mode_of_plant (sampled_plant s p v ql), sensed_outside]

theorem sampled_now (p : PointId) (v : Word) (ql : Byte) : (sampled s p v ql).now = s.now := by
  rw [now_of_plant (sampled_plant s p v ql), sensed_outside]

theorem sampled_zs (p : PointId) (v : Word) (ql : Byte) : (sampled s p v ql).zs = s.zs := by
  rw [zs_of_plant (sampled_plant s p v ql), sensed_outside]

theorem sampled_acct (p : PointId) (v : Word) (ql : Byte) (d : Chan) : (sampled s p v ql).acct d = s.acct d := by
  rw [acct_of_plant (sampled_plant s p v ql), sensed_outside]
  rfl

theorem sampled_fuel (p : PointId) (v : Word) (ql : Byte) (d : Chan) : (sampled s p v ql).fuel? d = s.fuel? d := by
  simp only [State.fuel?, State.chanCfg, sampled_config]

theorem sampled_fan (p : PointId) (v : Word) (ql : Byte) (d : Chan) : (sampled s p v ql).fan? d = s.fan? d := by
  simp only [State.fan?, State.chanCfg, sampled_config]

/-- A point after a GOOD or UNCERTAIN sample. -/
theorem takenPoint_good {ql : Byte} (good : ql.toNat ≤ 1) (x : Point) (v now : Nat) :
    takenPoint x v ql now = x.takeGood v (qualityUncertain ql) := if_pos (decide_eq_true good)

/-! ### A FLOW_ACTUAL sample (03 R60, R62) -/

/-- The record of a STARTING fan that runs: at Fmin, a FIXED one at its base. -/
def ranFanRec (ch : Channel) (f : FanCfg) : Channel :=
  match f.role with
  | .fixed => flowRec { ch with setpoint := f.fmin, startClock := none, state := .running } (fanBase f)
  | .cooler => { ch with setpoint := f.fmin, startClock := none, state := .running }

/-- The record of a fan that is handed a flow. -/
def handedRec (ch : Channel) (f : FanCfg) : Channel :=
  if ch.state = .starting ∧ ch.flowPt.good = true ∧ f.fmin ≤ ch.flowPt.last.getD 0 * 2 then ranFanRec ch f else ch

@[simp] theorem takeBase_chan_same (s : State) (c : Chan) (f : FanCfg) : (s.takeBase c f).chan c =
    match f.role with
    | .fixed => flowRec (s.chan c) (fanBase f)
    | .cooler => s.chan c := by
  unfold State.takeBase
  cases f.role <;> simp

@[simp] theorem flowHanded_chan_same (s : State) (c : Chan) (f : FanCfg) :
    (s.flowHanded c f).chan c = handedRec (s.chan c) f := by
  unfold State.flowHanded handedRec ranFanRec
  dsimp only
  split
  · cases hr : f.role <;> simp [hr]
  · rfl

/-- The record of an OFF fan that is adopted while it runs. -/
def adoptedRec (ch : Channel) (f : FanCfg) (starting : Bool) (v : Nat) : Channel :=
  if starting = true ∧ ch.state = .off ∧ ch.adopted = false ∧ f.fmin ≤ v * 2 then
    { ch with setpoint := v, adopted := true, state := .running }
  else ch

@[simp] theorem adoptFan_chan_same (s : State) (c : Chan) (f : FanCfg) (v : Nat) :
    (s.adoptFan c f v).chan c = adoptedRec (s.chan c) f (s.pt.mode == .starting) v := by
  unfold State.adoptFan adoptedRec
  dsimp only
  simp only [beq_iff_eq, Bool.not_eq_true']
  split <;> simp

@[simp] theorem integrateFlow_chan (sp e : Nat) (d : Chan) : (s.integrateFlow c sp e).chan d = s.chan d := by
  rw [State.chan, integrateFlow_ce, State.chan]

@[simp] theorem integrateFlow_mode (sp e : Nat) : (s.integrateFlow c sp e).pt.mode = s.pt.mode := by
  unfold State.integrateFlow
  dsimp only
  split <;> rfl

/-- The state after a GOOD or UNCERTAIN flow of a fan. -/
def flowed (s : State) (c : Chan) (f : FanCfg) (v : Word) (ql : Byte) (el : Word) : State :=
  (sampled s (.flow c) v ql).takeFlow c f v.toNat (qualityGood ql) (sampleElapsed el)

theorem exec_sampleRecord_flow {src : Byte} {f : FanCfg} (on : s.configured = true) (hf : s.fan? c = some f)
    (hsrc : src.toNat = c.val) (v : Word) (ql : Byte) (el : Word) :
    exec (.sampleRecord src 2 v ql el) s = .next (finish s (flowed s c f v ql el)) := by
  rw [exec_sampleRecord_point on (matchPoint_flow hf hsrc)]
  have fan : (sampled s (.flow c) v ql).fan? c = some f := (sampled_fan _ _ _ _).trans hf
  simp only [State.handSample, fan]
  rfl

theorem takeFlow_chan_other (s : State) (f : FanCfg) (v : Nat) (good : Bool) (e : Nat) {d : Chan} (h : d ≠ c) :
    (s.takeFlow c f v good e).chan d = s.chan d := by
  unfold State.takeFlow
  dsimp only
  rw [(flowHanded_chanMoves _ c f).chan_other h]
  split
  · rw [(adoptFan_chanMoves _ c f v).chan_other h, integrateFlow_chan]
  · rw [integrateFlow_chan]

theorem takeFlow_chan_same (s : State) (f : FanCfg) (v e : Nat) :
    (s.takeFlow c f v true e).chan c = handedRec (adoptedRec (s.chan c) f (s.pt.mode == .starting) v) f := by
  simp [State.takeFlow]

/-- The record of a fan after a GOOD or UNCERTAIN flow. -/
theorem flowed_chan_same {f : FanCfg} {ql : Byte} (good : ql.toNat ≤ 1) (v el : Word) :
    (flowed s c f v ql el).chan c = handedRec (adoptedRec { s.chan c with
      flowPt := (s.chan c).flowPt.takeGood v.toNat (qualityUncertain ql) } f (s.pt.mode == .starting) v.toNat) f := by
  rw [flowed, show qualityGood ql = true from decide_eq_true good, takeFlow_chan_same, sampled_flow, sampled_mode,
    takenPoint_good good]

theorem flowed_chan_other {f : FanCfg} (v : Word) (ql : Byte) (el : Word) {d : Chan} (h : d ≠ c) :
    (flowed s c f v ql el).chan d = s.chan d :=
  (takeFlow_chan_other _ f _ _ _ h).trans (sampled_chan_other _ _ _ fun e => h (Option.some.inj e).symm)

/-! ### What the flow makes of the fan -/

variable {ch : Channel} {f : FanCfg} {v : Nat} {unc : Bool}

/-- The record with a GOOD or UNCERTAIN flow at its point. -/
def gauged (ch : Channel) (v : Nat) (unc : Bool) : Channel := { ch with flowPt := ch.flowPt.takeGood v unc }

theorem handedRec_starts (starting : ch.state = .starting) (enough : f.fmin ≤ 2 * v) :
    handedRec (gauged ch v unc) f = ranFanRec (gauged ch v unc) f :=
  if_pos ⟨starting, rfl, by change f.fmin ≤ v * 2; omega⟩

theorem handedRec_idle (h : ch.state ≠ .starting) : handedRec ch f = ch := if_neg fun e => h e.1

theorem handedRec_low (low : 2 * v < f.fmin) : handedRec (gauged ch v unc) f = gauged ch v unc :=
  if_neg fun e => by have : f.fmin ≤ v * 2 := e.2.2; omega

theorem adoptedRec_idle {starting : Bool} (h : ¬ (starting = true ∧ ch.state = .off ∧ ch.adopted = false
    ∧ f.fmin ≤ v * 2)) : adoptedRec ch f starting v = ch := if_neg h

theorem ranFanRec_fields (ch : Channel) (f : FanCfg) : (ranFanRec ch f).state = .running
    ∧ (ranFanRec ch f).startClock = none
    ∧ (f.role = .cooler → (ranFanRec ch f).setpoint = f.fmin ∧ (ranFanRec ch f).inFlight = ch.inFlight)
    ∧ (f.role = .fixed → (ranFanRec ch f).setpoint = fanBase f
      ∧ (ch.inFlight = none → fanBase f ≠ f.fmin →
        (ranFanRec ch f).inFlight = some ⟨.setFlow (fanBase f), ch.tagCtr, 1, 0, none⟩)) := by
  unfold ranFanRec
  cases role : f.role with
  | cooler => exact ⟨rfl, rfl, fun _ => ⟨rfl, rfl⟩, fun h => by cases h⟩
  | fixed =>
    refine ⟨?_, ?_, fun h => (by cases h), fun _ => ⟨?_, fun free differ => ?_⟩⟩
    · dsimp only [flowRec]; split <;> simp
    · dsimp only [flowRec]; split <;> simp
    · dsimp only [flowRec]
      split
      · assumption
      · simp
    · dsimp only [flowRec]
      rw [if_neg (Ne.symm differ), issuedRec_free _ (by exact free)]
      rfl

end

/-! ### Start and failure (03 R60, R61) -/

theorem startFan_fields (s : State) (c : Chan) (f : FanCfg) : ((s.startFan c f).chan c).state = .starting
    ∧ ((s.startFan c f).chan c).setpoint = f.fmin
    ∧ ((s.startFan c f).chan c).startClock = some (s.now + 7500000)
    ∧ ((s.chan c).inFlight = none →
      ((s.startFan c f).chan c).inFlight = some ⟨.setFlow f.fmin, (s.chan c).tagCtr, 1, 0, none⟩) := by
  rw [startFan_chan_same]
  refine ⟨rfl, issuedRec_setpoint _ _, issuedRec_startClock _ _, fun free => ?_⟩
  rw [issuedRec_free _ (by exact free)]
  rfl

theorem faultFan_fields (s : State) (c : Chan) (on : s.configured = true) (run : (s.chan c).state ≠ .fanFault) :
    ((s.faultFan c).chan c).state = .fanFault ∧ ((s.faultFan c).chan c).setpoint = (s.chan c).setpoint
      ∧ ((s.faultFan c).chan c).startClock = none ∧ ((s.faultFan c).chan c).lowFlowClock = none
      ∧ (s.faultFan c).cond (idFanFault c) = true
      ∧ ((s.faultFan c).acct c).count = min ((s.acct c).count + 1) 65535 ∧ ∀ d, d ≠ c → (s.faultFan c).chan d = s.chan d := by
  have rises : (s.faultFan c).cond (idFanFault c) = true :=
    (setChState_conds ((s.mapChan c fun ch => { ch with startClock := none, lowFlowClock := none }).mapAcct c
      Account.countTrip) c on (st := .fanFault) (by simpa using run)).2.2
  refine ⟨?_, ?_, ?_, ?_, rises, faultFan_count s c, fun d hd => (faultFan_chanMoves s c).chan_other hd⟩ <;>
    rw [faultFan_chan_same]

/-- Settles O29: a fan's record after a start, after a flow, and after a fault. -/
theorem fansStartAndFail : Obligations.FansStartAndFail := by
  refine ⟨fun s w c f x code on serves hw hf decides hx => ?_, fun s w c f hw hf => ⟨fun serves no => ?_,
    fun serves no => ?_⟩, fun s src ql v el c f on hf hsrc good => ?_, fun s c x on hx => ?_⟩
  · obtain ⟨state, setpoint, clock, flight⟩ := startFan_fields s c f
    have starts : exec x s = .next (finish s ((s.startFan c f).ok code)) := by
      rcases hx with ⟨rfl, rfl, off⟩ | ⟨rfl, rfl, fault⟩
      · rw [channelStart_fan serves (chanArg_of_fan hw hf), State.startFanRequest, if_pos ⟨off, decides⟩]
      · rw [resetTrip_fan serves (chanArg_of_fan hw hf), if_pos ⟨fault, decides⟩]
    exact ⟨_, starts, state, setpoint, clock, flight, fun d hd => (startFan_chanMoves s c f).chan_other hd, rfl⟩
  · rw [channelStart_fan serves (chanArg_of_fan hw hf), State.startFanRequest, if_neg]
    exact fun h => no.elim (fun ne => ne h.1) fun idle => by rw [idle] at h; exact absurd h.2 (by decide)
  · rw [resetTrip_fan serves (chanArg_of_fan hw hf), if_neg]
    exact fun h => no.elim (fun ne => ne h.1) fun idle => by rw [idle] at h; exact absurd h.2 (by decide)
  · have made := flowed_chan_same (s := s) (c := c) (f := f) good v el
    have point : (flowed s c f v ql el).point (.flow c) = (s.chan c).flowPt.takeGood v.toNat (qualityUncertain ql) := by
      have kept := (handSample_sensors (s := sampled s (.flow c) v ql) (.flow c) v.toNat (qualityGood ql)
        (sampleElapsed el)).point (.flow c)
      have fan : (sampled s (.flow c) v ql).fan? c = some f := (sampled_fan _ _ _ _).trans hf
      simp only [State.handSample, fan, sampled_point_same, takenPoint_good good] at kept
      exact kept
    refine ⟨_, exec_sampleRecord_flow on hf hsrc v ql el, fun starting enough => ?_, fun listen off fresh enough => ?_,
      fun idle => ?_, fun d hd => flowed_chan_other v ql el hd⟩
    · have fan := ranFanRec_fields (gauged (s.chan c) v.toNat (qualityUncertain ql)) f
      have made : (flowed s c f v ql el).chan c = ranFanRec (gauged (s.chan c) v.toNat (qualityUncertain ql)) f := by
        rw [made, adoptedRec_idle (by simp [starting])]
        exact handedRec_starts starting enough
      rw [made]
      exact fan
    · rw [made, handedRec_idle] <;> rw [adoptedRec, if_pos ⟨by simp [listen], off, fresh, by omega⟩]
      · exact ⟨rfl, rfl, rfl, rfl, rfl⟩
      · simp
    · rw [made, point]
      rw [adoptedRec_idle]
      · rcases idle with low | ⟨run, -⟩
        · exact handedRec_low low
        · exact handedRec_idle run
      · rintro ⟨listen, off, fresh, enough⟩
        rcases idle with low | ⟨-, none⟩
        · omega
        · exact none ⟨beq_iff_eq.mp listen, off, fresh⟩
  · rcases hx with ⟨rfl, starting, d, clock, due⟩ | ⟨rfl, running, d, clock, due⟩
    · obtain ⟨state, setpoint, start, low, rises, count, others⟩ := faultFan_fields s c on (by simp [starting])
      exact ⟨s.faultFan c, guarded_acts rfl ⟨starting, by rw [clock]; exact (due_some s d).mpr due⟩, state, setpoint,
        start, low, rises, count, others⟩
    · obtain ⟨state, setpoint, start, low, rises, count, others⟩ := faultFan_fields s c on (by simp [running])
      exact ⟨s.faultFan c, guarded_acts rfl ⟨running, by rw [clock]; exact (due_some s d).mpr due⟩, state, setpoint,
        start, low, rises, count, others⟩

end Sys2Proof.Proofs
end

section
/-! PROOF. The ramp, the tracking clocks, and a FEED_ACTUAL sample: tracking, derating and the feed proof (O25;
03 sections 3.4, 3.5, 04 R72). -/

namespace Sys2Proof.Proofs
open Sys2Proof.Machine

/-! ### The alarm list beside a feed target -/

section

variable (s : State) (c : Chan)

@[simp] theorem issue_al (cmd : Cmd) : (s.issue c cmd).al = s.al := by
  obtain ⟨ce, h⟩ := issue_form s c cmd
  rw [h]

@[simp] theorem restartAcquiring_al : (s.restartAcquiring c).al = s.al := by
  unfold State.restartAcquiring
  split
  · rfl
  dsimp only
  split <;> rfl

theorem stepRamp_al (f : FuelCfg) (t : Nat) (going : (s.chan c).state ≠ .stopping) : (s.stepRamp c f t).al = s.al := by
  unfold State.stepRamp
  dsimp only
  rw [if_neg fun h => going h.1, issue_al]
  rfl

theorem acquiringRec_state (ch : Channel) (now : Nat) : (acquiringRec ch now).state = ch.state := by
  unfold acquiringRec
  split <;> rfl

/-- A target set in a channel that is not STOPPING writes no condition. -/
theorem retarget_al (f : FuelCfg) (target : Nat) (going : (s.chan c).state ≠ .stopping) :
    (s.retarget c f target).al = s.al := by
  unfold State.retarget
  dsimp only
  split <;> split
  · exact (stepRamp_al _ c f _ (by simpa [acquiringRec_state] using going)).trans (restartAcquiring_al _ c)
  · exact stepRamp_al _ c f _ (by simpa using going)
  · exact restartAcquiring_al _ c
  · rfl

theorem setHmaxEff_al (f : FuelCfg) (v : Nat) : (s.setHmaxEff c f v).al = s.al := by
  unfold State.setHmaxEff
  dsimp only
  split
  case isFalse => rfl
  case isTrue h =>
    unfold State.holdAlloc
    split
    · rfl
    · exact retarget_al _ c f _ (by simp [h.1])

/-! ### Hmax_eff set (03 R52) -/

/-- The record after Hmax_eff is set to `v`: a held allocation above it is lowered to it. -/
theorem effRec_fields (ch : Channel) (f : FuelCfg) (v now : Nat) : (effRec ch f v now).hmaxEff = v
    ∧ (effRec ch f v now).state = ch.state ∧ (effRec ch f v now).shutReleased = ch.shutReleased
    ∧ (ch.state = .running → ch.alloc ≤ v → (effRec ch f v now).alloc = ch.alloc)
    ∧ (ch.state = .running → v < ch.alloc → (effRec ch f v now).alloc = v ∧ (effRec ch f v now).target = feedOf f v) := by
  unfold effRec
  split
  case isFalse h =>
    exact ⟨rfl, rfl, rfl, fun _ _ => rfl, fun running above => absurd ⟨running, above⟩ h⟩
  case isTrue h =>
    obtain ⟨running, above⟩ := h
    have going : ({ ch with hmaxEff := v, alloc := v } : Channel).state ≠ .stopping := by simp [running]
    have held : holdRec { ch with hmaxEff := v } f v now
        = retargetRec { ch with hmaxEff := v, alloc := v } f (feedOf f v) now := if_neg (by simpa using by omega)
    rw [held]
    exact ⟨retargetRec_hmaxEff _ _ _ going, retargetRec_state _ _ _ going, retargetRec_shut _ _ _ going,
      fun _ le => by omega, fun _ _ => ⟨retargetRec_alloc _ _ _ going, retargetRec_target _ _ _ going⟩⟩

end

/-! ### The ramp and the tracking clocks -/

section

variable {s : State} {c : Chan} {f : FuelCfg}

theorem rampStep_acts {t : Nat} (hf : s.fuel? c = some f) (clock : (s.chan c).rampNext = some t) (due : t ≤ s.now) :
    exec (.rampStep c) s = .next (finish s (s.stepRamp c f t)) := by
  change execRampStep c s = _
  unfold execRampStep
  rw [hf, clock]
  dsimp only
  rw [if_pos due]

theorem rampedRec_fields (ch : Channel) (f : FuelCfg) (t : Nat) : (rampedRec ch f t).setpoint = rampTo ch f
    ∧ (rampedRec ch f t).state = ch.state
    ∧ (rampedRec ch f t).rampNext = (if rampTo ch f = ch.target then none else some (t + 250000))
    ∧ (ch.inFlight = none → (rampedRec ch f t).inFlight = some ⟨.setFeed (rampTo ch f), ch.tagCtr, 1, 0, none⟩) := by
  unfold rampedRec
  refine ⟨issuedRec_setpoint _ _, issuedRec_state _ _, issuedRec_rampNext _ _, fun free => ?_⟩
  rw [issuedRec_free _ (by exact free)]
  rfl

/-- The state in which a tracking clock has run out, and the channel is derated. -/
theorem derating_starts (f : FuelCfg) {g : Channel → Channel} (on : s.configured = true)
    (hg : ∀ ch : Channel, (g ch).state = ch.state ∧ (g ch).shutReleased = ch.shutReleased ∧ (g ch).alloc = ch.alloc
      ∧ (g ch).derated = ch.derated) :
    ((s.mapChan c g).startDerating c f).cond (idFeedDeviation c) = true
      ∧ (((s.mapChan c g).startDerating c f).chan c).hmaxEff = (s.chan c).derated
      ∧ (((s.mapChan c g).startDerating c f).chan c).state = (s.chan c).state
      ∧ (((s.mapChan c g).startDerating c f).chan c).shutReleased = (s.chan c).shutReleased
      ∧ ((s.chan c).state = .running →
          ((s.chan c).alloc ≤ (s.chan c).derated → (((s.mapChan c g).startDerating c f).chan c).alloc = (s.chan c).alloc)
          ∧ ((s.chan c).derated ≤ (s.chan c).alloc →
            (((s.mapChan c g).startDerating c f).chan c).alloc = (s.chan c).derated))
      ∧ ∀ d, d ≠ c → ((s.mapChan c g).startDerating c f).chan d = s.chan d := by
  obtain ⟨state, shut, alloc, derated⟩ := hg (s.chan c)
  have made := startDerating_chan_same (s.mapChan c g) c f
  rw [State.mapChan_chan_same, derated] at made
  obtain ⟨eff, st, released, low, high⟩ := effRec_fields (g (s.chan c)) f (s.chan c).derated (s.mapChan c g).now
  rw [← made] at eff st released low high
  rw [state, alloc] at low high
  refine ⟨?_, eff, st.trans state, released.trans shut, fun running => ⟨low running, fun above => ?_⟩, fun d hd => ?_⟩
  · have al := setHmaxEff_al ((s.mapChan c g).setCond (idFeedDeviation c) true
      (some ((s.mapChan c g).chan c).actual)) c f ((s.mapChan c g).chan c).derated
    have set := setCond_same (s := s.mapChan c g) on (idFeedDeviation c) true (some ((s.mapChan c g).chan c).actual)
    rw [State.cond, State.alarm] at set ⊢
    rw [State.startDerating, al]
    exact set
  · rcases Nat.lt_or_eq_of_le above with lt | eq
    · exact (high running lt).1
    · exact (low running eq.ge).trans eq.symm
  · exact ((startDerating_chanMoves _ c f).chan_other hd).trans (State.mapChan_chan_other _ _ (Ne.symm hd))

end

/-! ### A FEED_ACTUAL sample (03 R47) -/

section

variable {s : State} {c : Chan} {f : FuelCfg}

@[simp] theorem integrateFeed_chan (ncv sp e : Nat) (d : Chan) : (s.integrateFeed c ncv sp e).chan d = s.chan d := by
  rw [State.chan, integrateFeed_ce, State.chan]

theorem integrateFeed_outside (ncv sp e : Nat) :
    s.integrateFeed c ncv sp e = { s with sr := (s.integrateFeed c ncv sp e).sr } := by
  unfold State.integrateFeed
  dsimp only
  split <;> rfl

/-- The record of a channel that has taken a GOOD or UNCERTAIN feed, before tracking is evaluated. -/
def heatedRec (ch : Channel) (f : FuelCfg) (v : Word) (ql : Byte) : Channel :=
  { ch with feedPt := ch.feedPt.takeGood v.toNat (qualityUncertain ql), actual := heatOf f.ncv v.toNat }

/-- The state in which tracking is evaluated. -/
def heated (s : State) (c : Chan) (f : FuelCfg) (v : Word) (ql : Byte) (el : Word) : State :=
  ((sampled s (.feed c) v ql).integrateFeed c f.ncv (s.chan c).setpoint (sampleElapsed el)).mapChan c
    fun ch => { ch with actual := heatOf f.ncv v.toNat }

/-- The state after a GOOD or UNCERTAIN feed is evaluated for tracking. -/
def tracked (s : State) (c : Chan) (f : FuelCfg) (v : Word) (ql : Byte) (el : Word) : State :=
  (heated s c f v ql el).trackSample c f v.toNat

/-- The state after the derated channel is derated again. -/
def rederated (s : State) (c : Chan) (f : FuelCfg) (v : Word) (ql : Byte) (el : Word) : State :=
  if (tracked s c f v ql el).cond (idFeedDeviation c) = true then
    (tracked s c f v ql el).setHmaxEff c f ((tracked s c f v ql el).chan c).derated
  else tracked s c f v ql el

/-- The state after a feed sample, before what follows an event. -/
def fed (s : State) (c : Chan) (f : FuelCfg) (v : Word) (ql : Byte) (el : Word) : State :=
  (sampled s (.feed c) v ql).takeFeed c f v.toNat (qualityGood ql) (sampleElapsed el)

theorem exec_sampleRecord_feed {src : Byte} (on : s.configured = true) (hf : s.fuel? c = some f)
    (hsrc : src.toNat = c.val) (v : Word) (ql : Byte) (el : Word) :
    exec (.sampleRecord src 1 v ql el) s = .next (finish s (fed s c f v ql el)) := by
  rw [exec_sampleRecord_point on (matchPoint_fuel hf hsrc).1]
  have fuel : (sampled s (.feed c) v ql).fuel? c = some f := (sampled_fuel _ _ _ _).trans hf
  simp only [State.handSample, fuel]
  rfl

theorem fed_good {ql : Byte} (good : ql.toNat ≤ 1) (v el : Word) :
    fed s c f v ql el = (rederated s c f v ql el).feedProof c f v.toNat := by
  have setpoint : ((sampled s (.feed c) v ql).chan c).setpoint = (s.chan c).setpoint := by rw [sampled_feed]
  rw [fed, show qualityGood ql = true from decide_eq_true good]
  unfold State.takeFeed
  dsimp only
  rw [if_pos rfl, setpoint]
  rfl

theorem heated_chan_same {ql : Byte} (good : ql.toNat ≤ 1) (v el : Word) :
    (heated s c f v ql el).chan c = heatedRec (s.chan c) f v ql := by
  rw [heated, State.mapChan_chan_same, integrateFeed_chan, sampled_feed, takenPoint_good good]
  rfl

theorem heated_chan_other (v : Word) (ql : Byte) (el : Word) {d : Chan} (h : d ≠ c) :
    (heated s c f v ql el).chan d = s.chan d := by
  rw [heated, State.mapChan_chan_other _ _ (Ne.symm h), integrateFeed_chan]
  exact sampled_chan_other _ _ _ fun e => h (Option.some.inj e).symm

theorem heated_outside (v : Word) (ql : Byte) (el : Word) : (heated s c f v ql el).config = s.config
    ∧ (heated s c f v ql el).pt.mode = s.pt.mode ∧ (heated s c f v ql el).now = s.now
    ∧ (heated s c f v ql el).zs = s.zs := by
  rw [heated, integrateFeed_outside]
  exact ⟨sampled_config _ _ _, sampled_mode _ _ _, sampled_now _ _ _, sampled_zs _ _ _⟩

theorem setCond_cond_other (s : State) {id j : AlarmId} (h : id ≠ j) (v : Bool) (x : Option Nat) :
    (s.setCond j v x).cond id = s.cond id := by
  cases on : s.configured with
  | true => rw [State.setCond_cond _ _ _ _ on, if_neg h]
  | false => simp [State.setCond, on]

/-- The conditions that a sample's record writes are those of the port's silence and of the point's quality. -/
theorem sampled_cond {id : AlarmId} (silent : id ≠ idFieldSilent)
    (bad : ∀ d, id ≠ idSampleBad d) (p : PointId) (v : Word) (ql : Byte) : (sampled s p v ql).cond id = s.cond id := by
  have kept : ∀ (t : State) (g : Point → Point), (t.mapPoint p g).cond id = t.cond id := fun t g => by cases p <;> rfl
  have first : s.endSilence.cond id = s.cond id := (setCond_cond_other (heard s) silent _ _).trans rfl
  refine Eq.trans ?_ first
  unfold sampled State.samplePoint State.samplePointCond
  split
  · exact (setCond_cond_other _ (bad _) _ _).trans (kept _ _)
  · exact kept _ _

theorem heated_cond (v : Word) (ql : Byte) (el : Word) (d : Chan) :
    (heated s c f v ql el).cond (idFeedDeviation d) = s.cond (idFeedDeviation d) := by
  rw [heated, integrateFeed_outside]
  exact sampled_cond (by revert d; decide) (by revert d; decide) _ _ _

/-! ### Tracking evaluated (03 R50, R51) -/

/-- The record of a channel whose tracking has evaluated a feed. -/
def trackedRec (ch : Channel) (f : FuelCfg) (v now : Nat) : Channel :=
  match ch.track with
  | none => ch
  | some k =>
    let k' := k.sample (deviation v ch.setpoint f.fmin)
    if k'.locked && !k.locked then
      { ch with track := some k', unlockedClock := none, acquiringClock := none, hmaxEff := ch.hmax }
    else if k.locked && !k'.locked then { ch with track := some k', unlockedClock := some (now + seconds 20) }
    else { ch with track := some k' }

variable (s c) in
theorem trackSample_chanMoves (f : FuelCfg) (v : Nat) : ChanMoves c s (s.trackSample c f v) := by
  unfold State.trackSample
  split
  · exact .refl
  dsimp only
  split
  · exact ((ChanMoves.record (ChanMoves.record .refl _) _).trans (endDerating_chanMoves _ c)).tail (.notify _ _)
  split
  · exact ChanMoves.notify (ChanMoves.record (ChanMoves.record .refl _) _) _
  · exact ChanMoves.record .refl _

@[simp] theorem trackSample_chan_same (f : FuelCfg) (v : Nat) :
    (s.trackSample c f v).chan c = trackedRec (s.chan c) f v s.now := by
  unfold State.trackSample trackedRec
  cases (s.chan c).track with
  | none => rfl
  | some k =>
    dsimp only
    split
    · simp
    split <;> simp

/-- The sample makes the tracking LOCKED. -/
abbrev locks (k : Tracking) (dev : Nat) : Prop := k.locked = false ∧ dev ≤ 20 ∧ 5 ≤ k.within + 1

/-- The deviation of a channel from a feed (03 R50). -/
def devOf (ch : Channel) (f : FuelCfg) (v : Nat) : Nat := deviation v ch.setpoint f.fmin

theorem sample_unlocked {k : Tracking} (h : k.tracking = false ∨ k.locked = false) (dev : Nat) :
    k.sample dev = if dev ≤ 20 then
        if 5 ≤ k.within + 1 then
          if k.tracking = true then { k with locked := true, within := 0, lastDev := some dev }
          else ⟨true, true, 0, 0, some dev⟩
        else { k with within := k.within + 1, lastDev := some dev }
      else { k with within := 0, lastDev := some dev } := by
  unfold Tracking.sample
  cases tracking : k.tracking with
  | false => simp
  | true =>
    have unlocked : k.locked = false := by simpa [tracking] using h
    simp [unlocked]

theorem sample_locked {k : Tracking} (tracking : k.tracking = true) (locked : k.locked = true) (dev : Nat) :
    k.sample dev = if dev ≤ 20 then { k with outside := 0, lastDev := some dev }
      else if 3 ≤ k.outside + 1 then { k with locked := false, outside := 0, lastDev := some dev }
      else { k with outside := k.outside + 1, lastDev := some dev } := by
  unfold Tracking.sample
  simp [tracking, locked]

/-- A sample makes an unlocked tracking LOCKED exactly as the fifth one in a row within 20 per mille. -/
theorem sample_locks_iff (k : Tracking) (dev : Nat) : ((k.sample dev).locked && !k.locked) = true ↔ locks k dev := by
  cases locked : k.locked with
  | true => simp [locks, locked]
  | false =>
    rw [sample_unlocked (.inr locked), locks]
    by_cases near : dev ≤ 20
    · by_cases fifth : 5 ≤ k.within + 1
      · cases tracking : k.tracking <;> simp [near, fifth, locked]
      · simp [near, fifth, locked]
    · simp [near, locked]

theorem sample_lastDev (k : Tracking) (dev : Nat) : (k.sample dev).lastDev = some dev := by
  by_cases h : k.tracking = false ∨ k.locked = false
  · rw [sample_unlocked h]
    repeat' split
    all_goals rfl
  · have both : k.tracking = true ∧ k.locked = true := by simpa using h
    rw [sample_locked both.1 both.2]
    repeat' split
    all_goals rfl

theorem inBand_of_lastDev {k : Tracking} {dev : Nat} (h : k.lastDev = some dev) :
    k.inBand = decide (dev ≤ if k.tracking = true then 20 else 80) := by
  rw [Tracking.inBand, h]

/-! ### The tracking's record and condition -/

section

variable {ch : Channel} {k : Tracking}

theorem trackedRec_locks (h : ch.track = some k) {f : FuelCfg} {v : Nat} (lock : locks k (devOf ch f v)) (now : Nat) :
    trackedRec ch f v now = { ch with
      track := some (k.sample (devOf ch f v)), unlockedClock := none, acquiringClock := none, hmaxEff := ch.hmax } := by
  rw [trackedRec, h]
  exact if_pos ((sample_locks_iff k _).mpr lock)

/-- Tracking that does not become LOCKED keeps Hmax_eff. -/
theorem trackedRec_free (h : ch.track = some k) {f : FuelCfg} {v : Nat} (free : ¬ locks k (devOf ch f v)) (now : Nat) :
    trackedRec ch f v now = { ch with
      track := some (k.sample (devOf ch f v)), unlockedClock := (trackedRec ch f v now).unlockedClock } := by
  have no : ¬ ((k.sample (deviation v ch.setpoint f.fmin)).locked && !k.locked) = true :=
    mt (sample_locks_iff k _).mp free
  unfold trackedRec
  rw [h]
  dsimp only
  rw [if_neg no]
  split <;> rfl

end

theorem trackSample_al {k : Tracking} (h : (s.chan c).track = some k) {v : Nat}
    (free : ¬ locks k (devOf (s.chan c) f v)) : (s.trackSample c f v).al = s.al := by
  have no : ¬ ((k.sample (deviation v (s.chan c).setpoint f.fmin)).locked && !k.locked) = true :=
    mt (sample_locks_iff k _).mp free
  unfold State.trackSample
  rw [h]
  dsimp only
  rw [if_neg no]
  split <;> rfl

theorem trackSample_ends {k : Tracking} (on : s.configured = true) (h : (s.chan c).track = some k) {v : Nat}
    (lock : locks k (devOf (s.chan c) f v)) : (s.trackSample c f v).cond (idFeedDeviation c) = false := by
  have yes : ((k.sample (deviation v (s.chan c).setpoint f.fmin)).locked && !k.locked) = true :=
    (sample_locks_iff k _).mpr lock
  unfold State.trackSample
  rw [h]
  dsimp only
  rw [if_pos yes]
  exact setCond_same (by exact on) _ _ _

theorem cond_of_al {t : State} (h : t.al = s.al) (id : AlarmId) : t.cond id = s.cond id := by
  rw [State.cond, State.alarm, h, State.cond, State.alarm]

/-! ### The feed proof (04 R72) -/

theorem feedProof_none (h : (s.chan c).proof = none) (v : Nat) : s.feedProof c f v = s := by
  rw [State.feedProof, h]

theorem feedProof_passes {p : Proof} (h : (s.chan c).proof = some p) (feed : p.igniter = false) {v : Nat}
    (enough : f.fmin ≤ v * 2) : s.feedProof c f v = s.enterRunning c f := by
  rw [State.feedProof, h]
  dsimp only
  rw [if_pos ⟨by rw [feed]; rfl, enough⟩, State.passProof, h]
  dsimp only
  rw [if_neg (by simp [feed])]

theorem feedProof_waits {p : Proof} (h : (s.chan c).proof = some p) {v : Nat} (low : ¬ f.fmin ≤ v * 2) :
    s.feedProof c f v = s := by
  rw [State.feedProof, h]
  exact if_neg fun e => low e.2

theorem feedProof_chanMoves (f : FuelCfg) (v : Nat) : ChanMoves c s (s.feedProof c f v) := by
  cases proof : (s.chan c).proof with
  | none =>
    rw [feedProof_none proof]
  | some p =>
    by_cases pass : p.igniter = false ∧ f.fmin ≤ v * 2
    · rw [feedProof_passes proof pass.1 pass.2]
      exact enterRunning_chanMoves s c f
    · rw [State.feedProof, proof]
      dsimp only
      rw [if_neg (by simpa using pass)]

/-! ### The sample by what the channel does -/

variable {ql : Byte}

/-- A feed of a channel without a proof in which FEED_DEVIATION does not stand after tracking. -/
theorem fed_tracks (good : ql.toNat ≤ 1) {v el : Word}
    (low : (tracked s c f v ql el).cond (idFeedDeviation c) = false)
    (proof : ((tracked s c f v ql el).chan c).proof = none) : fed s c f v ql el = tracked s c f v ql el := by
  have same : rederated s c f v ql el = tracked s c f v ql el := if_neg (by simp [low])
  rw [fed_good good, same, feedProof_none proof]

theorem tracked_chan_same (good : ql.toNat ≤ 1) (v el : Word) : (tracked s c f v ql el).chan c
    = trackedRec (heatedRec (s.chan c) f v ql) f v.toNat s.now := by
  rw [tracked, trackSample_chan_same, heated_chan_same good, (heated_outside v ql el).2.2.1]

theorem tracked_chan_other (v : Word) (ql : Byte) (el : Word) {d : Chan} (h : d ≠ c) :
    (tracked s c f v ql el).chan d = s.chan d :=
  ((trackSample_chanMoves _ c f v.toNat).chan_other h).trans (heated_chan_other v ql el h)

/-- The tracking before and after a feed, with its conditions. -/
theorem tracked_cond (on : s.configured = true) (good : ql.toNat ≤ 1) {k : Tracking} (track : (s.chan c).track = some k)
    (v el : Word) :
    (locks k (devOf (s.chan c) f v.toNat) → (tracked s c f v ql el).cond (idFeedDeviation c) = false)
      ∧ (¬ locks k (devOf (s.chan c) f v.toNat) →
        (tracked s c f v ql el).cond (idFeedDeviation c) = s.cond (idFeedDeviation c)) := by
  have heat := heated_chan_same (s := s) (c := c) (f := f) good v el
  have track' : ((heated s c f v ql el).chan c).track = some k := by rw [heat]; exact track
  have dev : devOf ((heated s c f v ql el).chan c) f v.toNat = devOf (s.chan c) f v.toNat := by rw [heat]; rfl
  have on' : (heated s c f v ql el).configured = true := by
    rw [State.configured, (heated_outside v ql el).1]
    exact on
  refine ⟨fun lock => trackSample_ends on' track' (by rw [dev]; exact lock), fun free => ?_⟩
  rw [tracked, cond_of_al (trackSample_al track' (by rw [dev]; exact free)), heated_cond]

theorem effRec_proof_none {ch : Channel} (h : ch.proof = none) (f : FuelCfg) (v now : Nat) :
    (effRec ch f v now).proof = none := by
  unfold effRec
  split
  · rename_i running
    unfold holdRec
    split
    · exact h
    · exact retargetRec_proof_none _ _ _ h (by simp [running.1])
  · exact h

theorem rederated_chan_other (v : Word) (ql : Byte) (el : Word) {d : Chan} (h : d ≠ c) :
    (rederated s c f v ql el).chan d = s.chan d := by
  unfold rederated
  split
  · exact ((setHmaxEff_chanMoves _ c f _).chan_other h).trans (tracked_chan_other v ql el h)
  · exact tracked_chan_other v ql el h

/-- The tracking's part of the record stands beside the proof, the heats and the state. -/
theorem trackedRec_keeps (ch : Channel) (f : FuelCfg) (v now : Nat) : (trackedRec ch f v now).proof = ch.proof
    ∧ (trackedRec ch f v now).state = ch.state ∧ (trackedRec ch f v now).alloc = ch.alloc
    ∧ (trackedRec ch f v now).derated = ch.derated := by
  unfold trackedRec
  split
  · exact ⟨rfl, rfl, rfl, rfl⟩
  dsimp only
  split
  · exact ⟨rfl, rfl, rfl, rfl⟩
  split <;> exact ⟨rfl, rfl, rfl, rfl⟩

/-- The step of the tracking, as 03 R50 gives it by the deviation. -/
theorem sample_facts (k : Tracking) (dev : Nat) : (k.sample dev).lastDev = some dev
    ∧ (k.sample dev).inBand = decide (dev ≤ if (k.sample dev).tracking = true then 20 else 80)
    ∧ (20 < dev → (k.tracking = false ∨ k.locked = false → k.sample dev = { k with within := 0, lastDev := some dev })
      ∧ (k.tracking = true → k.locked = true → k.sample dev = if 3 ≤ k.outside + 1
          then { k with locked := false, outside := 0, lastDev := some dev }
          else { k with outside := k.outside + 1, lastDev := some dev }))
    ∧ (dev ≤ 20 → (k.tracking = true → k.locked = true → k.sample dev = { k with outside := 0, lastDev := some dev })
      ∧ (k.tracking = true → k.locked = false → k.sample dev = if 5 ≤ k.within + 1
          then { k with locked := true, within := 0, lastDev := some dev }
          else { k with within := k.within + 1, lastDev := some dev })
      ∧ (k.tracking = false → k.sample dev = if 5 ≤ k.within + 1 then ⟨true, true, 0, 0, some dev⟩
          else { k with within := k.within + 1, lastDev := some dev })) := by
  refine ⟨sample_lastDev k dev, inBand_of_lastDev (sample_lastDev k dev), fun far => ⟨fun unlocked => ?_,
    fun tracking locked => ?_⟩, fun near => ⟨fun tracking locked => ?_, fun tracking unlocked => ?_, fun acquiring => ?_⟩⟩
  · rw [sample_unlocked unlocked, if_neg (by omega)]
  · rw [sample_locked tracking locked, if_neg (by omega)]
  · rw [sample_locked tracking locked, if_pos near]
  · rw [sample_unlocked (.inr unlocked), if_pos near, if_pos tracking]
  · have slow : ¬ k.tracking = true := by simp [acquiring]
    rw [sample_unlocked (.inl acquiring), if_pos near, if_neg slow]

/-- A feed of a channel in RUNNING without FEED_DEVIATION moves its tracking alone. -/
theorem feed_tracks (on : s.configured = true) (good : ql.toNat ≤ 1) (idle : (s.chan c).proof = none) {k : Tracking}
    (track : (s.chan c).track = some k) (low : s.cond (idFeedDeviation c) = false) (v el : Word) :
    ((fed s c f v ql el).chan c).hmaxEff
        = (if locks k (devOf (s.chan c) f v.toNat) then (s.chan c).hmax else (s.chan c).hmaxEff)
      ∧ ((fed s c f v ql el).chan c).track = some (k.sample (devOf (s.chan c) f v.toNat)) := by
  obtain ⟨ends, kept⟩ := tracked_cond (f := f) on good track v el
  have low' : (tracked s c f v ql el).cond (idFeedDeviation c) = false := by
    by_cases lock : locks k (devOf (s.chan c) f v.toNat)
    · exact ends lock
    · exact (kept lock).trans low
  have made := tracked_chan_same (s := s) (c := c) (f := f) good v el
  have proof : ((tracked s c f v ql el).chan c).proof = none := by
    rw [made, (trackedRec_keeps _ _ _ _).1]
    exact idle
  rw [fed_tracks good low' proof, made]
  by_cases lock : locks k (devOf (s.chan c) f v.toNat)
  · rw [if_pos lock, trackedRec_locks (ch := heatedRec (s.chan c) f v ql) track lock]
    exact ⟨rfl, rfl⟩
  · rw [if_neg lock, trackedRec_free (ch := heatedRec (s.chan c) f v ql) track lock]
    exact ⟨rfl, rfl⟩

/-- A feed of a derated channel derates it again, to the heat it gives, unless it makes the tracking LOCKED. -/
theorem feed_derates (on : s.configured = true) (good : ql.toNat ≤ 1) (idle : (s.chan c).proof = none) {k : Tracking}
    (track : (s.chan c).track = some k) (high : s.cond (idFeedDeviation c) = true) (v el : Word) :
    (¬ locks k (devOf (s.chan c) f v.toNat) → (fed s c f v ql el).cond (idFeedDeviation c) = true
        ∧ ((fed s c f v ql el).chan c).hmaxEff
          = min (s.chan c).hmax (max (s.chan c).hmin (heatOf f.ncv v.toNat))
        ∧ ((s.chan c).state = .running →
          ((s.chan c).alloc ≤ ((fed s c f v ql el).chan c).hmaxEff →
            ((fed s c f v ql el).chan c).alloc = (s.chan c).alloc)
          ∧ (((fed s c f v ql el).chan c).hmaxEff < (s.chan c).alloc →
            ((fed s c f v ql el).chan c).alloc = ((fed s c f v ql el).chan c).hmaxEff
            ∧ ((fed s c f v ql el).chan c).target = feedOf f ((fed s c f v ql el).chan c).hmaxEff)))
      ∧ (locks k (devOf (s.chan c) f v.toNat) → (fed s c f v ql el).cond (idFeedDeviation c) = false
        ∧ ((fed s c f v ql el).chan c).hmaxEff = (s.chan c).hmax
        ∧ ((fed s c f v ql el).chan c).alloc = (s.chan c).alloc
        ∧ ((fed s c f v ql el).chan c).unlockedClock = none ∧ ((fed s c f v ql el).chan c).acquiringClock = none)
      ∧ ((fed s c f v ql el).chan c).state = (s.chan c).state := by
  obtain ⟨ends, kept⟩ := tracked_cond (f := f) on good track v el
  have made := tracked_chan_same (s := s) (c := c) (f := f) good v el
  obtain ⟨proof, state, alloc, derated⟩ := trackedRec_keeps (heatedRec (s.chan c) f v ql) f v.toNat s.now
  rw [← made] at proof state alloc derated
  have idle' : ((tracked s c f v ql el).chan c).proof = none := proof.trans idle
  by_cases lock : locks k (devOf (s.chan c) f v.toNat)
  · refine ⟨fun free => absurd lock free, fun _ => ?_, ?_⟩
    · rw [fed_tracks good (ends lock) idle']
      refine ⟨ends lock, ?_⟩
      rw [made, trackedRec_locks (ch := heatedRec (s.chan c) f v ql) track lock]
      exact ⟨rfl, rfl, rfl, rfl⟩
    · rw [fed_tracks good (ends lock) idle']
      exact state
  · have cond : (tracked s c f v ql el).cond (idFeedDeviation c) = true := (kept lock).trans high
    have again : rederated s c f v ql el
        = (tracked s c f v ql el).setHmaxEff c f ((tracked s c f v ql el).chan c).derated := if_pos cond
    have eff := setHmaxEff_chan_same (tracked s c f v ql el) c f ((tracked s c f v ql el).chan c).derated
    obtain ⟨max, st, -, keep, lower⟩ := effRec_fields ((tracked s c f v ql el).chan c) f
      ((tracked s c f v ql el).chan c).derated (tracked s c f v ql el).now
    rw [← eff] at max st keep lower
    have proof' : ((rederated s c f v ql el).chan c).proof = none := by
      rw [again, eff]
      exact effRec_proof_none idle' _ _ _
    have same : fed s c f v ql el = (tracked s c f v ql el).setHmaxEff c f ((tracked s c f v ql el).chan c).derated := by
      rw [fed_good good, feedProof_none proof', again]
    rw [same, cond_of_al (setHmaxEff_al _ _ _ _), max, st, state]
    rw [state, alloc] at keep lower
    exact ⟨fun _ => ⟨cond, derated, fun running => ⟨keep running, lower running⟩⟩, fun l => absurd l lock, rfl⟩

/-- Tracking that has just started stands as it is when its channel's target is set. -/
theorem aimedRec_acquiring {ch : Channel} {now : Nat} (track : ch.track = some ⟨false, false, 0, 0, none⟩)
    (unlocked : ch.unlockedClock = none) (acquiring : ch.acquiringClock = some (now + seconds 60)) (f : FuelCfg)
    (target : Nat) : aimedRec ch f target now = { ch with target := target } := by
  unfold aimedRec acquiringRec
  split
  · dsimp only
    rw [track]
    dsimp only
    rw [← track, ← unlocked, ← acquiring]
  · rfl

theorem ranRec_fields (ch : Channel) (f : FuelCfg) (isolated : Bool) (now : Nat) :
    (ranRec ch f isolated now).proof = none
      ∧ (ranRec ch f isolated now).state = (if isolated then .limited else .running)
      ∧ (ranRec ch f isolated now).alloc = ch.hmin
      ∧ (ranRec ch f isolated now).target = (if isolated then f.fmin else feedOf f ch.hmin)
      ∧ (ranRec ch f isolated now).track = some ⟨false, false, 0, 0, none⟩
      ∧ (ranRec ch f isolated now).acquiringClock = some (now + 15000000)
      ∧ (ranRec ch f isolated now).unlockedClock = none
      ∧ (ranRec ch f isolated now).shutReleased = ch.shutReleased := by
  have going : ∀ b : Bool, (if b then ChState.limited else ChState.running) ≠ .stopping := by decide
  have eq := retargetRec_eq { ch with
    proof := none
    alloc := ch.hmin
    state := if isolated then .limited else .running
    track := some ⟨false, false, 0, 0, none⟩
    unlockedClock := none
    acquiringClock := some (now + seconds 60) } f (if isolated then f.fmin else feedOf f ch.hmin) now (going isolated)
  rw [aimedRec_acquiring rfl rfl rfl] at eq
  exact ⟨retargetRec_proof_none _ _ _ rfl (going isolated), retargetRec_state _ _ _ (going isolated),
    retargetRec_alloc _ _ _ (going isolated), retargetRec_target _ _ _ (going isolated),
    (congrArg Channel.track eq).trans rfl, (congrArg Channel.acquiringClock eq).trans rfl,
    (congrArg Channel.unlockedClock eq).trans rfl, retargetRec_shut _ _ _ (going isolated)⟩

/-- A feed of a channel that has no tracking and no deviation reaches its proof as it stands. -/
theorem fed_proof (good : ql.toNat ≤ 1) (track : (s.chan c).track = none) (low : s.cond (idFeedDeviation c) = false)
    (v el : Word) : fed s c f v ql el = (heated s c f v ql el).feedProof c f v.toNat := by
  have untracked : tracked s c f v ql el = heated s c f v ql el := by
    have none : ((heated s c f v ql el).chan c).track = none := by rw [heated_chan_same good]; exact track
    rw [tracked, State.trackSample, none]
  have same : rederated s c f v ql el = heated s c f v ql el := by
    rw [rederated, untracked, heated_cond, low]
    rfl
  rw [fed_good good, same]

end

/-- Settles O25: by the channel's clocks, its tracking and its proof. -/
theorem channelClocks : Obligations.ChannelClocks := by
  refine ⟨fun s c f t sp hf clock due hsp => ?_, fun s c f x on hf hx => ?_,
    fun s src ql v el c f k dev on hf hsrc good idle track low hdev => ?_,
    fun s src ql v el c f k dev heat on hf hsrc good idle track high hdev hheat => ?_,
    fun s src ql v el c f p on hf hsrc good proof feed proving track low => ?_⟩
  · have made := stepRamp_chan_same s c f t
    have reaches : sp = rampTo (s.chan c) f := hsp
    refine ⟨_, rampStep_acts hf clock due, fun d hd => (stepRamp_chanMoves s c f t).chan_other hd, fun going => ?_,
      fun stopping last => ?_⟩
    · rw [reaches] at going
      rw [made, stepRec, if_neg going, reaches]
      exact rampedRec_fields _ f t
    · rw [reaches] at last
      rw [stepRec, if_pos ⟨stopping, last⟩, stoppedRec_eq] at made
      obtain ⟨state, shut, setpoint, alloc, -⟩ := stopped_off made
      exact ⟨state, shut, setpoint, alloc⟩
  · have derate := fun g hg => derating_starts (s := s) (c := c) f (g := g) on hg
    rcases hx with ⟨rfl, d, clock, due⟩ | ⟨rfl, d, clock, due⟩
    · have acts : exec (.unlockedClockExpiry c) s = .next (finish s
          ((s.mapChan c fun ch => { ch with unlockedClock := none }).startDerating c f)) := by
        change execUnlockedClockExpiry c s = _
        unfold execUnlockedClockExpiry
        rw [hf, clock]
        dsimp only
        rw [if_pos ((due_some s d).mpr due)]
      obtain ⟨cond, max, state, shut, held, others⟩ := derate (fun ch => { ch with unlockedClock := none })
        fun _ => ⟨rfl, rfl, rfl, rfl⟩
      refine ⟨_, acts, cond, max, state, shut, ?_, others⟩
      rw [max]
      exact held
    · have acts : exec (.acquiringClockExpiry c) s = .next (finish s
          ((s.mapChan c fun ch => { ch with acquiringClock := none }).startDerating c f)) := by
        change execAcquiringClockExpiry c s = _
        unfold execAcquiringClockExpiry
        rw [hf, clock]
        dsimp only
        rw [if_pos ((due_some s d).mpr due)]
      obtain ⟨cond, max, state, shut, held, others⟩ := derate (fun ch => { ch with acquiringClock := none })
        fun _ => ⟨rfl, rfl, rfl, rfl⟩
      refine ⟨_, acts, cond, max, state, shut, ?_, others⟩
      rw [max]
      exact held
  · obtain rfl : dev = devOf (s.chan c) f v.toNat := hdev
    obtain ⟨max, after⟩ := feed_tracks (f := f) on good idle track low v el
    refine ⟨_, exec_sampleRecord_feed on hf hsrc v ql el, ?_, _, after, sample_facts k _⟩
    exact max
  · obtain rfl : dev = devOf (s.chan c) f v.toNat := hdev
    obtain rfl : heat = heatOf f.ncv v.toNat := hheat
    obtain ⟨derated, ended, state⟩ := feed_derates (f := f) on good idle track high v el
    refine ⟨_, exec_sampleRecord_feed on hf hsrc v ql el, derated, fun unlocked near fifth =>
      ended ⟨unlocked, near, fifth⟩, state, fun d hd => ?_⟩
    rw [fed_good good, (feedProof_chanMoves f _).chan_other hd, rederated_chan_other v ql el hd]
  · have proof' : ((heated s c f v ql el).chan c).proof = some p := by rw [heated_chan_same good]; exact proof
    have made := fed_proof (f := f) good track low v el
    obtain ⟨-, mode, now, zs⟩ := heated_outside (s := s) (c := c) (f := f) v ql el
    refine ⟨_, exec_sampleRecord_feed on hf hsrc v ql el, ?_⟩
    by_cases enough : f.fmin ≤ 2 * v.toNat
    · rw [made, feedProof_passes proof' feed (by omega)]
      have moves := enterRunning_chanMoves (heated s c f v ql el) c f
      obtain ⟨ended, state, alloc, target, track', acquiring, unlocked, shut⟩ := ranRec_fields (heatedRec (s.chan c) f v ql)
        f (s.pt.mode == .isolated) s.now
      rw [enterRunning_chan_same, heated_chan_same good, mode, now]
      refine ⟨fun _ => ⟨ended, ?_, alloc, ?_, track', acquiring, unlocked⟩, fun low => absurd enough (by omega),
        moves.zs.trans zs, shut, fun d hd => (moves.chan_other hd).trans (heated_chan_other v ql el hd)⟩
      · rw [state]
        exact if_congr beq_iff_eq rfl rfl
      · rw [target]
        exact if_congr beq_iff_eq rfl rfl
    · rw [made, feedProof_waits proof' (by omega), heated_chan_same good]
      exact ⟨fun e => absurd e enough, fun _ => ⟨proof, proving⟩, zs, rfl, fun d hd => heated_chan_other v ql el hd⟩

end Sys2Proof.Proofs
end

section
/-! PROOF. The sample commands: points, totals, the feeder fault and the clinker temperature (O22; 03 section 3.2,
09 section 9.3, 06 section 6.5). -/

namespace Sys2Proof.Proofs
open Sys2Proof.Machine

section

variable {s t : State}

/-! ### Totals under steps that keep the still part -/

theorem acctStill_of_still (h : t.still = s.still) (c : Chan) : (t.acct c).still = (s.acct c).still := by
  have accts : t.sr.accts.map Account.still = s.sr.accts.map Account.still := by
    change t.still.sr.accts = s.still.sr.accts
    rw [h]
  simpa [State.acct, get_map] using congrArg (fun v => v.get c) accts

theorem gap_of_still (h : t.still = s.still) : t.sr.gap = s.sr.gap := by
  change t.still.sr.gap = s.still.sr.gap
  rw [h]

/-! ### The rate a sample gives (09 R169, R170) -/

theorem qualityGood_iff (ql : Byte) : qualityGood ql = true ↔ ql.toNat ≤ 1 := decide_eq_true_iff

theorem takenPoint_bad {ql : Byte} (bad : 2 ≤ ql.toNat) (x : Point) (v now : Nat) :
    takenPoint x v ql now = x.takeBad now := if_neg (by rw [qualityGood_iff]; omega)

theorem takeBad_good (x : Point) (now : Nat) : (x.takeBad now).good = x.good := by
  rcases x with ⟨cond, last, hold, unc⟩
  cases cond <;> rfl

theorem good_iff (x : Point) : x.good = true ↔ x.cond = .current ∨ x.cond = .held := by
  rcases x with ⟨cond, last, hold, unc⟩
  cases cond <;> simp [Point.good]

/-- The rate a point gives after a sample. -/
theorem takenPoint_rate (x : Point) (v : Nat) (ql : Byte) (now sp : Nat) : (takenPoint x v ql now).rate sp
    = if ql.toNat ≤ 1 then v else if x.cond = .current ∨ x.cond = .held then x.last.getD 0 else sp := by
  by_cases good : ql.toNat ≤ 1
  · rw [takenPoint_good good, if_pos good]
    rfl
  · rw [takenPoint_bad (by omega), if_neg good, Point.rate, takeBad_good, takeBad_last]
    exact if_congr (good_iff x) rfl rfl

theorem takenPoint_estimated (x : Point) (v : Nat) (ql : Byte) (now : Nat) : (!(takenPoint x v ql now).good)
    = decide (2 ≤ ql.toNat ∧ x.cond ≠ .current ∧ x.cond ≠ .held) := by
  by_cases good : ql.toNat ≤ 1
  · rw [takenPoint_good good, decide_eq_false fun h => by omega]
    rfl
  · have bad : 2 ≤ ql.toNat := by omega
    rw [takenPoint_bad bad, takeBad_good, Bool.eq_iff_iff]
    simp [bad, ← Bool.not_eq_true, good_iff]

/-! ### The points after a sample (03 R40) -/

theorem takenPoint_cases (x : Point) (v : Nat) (ql : Byte) (now : Nat) :
    (ql.toNat ≤ 1 → takenPoint x v ql now = ⟨.current, some v, none,
        if ql.toNat = 1 then min (x.uncertain + 1) 65535 else x.uncertain⟩)
      ∧ (2 ≤ ql.toNat → takenPoint x v ql now = match x.cond with
        | .current => { x with cond := .held, hold := some (now + 750000) }
        | .noValue => { x with cond := .substituted }
        | .held => x
        | .substituted => x) := by
  have one : qualityUncertain ql = decide (ql.toNat = 1) := by
    rw [qualityUncertain, Bool.eq_iff_iff, beq_iff_eq, decide_eq_true_iff, ← BitVec.toNat_inj]
    rfl
  refine ⟨fun good => ?_, fun bad => (takenPoint_bad bad x v now).trans rfl⟩
  rw [takenPoint_good good, Point.takeGood, one]
  simp only [decide_eq_true_iff]
  rfl

/-- A sample of a point of the configuration, by the points. -/
theorem sample_points (on : s.configured = true) {src q : Byte} {p : PointId} (hp : s.matchPoint src q = some p)
    (v : Word) (ql : Byte) (el : Word) : ∃ t, exec (.sampleRecord src q v ql el) s = .next t
      ∧ t.ce.silenceSince = s.now ∧ t.ce.fieldRx = .hunting
      ∧ (∀ p', p' ≠ p → t.point p' = s.point p')
      ∧ t.point p = takenPoint (s.point p) (sampleValue p v) ql s.now := by
  have kept : SensorsKept (sampled s p v ql) _ := (handSample_sensors p (sampleValue p v) (qualityGood ql)
    (sampleElapsed el)).trans (.of_still (finish_still _ s))
  have ce : (sampled s p v ql).ce = (sensed s p v ql).ce := ce_of_plant (sampled_plant s p v ql)
  refine ⟨_, exec_sampleRecord_point on hp v ql el, kept.silence.trans ?_, kept.fieldRx.trans ?_, fun p' h =>
    (kept.point p').trans (sampled_point_other h v ql), (kept.point p).trans (sampled_point_same p v ql)⟩
  · rw [ce, sensed, mapPoint_silence]
    rfl
  · rw [ce, sensed, mapPoint_fieldRx]
    rfl

theorem sample_unknown (on : s.configured = true) {src q : Byte} (hp : s.matchPoint src q = none) (v : Word) (ql : Byte)
    (el : Word) : ∃ t, exec (.sampleRecord src q v ql el) s = .next t ∧ t.still = (heard s).still :=
  ⟨_, exec_sampleRecord_none on hp v ql el,
    (finish_still _ _).trans (State.still_of_plant (endSilence_plant s))⟩

/-! ### The hold and the silence (03 R42, R43) -/

theorem takeBad_takeBad (x : Point) (now : Nat) : (x.takeBad now).takeBad now = x.takeBad now := by
  rcases x with ⟨cond, last, hold, unc⟩
  cases cond <;> rfl

/-- A BAD sample of a point, without its alarm condition. -/
def missPoint (s : State) (p : PointId) : State := s.mapPoint p fun x => x.takeBad s.now

theorem missPoint_now (s : State) (p : PointId) : (missPoint s p).now = s.now := by
  rw [missPoint, mapPoint_outside]

/-- Each of a list of points misses a sample; one that stands in it twice misses it no more than once. -/
theorem missPoints_point (l : List PointId) (s : State) (p : PointId) :
    (l.foldl missPoint s).point p = if p ∈ l then (s.point p).takeBad s.now else s.point p := by
  induction l generalizing s with
  | nil => simp
  | cons q l ih =>
    rw [List.foldl_cons, ih, missPoint_now]
    by_cases hq : p = q
    · subst hq
      rw [missPoint, mapPoint_point_same, takeBad_takeBad, ite_self, if_pos List.mem_cons_self]
    · rw [missPoint, mapPoint_point_other hq]
      simp [hq]

theorem missPoints_outside (l : List PointId) (s : State) :
    ∃ ce, l.foldl missPoint s = { s with ce := ce } := by
  induction l generalizing s with
  | nil => exact ⟨s.ce, rfl⟩
  | cons q l ih =>
    obtain ⟨ce, h⟩ := ih (missPoint s q)
    refine ⟨ce, ?_⟩
    rw [List.foldl_cons, h, missPoint, mapPoint_outside]

/-- The silence of the port is marked. -/
def silentMark (s : State) : State := (s.setCond idFieldSilent true none).mapSr fun r => { r with gap := true }

/-- The state after the port fell silent, before what follows an event. -/
def silenced (s : State) : State :=
  allChans.foldl (fun s c =>
    match s.fan? c with
    | some f => s.flowHanded c f
    | none => s) (allChans.foldl State.sampleCond ((silentMark s).allPoints.foldl missPoint (silentMark s)))

/-- A fan's flow judged again writes the conditions of its state alone. -/
theorem fanJudged_cond {id : AlarmId} (hid : ∀ c, id ∉ stateIds c) (s : State) (c : Chan) :
    (match s.fan? c with
      | some f => s.flowHanded c f
      | none => s).cond id = s.cond id := by
  split
  · exact (flowHanded_chanMoves s c _).cond_other (hid c)
  · rfl

theorem fansJudged_moves (s : State) (l : List Chan) : Moves true s (l.foldl (fun s c =>
    match s.fan? c with
    | some f => s.flowHanded c f
    | none => s) s) := by
  refine Moves.foldl _ (fun s c => ?_) l s
  split
  · exact s.flowHanded_moves c _
  · exact .refl

theorem silenced_still (s : State) : 
    (silenced s).still = ((silentMark s).allPoints.foldl missPoint (silentMark s)).still :=
  ((Moves.foldl _ (fun s c => s.sampleCond_moves c) _ _).andThen (fansJudged_moves _ _)).still

theorem silenced_cond (on : s.configured = true) : (silenced s).cond idFieldSilent = true := by
  rw [silenced, foldl_leaves (fun x => x.cond idFieldSilent) _ (fanJudged_cond (by decide)),
    foldl_leaves (fun x => x.cond idFieldSilent) State.sampleCond fun x c =>
      setCond_cond_other x (by revert c; decide) _ _]
  obtain ⟨ce, h⟩ := missPoints_outside (silentMark s).allPoints (silentMark s)
  rw [h]
  exact setCond_same on _ _ _

theorem allPoints_of_config (h : t.config = s.config) : t.allPoints = s.allPoints := by
  have fuel : ∀ c, t.fuel? c = s.fuel? c := fun c => by simp only [State.fuel?, State.chanCfg, h]
  have fan : ∀ c, t.fan? c = s.fan? c := fun c => by simp only [State.fan?, State.chanCfg, h]
  have points : ∀ c, t.chanPoints c = s.chanPoints c := fun c => by simp only [State.chanPoints, fuel, fan]
  have scanner : ∀ z, t.hasScanner z = s.hasScanner z := fun z => by simp only [State.hasScanner, h]
  have clinker : t.clinkerPresent = s.clinkerPresent := by simp only [State.clinkerPresent, h]
  simp only [State.allPoints, clinker, funext points, funext scanner]

theorem silenced_point (s : State) (p : PointId) : (silenced s).point p
    = if p ∈ s.allPoints then (s.point p).takeBad s.now else s.point p := by
  have plant := State.setCond_plant s idFieldSilent true none
  have config : (silentMark s).config = s.config :=
    Eq.trans rfl (config_of_plant (s := s) (t := s.setCond idFieldSilent true none) plant)
  have point : (silentMark s).point p = s.point p := point_of_ce (ce_of_plant plant) p
  have now : (silentMark s).now = s.now := setCond_now s _ _ _
  rw [point_of_still (silenced_still s), missPoints_point, allPoints_of_config config, point, now]

theorem silenced_gap (s : State) : (silenced s).sr.gap = true := by
  rw [gap_of_still (silenced_still s)]
  obtain ⟨ce, h⟩ := missPoints_outside (silentMark s).allPoints (silentMark s)
  rw [h]
  rfl

end

/-! ### Totals of a feed and of a flow (09 R169, R170) -/

section

variable {s : State} {c : Chan}

theorem markEstimated_acct (s : State) (c : Chan) : (s.markEstimated c).acct c = { s.acct c with estimated := true } :=
  Eq.trans rfl (State.mapAcct_acct_same s c fun a => { a with estimated := true })

theorem markEstimated_acct_other (s : State) {c d : Chan} (h : d ≠ c) : (s.markEstimated c).acct d = s.acct d :=
  Eq.trans rfl (State.mapAcct_acct_other s (fun a => { a with estimated := true }) (Ne.symm h))

/-- The account of a channel after a feed at a point is integrated. -/
theorem integrateFeed_acct (s : State) (c : Chan) (ncv sp e : Nat) : (s.integrateFeed c ncv sp e).acct c
    = { ((s.acct c).integrate ((s.chan c).feedPt.rate sp) e).integrateEnergy ((s.chan c).feedPt.rate sp) e ncv with
        estimated := (s.acct c).estimated || !(s.chan c).feedPt.good } := by
  unfold State.integrateFeed
  dsimp only
  cases good : (s.chan c).feedPt.good
  · rw [if_neg (by simp), markEstimated_acct, State.mapAcct_acct_same]
    simp
  · rw [if_pos rfl]
    simp [Account.integrate, Account.integrateEnergy]

theorem integrateFlow_acct (s : State) (c : Chan) (sp e : Nat) : (s.integrateFlow c sp e).acct c
    = { (s.acct c).integrate ((s.chan c).flowPt.rate sp) e with
        estimated := (s.acct c).estimated || !(s.chan c).flowPt.good } := by
  unfold State.integrateFlow
  dsimp only
  cases good : (s.chan c).flowPt.good
  · rw [if_neg (by simp), markEstimated_acct, State.mapAcct_acct_same]
    simp
  · rw [if_pos rfl]
    simp [Account.integrate]

theorem integrateFeed_acct_other (s : State) (ncv sp e : Nat) {d : Chan} (h : d ≠ c) :
    (s.integrateFeed c ncv sp e).acct d = s.acct d := by
  unfold State.integrateFeed
  dsimp only
  split
  · exact State.mapAcct_acct_other _ _ (Ne.symm h)
  · exact (markEstimated_acct_other _ h).trans (State.mapAcct_acct_other _ _ (Ne.symm h))

theorem integrateFlow_acct_other (s : State) (sp e : Nat) {d : Chan} (h : d ≠ c) :
    (s.integrateFlow c sp e).acct d = s.acct d := by
  unfold State.integrateFlow
  dsimp only
  split
  · exact State.mapAcct_acct_other _ _ (Ne.symm h)
  · exact (markEstimated_acct_other _ h).trans (State.mapAcct_acct_other _ _ (Ne.symm h))

/-! ### Totals after the sample -/

/-- The state of a feed's totals, with the heat that a GOOD or UNCERTAIN one gives. -/
def totalled (s : State) (c : Chan) (f : FuelCfg) (v : Word) (ql : Byte) (el : Word) : State :=
  if ql.toNat ≤ 1 then heated s c f v ql el
  else (sampled s (.feed c) v ql).integrateFeed c f.ncv (s.chan c).setpoint (sampleElapsed el)

/-- What follows the totals writes neither totals nor another channel. -/
theorem fed_moves (f : FuelCfg) (v : Word) (ql : Byte) (el : Word) :
    Moves true (totalled s c f v ql el) (fed s c f v ql el) ∧ ChanMoves c (totalled s c f v ql el) (fed s c f v ql el) := by
  unfold totalled
  by_cases good : ql.toNat ≤ 1
  · have tracks : Moves true (heated s c f v ql el) (tracked s c f v ql el) := State.trackSample_moves _ c f _
    have steps : ChanMoves c (heated s c f v ql el) (tracked s c f v ql el) := trackSample_chanMoves _ c f _
    rw [if_pos good, fed_good good]
    unfold rederated
    split
    · exact ⟨(tracks.andThen (State.setHmaxEff_moves _ c f _)).andThen (State.feedProof_moves _ c f _),
        (steps.trans (setHmaxEff_chanMoves _ c f _)).trans (feedProof_chanMoves f _)⟩
    · exact ⟨tracks.andThen (State.feedProof_moves _ c f _), steps.trans (feedProof_chanMoves f _)⟩
  · have setpoint : ((sampled s (.feed c) v ql).chan c).setpoint = (s.chan c).setpoint := by rw [sampled_feed]
    rw [if_neg good, fed, State.takeFeed, setpoint]
    dsimp only
    rw [if_neg (by rw [qualityGood_iff]; exact good)]
    exact ⟨.refl, .refl⟩

theorem totalled_acct (f : FuelCfg) (v : Word) (ql : Byte) (el : Word) (d : Chan) : (totalled s c f v ql el).acct d
    = ((sampled s (.feed c) v ql).integrateFeed c f.ncv (s.chan c).setpoint (sampleElapsed el)).acct d := by
  unfold totalled
  split <;> rfl

theorem totalled_chan_other (f : FuelCfg) (v : Word) (ql : Byte) (el : Word) {d : Chan} (h : d ≠ c) :
    (totalled s c f v ql el).chan d = s.chan d := by
  unfold totalled
  split
  · exact heated_chan_other v ql el h
  · rw [integrateFeed_chan]
    exact sampled_chan_other _ _ _ fun e => h (Option.some.inj e).symm

theorem totalled_actual (f : FuelCfg) (v : Word) (ql : Byte) (el : Word) : ((totalled s c f v ql el).chan c).actual
    = if ql.toNat ≤ 1 then heatOf f.ncv v.toNat else (s.chan c).actual := by
  unfold totalled
  by_cases good : ql.toNat ≤ 1
  · rw [if_pos good, if_pos good, heated_chan_same good]
    rfl
  · rw [if_neg good, if_neg good, integrateFeed_chan, sampled_feed]

/-- The rate of a channel's sample: its value, else the value held, else the setpoint. -/
def rateOf (x : Point) (v : Word) (ql : Byte) (sp : Nat) : Nat :=
  if ql.toNat ≤ 1 then v.toNat else if x.cond = .current ∨ x.cond = .held then x.last.getD 0 else sp

/-- A channel is estimated by a BAD sample without a value held. -/
def estimates (x : Point) (ql : Byte) : Bool := decide (2 ≤ ql.toNat ∧ x.cond ≠ .current ∧ x.cond ≠ .held)

/-- The totals of a channel after a feed. -/
def fedAcct (a : Account) (rate e ncv : Nat) (est : Bool) : Account :=
  { (a.integrate rate e).integrateEnergy rate e ncv with estimated := a.estimated || est }

theorem fed_acct (f : FuelCfg) (v : Word) (ql : Byte) (el : Word) : ((fed s c f v ql el).acct c).still
    = (fedAcct (s.acct c) (rateOf (s.chan c).feedPt v ql (s.chan c).setpoint) (sampleElapsed el) f.ncv
      (estimates (s.chan c).feedPt ql)).still := by
  rw [acctStill_of_still (fed_moves f v ql el).1.still, totalled_acct, integrateFeed_acct, sampled_feed, sampled_acct]
  dsimp only
  rw [takenPoint_rate, takenPoint_estimated]
  rfl

theorem fed_actual (f : FuelCfg) (v : Word) (ql : Byte) (el : Word) : ((fed s c f v ql el).chan c).actual
    = if ql.toNat ≤ 1 then heatOf f.ncv v.toNat else (s.chan c).actual :=
  (congrArg Channel.actual (chanStill_of_still (fed_moves f v ql el).1.still c)).trans (totalled_actual f v ql el)

theorem fed_others (f : FuelCfg) (v : Word) (ql : Byte) (el : Word) {d : Chan} (h : d ≠ c) :
    (fed s c f v ql el).acct d = s.acct d ∧ (fed s c f v ql el).chan d = s.chan d := by
  have moves := (fed_moves (s := s) (c := c) f v ql el).2
  refine ⟨(moves.acct_other h).trans ?_, (moves.chan_other h).trans (totalled_chan_other f v ql el h)⟩
  rw [totalled_acct, integrateFeed_acct_other _ _ _ _ h, sampled_acct]

/-- The totals of a fan after a flow. -/
def flowedAcct (a : Account) (rate e : Nat) (est : Bool) : Account :=
  { a.integrate rate e with estimated := a.estimated || est }

/-- What follows the totals of a flow. -/
theorem flowed_moves (f : FanCfg) (v : Word) (ql : Byte) (el : Word) :
    Moves true ((sampled s (.flow c) v ql).integrateFlow c (s.chan c).setpoint (sampleElapsed el)) (flowed s c f v ql el)
      ∧ ChanMoves c ((sampled s (.flow c) v ql).integrateFlow c (s.chan c).setpoint (sampleElapsed el))
        (flowed s c f v ql el) := by
  have setpoint : ((sampled s (.flow c) v ql).chan c).setpoint = (s.chan c).setpoint := by rw [sampled_flow]
  rw [flowed, State.takeFlow, setpoint]
  split
  · exact ⟨(State.adoptFan_moves _ c f _).andThen (State.flowHanded_moves _ c f),
      (adoptFan_chanMoves _ c f _).trans (flowHanded_chanMoves _ c f)⟩
  · exact ⟨State.flowHanded_moves _ c f, flowHanded_chanMoves _ c f⟩

theorem flowed_acct (f : FanCfg) (v : Word) (ql : Byte) (el : Word) : ((flowed s c f v ql el).acct c).still
    = (flowedAcct (s.acct c) (rateOf (s.chan c).flowPt v ql (s.chan c).setpoint) (sampleElapsed el)
      (estimates (s.chan c).flowPt ql)).still := by
  rw [acctStill_of_still (flowed_moves f v ql el).1.still, integrateFlow_acct, sampled_flow, sampled_acct]
  rw [takenPoint_rate, takenPoint_estimated]
  rfl

theorem flowed_acct_other (f : FanCfg) (v : Word) (ql : Byte) (el : Word) {d : Chan} (h : d ≠ c) :
    (flowed s c f v ql el).acct d = s.acct d := by
  rw [(flowed_moves f v ql el).2.acct_other h, integrateFlow_acct_other _ _ _ h, sampled_acct]

end

/-! ### The feeder fault (03 R57, R58) -/

section

variable {s : State} {c : Chan}

theorem exec_sampleRecord_fault {src : Byte} {f : FuelCfg} (on : s.configured = true) (hf : s.fuel? c = some f)
    (hsrc : src.toNat = c.val) {v : Word} {ql : Byte} (good : ql.toNat ≤ 1) (el : Word) :
    exec (.sampleRecord src 5 v ql el) s = .next (finish s (if v = 0 then sampled s (.fault c) v ql
      else (sampled s (.fault c) v ql).tripChannel c .feederFault)) := by
  have faulted : ((sampled s (.fault c) v ql).chan c).faultPt.faulted = !decide (v = 0) := by
    rw [sampled_fault, takenPoint_good good]
    change decide (v.toNat ≠ 0) = _
    rw [← decide_not]
    exact decide_eq_decide.mpr (not_congr (BitVec.toNat_inj (x := v) (y := 0)))
  rw [exec_sampleRecord_point on (matchPoint_fuel hf hsrc).2.2, State.handSample]
  simp only [faulted]
  by_cases h : v = 0 <;> simp [h]

/-- The trip after a sample of a fault. -/
theorem faulted_trips {f : FuelCfg} (hf : s.fuel? c = some f)
    (reach : TripCause.feederFault.reaches (s.chan c).state = true) (v : Word) (ql : Byte) :
    ((sampled s (.fault c) v ql).tripChannel c .feederFault).chan c
      = trippedRec { s.chan c with faultPt := takenPoint (s.chan c).faultPt v.toNat ql s.now } .feederFault
        (if s.locksOut c f .feederFault = true then .lockedOut else .tripped) s.runClock s.stamp := by
  have plant := sampled_plant s (.fault c) v ql
  have outside := sensed_outside (s := s) (.fault c) v ql
  have fault := sampled_fault (s := s) (c := c) v ql
  have clock : (sampled s (.fault c) v ql).runClock = s.runClock := by rw [runClock_of_plant plant, outside]; rfl
  have stamp : (sampled s (.fault c) v ql).stamp = s.stamp := by rw [stamp_of_plant plant, outside]; rfl
  rw [tripChannel_chan_same _ _ ((sampled_fuel _ _ _ _).trans hf) (by rw [fault]; exact reach), tripState,
    locksOut_congr clock (by rw [fault]), clock, stamp, fault]

theorem trippedRec_command (ch : Channel) (cause : TripCause) (st : ChState) (clock : Nat) (stamp : Stamp) :
    (ch.inFlight = none → (trippedRec ch cause st clock stamp).inFlight = some ⟨.setFeed 0, ch.tagCtr, 1, 0, none⟩)
      ∧ (∀ fl, ch.inFlight = some fl → (trippedRec ch cause st clock stamp).inFlight = some fl
        ∧ (trippedRec ch cause st clock stamp).queued = some (.setFeed 0)) := by
  unfold trippedRec
  refine ⟨fun free => ?_, fun fl flight => ?_⟩
  · rw [free]
    rfl
  · rw [flight]
    exact ⟨(congrArg Channel.inFlight (show _ = ch from rfl) : _) ▸ flight, rfl⟩

end

/-! ### The clinker temperature (06 R125, R126) -/

section

variable {s : State}

theorem judgeHigh_high (h : ∃ x, s.tOut = some x ∧ s.tLim + 50 < x) : s.judgeHigh
    = if s.cr.highClock = none ∧ s.cond idClinkerHigh = false then
        s.mapCr fun r => { r with highClock := some (s.now + 15000000) } else s := by
  obtain ⟨x, out, above⟩ := h
  unfold State.judgeHigh
  rw [out]
  dsimp only
  rw [if_pos (decide_eq_true above)]

theorem judgeHigh_low (h : ∀ x, s.tOut = some x → x ≤ s.tLim + 50) : s.judgeHigh
    = (s.mapCr fun r => { r with highClock := none }).setCond idClinkerHigh false none := by
  unfold State.judgeHigh
  cases out : s.tOut with
  | none => rfl
  | some x =>
    have le := h x out
    dsimp only
    rw [if_neg (by simpa using le)]

/-- The state after a temperature, before the high-temperature clock is judged. -/
def warmed (s : State) (v : Word) (ql : Byte) : State :=
  if qualityGood ql then (sampled s .clinker v ql).mapSr fun r => r.clinkerSample (sampleValue .clinker v)
  else sampled s .clinker v ql

theorem exec_sampleRecord_clinker (on : s.clinkerPresent = true) (v : Word) (ql : Byte) (el : Word) :
    exec (.sampleRecord 32 7 v ql el) s = .next (finish s (warmed s v ql).judgeHigh) := by
  have configured : s.configured = true := by
    cases h : s.config with
    | none => simp [State.clinkerPresent, h] at on
    | some cfg => simp [State.configured, h]
  rw [exec_sampleRecord_point configured (matchPoint_clinker on)]
  rfl

end

section

variable {s : State}

/-- A judgement of the high-temperature clock writes it and a condition. -/
theorem judgeHigh_plant (s : State) : s.judgeHigh.plant = ({ s with cr := s.judgeHigh.cr } : State).plant := by
  by_cases h : ∃ x, s.tOut = some x ∧ s.tLim + 50 < x
  · rw [judgeHigh_high h]
    split <;> rfl
  · rw [judgeHigh_low fun x out => Nat.le_of_not_lt fun lt => h ⟨x, out, lt⟩, setCond_cr]
    exact State.setCond_plant _ _ _ _

theorem temps_of_plant {t : State} (h : t.plant = s.plant) : t.sr.tempSum = s.sr.tempSum
    ∧ t.sr.tempCount = s.sr.tempCount ∧ t.sr.tempMax = s.sr.tempMax := by
  change t.plant.sr.tempSum = s.plant.sr.tempSum ∧ t.plant.sr.tempCount = s.plant.sr.tempCount
    ∧ t.plant.sr.tempMax = s.plant.sr.tempMax
  rw [h]
  exact ⟨rfl, rfl, rfl⟩

theorem judgeHigh_ce (s : State) : s.judgeHigh.ce = s.ce := (ce_of_plant (judgeHigh_plant s)).trans rfl

theorem judgeHigh_temps (s : State) : s.judgeHigh.sr.tempSum = s.sr.tempSum
    ∧ s.judgeHigh.sr.tempCount = s.sr.tempCount ∧ s.judgeHigh.sr.tempMax = s.sr.tempMax :=
  temps_of_plant (s := { s with cr := s.judgeHigh.cr }) (judgeHigh_plant s)

theorem judgeHigh_tOut (s : State) : s.judgeHigh.tOut = s.tOut := by
  have config : s.judgeHigh.config = s.config := (config_of_plant (judgeHigh_plant s)).trans rfl
  rw [State.tOut, State.clinkerPresent, config, judgeHigh_ce]
  rfl

theorem clinkerValue (v : Word) :
    sampleValue .clinker v = if v.toInt < 0 then 0 else min v.toNat 1500 := by
  have signed := v.toInt_eq_toNat_cond
  unfold sampleValue clampInt
  dsimp only
  by_cases negative : v.toInt < 0
  · simp [negative]
  · have small : v.toInt = v.toNat := by split at signed <;> omega
    rw [if_neg negative, if_neg negative, small]
    split <;> omega

/-- The state that a temperature leaves for the clock: the channels, the conditions and the clock stand. -/
theorem warmed_facts (v : Word) (ql : Byte) : (warmed s v ql).ce.chans = s.ce.chans ∧ (warmed s v ql).config = s.config
    ∧ (warmed s v ql).now = s.now ∧ (warmed s v ql).cr = s.cr
    ∧ (warmed s v ql).cond idClinkerHigh = s.cond idClinkerHigh
    ∧ (warmed s v ql).ce.clinker = takenPoint s.ce.clinker (sampleValue .clinker v) ql s.now := by
  have plant := sampled_plant s .clinker v ql
  have cond : (sampled s .clinker v ql).cond idClinkerHigh = s.cond idClinkerHigh :=
    sampled_cond (by decide) (by decide) _ _ _
  have cr : (sampled s .clinker v ql).cr = s.cr := (cr_of_plant plant).trans rfl
  have point : (sampled s .clinker v ql).ce.clinker = takenPoint s.ce.clinker (sampleValue .clinker v) ql s.now :=
    sampled_point_same .clinker v ql
  have chans : (sampled s .clinker v ql).ce.chans = s.ce.chans := (congrArg ChannelEngine.chans (ce_of_plant plant)).trans rfl
  unfold warmed
  split <;> exact ⟨chans, sampled_config _ _ _, sampled_now _ _ _, cr, cond, point⟩

theorem warmed_sr (v : Word) (ql : Byte) : (ql.toNat ≤ 1 →
      (warmed s v ql).sr.tempSum = min (s.sr.tempSum + sampleValue .clinker v) 281474976710655
      ∧ (warmed s v ql).sr.tempCount = min (s.sr.tempCount + 1) 4294967295
      ∧ (warmed s v ql).sr.tempMax = some (match s.sr.tempMax with
        | some m => max m (sampleValue .clinker v)
        | none => sampleValue .clinker v))
    ∧ (2 ≤ ql.toNat → (warmed s v ql).sr.tempSum = s.sr.tempSum ∧ (warmed s v ql).sr.tempCount = s.sr.tempCount
      ∧ (warmed s v ql).sr.tempMax = s.sr.tempMax) := by
  have plant := sampled_plant s .clinker v ql
  obtain ⟨sum, count, top⟩ : _ ∧ _ ∧ _ := temps_of_plant plant
  unfold warmed
  refine ⟨fun good => ?_, fun bad => ?_⟩
  · rw [if_pos ((qualityGood_iff ql).mpr good)]
    simp only [State.mapSr, ShiftStore.clinkerSample, sum, count, top]
    exact ⟨rfl, rfl, rfl⟩
  · rw [if_neg (by rw [qualityGood_iff]; omega)]
    exact ⟨sum, count, top⟩

theorem warmed_tOut (on : s.clinkerPresent = true) (v : Word) (ql : Byte) : (warmed s v ql).tOut
    = if ql.toNat ≤ 1 then some (sampleValue .clinker v) else s.tOut := by
  obtain ⟨-, config, -, -, -, point⟩ := warmed_facts (s := s) v ql
  have present : (warmed s v ql).clinkerPresent = true := by
    rw [State.clinkerPresent, config]
    exact on
  rw [State.tOut, if_pos present, point, State.tOut, if_pos on]
  by_cases good : ql.toNat ≤ 1
  · rw [takenPoint_good good, if_pos good, takeGood_last]
  · rw [takenPoint_bad (by omega), if_neg good, takeBad_last]

theorem warmed_tLim (v : Word) (ql : Byte) : (warmed s v ql).tLim = s.tLim := by
  rw [State.tLim, (warmed_facts v ql).2.1, State.tLim]

end

/-- Settles O22: the points, the totals, the trip and the temperature after a sample. -/
theorem samplesTaken : Obligations.SamplesTaken := by
  refine ⟨fun src q v ql el s on => ⟨fun none => sample_unknown on none v ql el, fun p hp => ?_⟩,
    fun p s h held clock => ?_, fun s on quiet silent => ?_, fun s src ql v el c f rate e on hf hsrc he hrate => ?_,
    fun s src ql v el c f rate e on hf hsrc he hrate => ?_, fun s src ql v el c f on hf hsrc good => ?_,
    fun s ql v el temp on htemp => ?_⟩
  · obtain ⟨t, acts, silence, rx, others, point⟩ := sample_points on hp v ql el
    refine ⟨t, acts, silence, rx, others, ?_⟩
    rw [point]
    exact takenPoint_cases _ _ ql _
  · change if h ≤ s.now then ∃ t, execSampleHoldExpiry p s = .next t ∧ _ else execSampleHoldExpiry p s = .next s
    unfold execSampleHoldExpiry
    rw [clock]
    split
    case isTrue due =>
      refine ⟨_, congrArg _ (if_pos ⟨held, (due_some s h).mpr due⟩), (finish_still _ _).trans ?_⟩
      exact State.still_of_plant (samplePointCond_plant _ p)
    case isFalse early =>
      rw [if_neg fun both => early ((due_some s h).mp both.2)]
  · refine ⟨silenced s, ?_, silenced_cond on, silenced_gap s, silenced_point s⟩
    exact guarded_acts rfl (by simp [on, quiet, passed_iff]; exact silent)
  · obtain rfl : rate = rateOf (s.chan c).feedPt v ql (s.chan c).setpoint := hrate
    obtain rfl : e = sampleElapsed el := he
    have acct := fed_acct (s := s) (c := c) f v ql el
    exact ⟨_, exec_sampleRecord_feed on hf hsrc v ql el, congrArg Account.mass acct, congrArg Account.lifeMass acct,
      congrArg Account.massRem acct, congrArg Account.energy acct, congrArg Account.lifeEnergy acct,
      congrArg Account.energyRem acct, congrArg Account.estimated acct, fed_actual f v ql el,
      fun d hd => fed_others f v ql el hd⟩
  · obtain rfl : rate = rateOf (s.chan c).flowPt v ql (s.chan c).setpoint := hrate
    obtain rfl : e = sampleElapsed el := he
    have acct := flowed_acct (s := s) (c := c) f v ql el
    exact ⟨_, exec_sampleRecord_flow on hf hsrc v ql el, congrArg Account.mass acct, congrArg Account.lifeMass acct,
      congrArg Account.massRem acct, congrArg Account.estimated acct,
      fun d hd => ⟨flowed_acct_other f v ql el hd, flowed_chan_other v ql el hd⟩⟩
  · refine ⟨_, exec_sampleRecord_fault on hf hsrc good el, fun fault reach => ?_, fun still => ?_, fun d hd => ?_⟩
    · have fuel : (sampled s (.fault c) v ql).fuel? c = some f := (sampled_fuel _ _ _ _).trans hf
      have reach' : TripCause.feederFault.reaches ((sampled s (.fault c) v ql).chan c).state = true := by
        rw [sampled_fault]
        exact reach
      obtain ⟨state, cause, history, shut, setpoint, alloc, proof, track⟩ := trippedRec_fields { s.chan c with
        faultPt := takenPoint (s.chan c).faultPt v.toNat ql s.now } (cause := .feederFault) (by decide)
        (if s.locksOut c f .feederFault = true then .lockedOut else .tripped) s.runClock s.stamp
      obtain ⟨free, flight⟩ := trippedRec_command { s.chan c with
        faultPt := takenPoint (s.chan c).faultPt v.toNat ql s.now } .feederFault
        (if s.locksOut c f .feederFault = true then .lockedOut else .tripped) s.runClock s.stamp
      rw [if_neg fault, faulted_trips hf reach]
      refine ⟨state, cause, history, shut, setpoint, alloc, proof, track, free, flight, ?_⟩
      rw [tripChannel_count _ _ fuel reach', sampled_acct]
    · have idle : (if v = 0 then sampled s (.fault c) v ql
          else (sampled s (.fault c) v ql).tripChannel c .feederFault) = sampled s (.fault c) v ql := by
        rcases still with zero | out
        · rw [if_pos zero]
        · rw [tripChannel_idle _ _ (by rw [sampled_fault]; exact out), ite_self]
      rw [idle, State.point, sampled_fault]
      exact ⟨rfl, sampled_acct _ _ _ _⟩
    · have first : (sampled s (.fault c) v ql).chan d = s.chan d :=
        sampled_chan_other _ _ _ fun e => hd (Option.some.inj e).symm
      split
      · exact first
      · exact ((tripChannel_chanMoves _ c _).chan_other hd).trans first
  · obtain rfl : temp = sampleValue .clinker v := htemp.trans (clinkerValue v).symm
    obtain ⟨chans, config, now, cr, cond, -⟩ := warmed_facts (s := s) v ql
    obtain ⟨sum, count, top⟩ := judgeHigh_temps (warmed s v ql)
    obtain ⟨goodTemps, badTemps⟩ := warmed_sr (s := s) v ql
    have out := warmed_tOut on v ql
    have configured : (warmed s v ql).configured = true := by
      rw [State.configured, config]
      cases h : s.config with
      | none => simp [State.clinkerPresent, h] at on
      | some cfg => rfl
    refine ⟨_, exec_sampleRecord_clinker on v ql el, ?_⟩
    rw [judgeHigh_tOut, judgeHigh_ce, sum, count, top, out]
    refine ⟨chans, fun good => ?_, fun bad => ?_, fun high => ?_, fun low => ?_⟩
    · obtain ⟨sum, count, top⟩ := goodTemps good
      rw [if_pos good, sum, count, top]
      refine ⟨rfl, ?_, fun room => min_eq_left (Nat.le_of_lt_succ room), fun room => min_eq_left (Nat.le_of_lt_succ room)⟩
      cases s.sr.tempMax <;> rfl
    · rw [if_neg (by omega)]
      exact ⟨rfl, badTemps bad⟩
    · rw [judgeHigh_high (by rw [out, warmed_tLim]; exact high)]
      rw [cr, cond, now]
      split
      · exact ⟨cond, rfl⟩
      · exact ⟨cond, congrArg Cooler.highClock cr⟩
    · rw [judgeHigh_low (by rw [out, warmed_tLim]; exact low)]
      refine ⟨setCond_same (by exact configured) _ _ _, ?_⟩
      rw [setCond_cr]
      rfl

end Sys2Proof.Proofs
end

section
/-! PROOF. The field port: the receiver behind a failed record, the transmitter, and the layouts of its records (O21;
11 section 11.4). -/

namespace Sys2Proof.Proofs
open Sys2Proof.Machine

/-! ### The receiver -/

theorem head_ne {b : Byte} {l : List Byte} (h : b8 0xC3 ∉ b :: l) : b ≠ b8 0xC3 := fun e => h (e ▸ List.mem_cons_self)

theorem rescan_hunting {got : List Byte} (h : b8 0xC3 ∉ got) : rescan got = .hunting := by
  induction got with
  | nil => rfl
  | cons b l ih =>
    rw [rescan, if_neg (head_ne h), ih fun m => h (List.mem_cons_of_mem _ m)]

theorem rescan_found {skip rest : List Byte} (h : b8 0xC3 ∉ skip) (stands : holdsFailure rest = false) :
    rescan (skip ++ b8 0xC3 :: rest) = .inRecord rest := by
  induction skip with
  | nil => rw [List.nil_append, rescan, if_pos rfl, if_neg (by simp [stands])]
  | cons b l ih =>
    rw [List.cons_append, rescan, if_neg (head_ne h), ih fun m => h (List.mem_cons_of_mem _ m)]

theorem rescan_last (late : Byte) : rescan [late] = if late = b8 0xC3 then .inRecord [] else .hunting := rfl

theorem split_of_mem {a b l : List Byte} (h : b8 0xC3 ∉ l) (e : l = a ++ b8 0xC3 :: b) : holdsRecord b = false :=
  absurd (e ▸ List.mem_append_right a List.mem_cons_self) h

/-- The splits of a list at a sync byte, when it holds one at most. -/
theorem rescanGap_one {skip rest : List Byte} (late : Byte) (before : b8 0xC3 ∉ skip) (short : holdsRecord rest = false)
    (behind : b8 0xC3 ∉ rest) : rescanGap (skip ++ b8 0xC3 :: rest) late = rescan [late] := by
  induction skip with
  | nil =>
    rw [List.nil_append, rescanGap, if_neg (by simp [short]), rescanGap_none _ _ fun a b => split_of_mem behind]
  | cons b l ih =>
    rw [List.cons_append, rescanGap, if_neg (not_and_of_not_left _ (head_ne before)),
      ih fun m => before (List.mem_cons_of_mem _ m)]

theorem gap_eq (l : List Byte) (late : Byte) (s : State) : exec (.fieldRecordFail (l ++ [late]) true) s
    = .next { s with ce := { s.ce with fieldRx := rescanGap l late } } := by
  change execFieldRecordFail (l ++ [late]) true s = _
  simp [execFieldRecordFail, State.mapCe]

/-! ### The layouts -/

theorem framing_passes {body : List Byte} {n : Nat} (kind : fieldBodyLength (body.headD 0) = some n)
    (len : body.length = n + 1) : framingPasses (body ++ wordBytes [crc16 body]) = true := by
  cases body with
  | nil => simp at len
  | cons k rest =>
    have size : rest.length = n := by simpa using len
    change fieldBodyLength k = some n at kind
    subst size
    simp [framingPasses, kind, wordBytes_length, byteWords_wordBytes]

/-- The record that the transmitter takes, and the window of its command. -/
theorem pump_sends {s : State} {r : CmdRecord} {rest : List CmdRecord} (free : s.ce.busyUntil ≤ s.now)
    (waits : s.ce.waiting = r :: rest) : s.pump = (s.mapCe fun e => { e with
        waiting := rest
        onPort := some r
        busyUntil := s.now + 196 }).mapChan r.chan fun ch =>
      { ch with inFlight := ch.inFlight.map fun fl =>
          if fl.tag = r.tag then { fl with window := some (s.now + 50000) } else fl } := by
  unfold State.pump
  rw [if_neg (by omega), waits]
  rfl

theorem pump_idle {s : State} (h : s.now < s.ce.busyUntil ∨ s.ce.waiting = []) : s.pump = s := by
  unfold State.pump
  rcases h with busy | empty
  · rw [if_pos busy]
  · rw [empty, ite_self]

/-- Settles O21: by the bytes before and behind the sync byte, the port's record, and the layouts. -/
theorem fieldPort : Obligations.FieldPort := by
  refine ⟨fun got s => ⟨fun none gap fails => ?_, fun skip rest hgot hskip stands fails => ?_⟩,
    fun skip rest tail late s hskip => ⟨fun short none => ?_, fun whole => ?_, fun split short => ?_⟩,
    fun s idle => congrArg _ (pump_idle idle), fun s r rest free waits => ?_, fun src q v1 v0 ql e1 e0 => ?_,
    fun c tag code => ?_, fun r => ?_⟩
  · cases gap with
    | false =>
      change execFieldRecordFail got false s = _
      rw [execFieldRecordFail, if_neg (by decide), if_pos (by simpa using fails), rescan_hunting none]
      rfl
    | true =>
      rcases List.eq_nil_or_concat got with rfl | ⟨l, late, rfl⟩
      · rfl
      · rw [List.concat_eq_append] at none ⊢
        have before : b8 0xC3 ∉ l := fun m => none (List.mem_append_left _ m)
        have other : late ≠ b8 0xC3 := fun e => none (by simp [e])
        rw [gap_eq, rescanGap_none _ _ fun a b => split_of_mem before, rescan_last, if_neg other]
  · change execFieldRecordFail got false s = _
    rw [execFieldRecordFail, if_neg (by decide), if_pos fails, hgot, rescan_found hskip stands]
    rfl
  · rw [gap_eq, rescanGap_one late hskip short none, rescan_last]
  · rw [gap_eq, rescanGap_found skip rest late hskip whole]
  · have behind : rest.drop 6 = tail := List.append_cancel_left ((List.take_append_drop 6 rest).trans split)
    rw [FieldRx.behind, behind, rescanGap_none tail late short, rescan_last]
  · refine ⟨s.pump, rfl, ?_⟩
    rw [pump_sends free waits]
    exact ⟨rfl, rfl, rfl, State.mapChan_chan_same _ _ _, fun d hd => State.mapChan_chan_other _ _ (Ne.symm hd), rfl, rfl,
      rfl, rfl, rfl⟩
  · have passes := framing_passes (body := [1, src, q, v1, v0, ql, e1, e0]) (n := 7) rfl rfl
    generalize crc16 [1, src, q, v1, v0, ql, e1, e0] = w at passes ⊢
    unfold recordCommand
    rw [if_pos passes]
    rfl
  · have passes := framing_passes (body := [3, c, tag, code]) (n := 3) rfl rfl
    generalize crc16 [3, c, tag, code] = w at passes ⊢
    unfold recordCommand
    rw [if_pos passes]
    rfl
  · obtain ⟨chan, tag, cmd⟩ := r
    cases cmd <;> rfl

end Sys2Proof.Proofs
end

section
/-! PROOF. ISOLATED: its entry, its end by a frame of a peer, and the frames received (O13, O15; 01 sections 1.4 and 1.5,
02 section 2.4). -/

namespace Sys2Proof.Proofs
open Sys2Proof.Machine

section

variable {s : State} {c : Chan}

/-! ### An operation on one channel after the other -/

theorem foldl_chan_absent {op : State → Chan → State} (h : ∀ x d, ChanMoves d x (op x d)) {l : List Chan} (out : c ∉ l)
    (s : State) : (l.foldl op s).chan c = s.chan c := by
  induction l generalizing s with
  | nil => rfl
  | cons d l ih =>
    obtain ⟨ne, out⟩ := not_or.mp (mt List.mem_cons.mpr out)
    exact (ih out (op s d)).trans ((h s d).chan_other ne)

/-- An operation on each of some channels finds a channel of them as it was before. -/
theorem foldl_chan_at {op : State → Chan → State} (h : ∀ x d, ChanMoves d x (op x d)) {l : List Chan}
    (distinct : l.Nodup) (mem : c ∈ l) (s : State) : ∃ t : State, t.chan c = s.chan c ∧ t.config = s.config
      ∧ t.now = s.now ∧ t.pt.mode = s.pt.mode ∧ (l.foldl op s).chan c = (op t c).chan c := by
  induction l generalizing s with
  | nil => cases mem
  | cons d l ih =>
    obtain ⟨fresh, distinct⟩ := List.nodup_cons.mp distinct
    rcases List.mem_cons.mp mem with rfl | mem
    · exact ⟨s, rfl, rfl, rfl, rfl, foldl_chan_absent h fresh (op s c)⟩
    · have ne : c ≠ d := fun e => fresh (e ▸ mem)
      obtain ⟨t, chan, config, now, mode, at_c⟩ := ih distinct mem (op s d)
      exact ⟨t, chan.trans ((h s d).chan_other ne), config.trans (h s d).config, now.trans (h s d).now,
        mode.trans (h s d).mode, at_c⟩

theorem fuel?_of_config {t : State} (h : t.config = s.config) (d : Chan) : t.fuel? d = s.fuel? d := by
  simp only [State.fuel?, State.chanCfg, h]

/-! ### RUNNING and LIMITED (03 R56) -/

/-- The record of a channel that goes on at Hmin in another state. -/
def minimumRec (ch : Channel) (f : FuelCfg) (st : ChState) (target now : Nat) : Channel :=
  retargetRec { ch with alloc := ch.hmin, state := st } f target now

theorem minimumRec_fields (ch : Channel) (f : FuelCfg) {st : ChState} (going : st ≠ .stopping) (target now : Nat) :
    (minimumRec ch f st target now).state = st ∧ (minimumRec ch f st target now).alloc = ch.hmin
      ∧ (minimumRec ch f st target now).target = target :=
  ⟨retargetRec_state _ _ _ going, retargetRec_alloc _ _ _ going, retargetRec_target _ _ _ going⟩

theorem limitChannel_chanMoves (s : State) (c : Chan) : ChanMoves c s (s.limitChannel c) := by
  unfold State.limitChannel
  split
  · exact .refl
  split
  · exact ((ChanMoves.record .refl _).trans (setChState_chanMoves _ c _)).trans (retarget_chanMoves _ c _ _)
  · exact .refl

theorem unlimitChannel_chanMoves (s : State) (c : Chan) : ChanMoves c s (s.unlimitChannel c) := by
  unfold State.unlimitChannel
  split
  · exact .refl
  split
  · exact ((ChanMoves.record .refl _).trans (setChState_chanMoves _ c _)).trans (retarget_chanMoves _ c _ _)
  · exact .refl

theorem limitChannel_running {f : FuelCfg} (hf : s.fuel? c = some f) (running : (s.chan c).state = .running) :
    (s.limitChannel c).chan c = minimumRec (s.chan c) f .limited f.fmin s.now := by
  unfold State.limitChannel
  rw [hf]
  dsimp only
  rw [if_pos running]
  simp [minimumRec]

theorem limitChannel_idle (h : (s.chan c).state ≠ .running) : s.limitChannel c = s := by
  unfold State.limitChannel
  split
  · rfl
  · rw [if_neg h]

theorem unlimitChannel_limited {f : FuelCfg} (hf : s.fuel? c = some f) (limited : (s.chan c).state = .limited) :
    (s.unlimitChannel c).chan c = minimumRec (s.chan c) f .running (feedOf f (s.chan c).hmin) s.now := by
  unfold State.unlimitChannel
  rw [hf]
  dsimp only
  rw [if_pos limited]
  simp [minimumRec]

/-! ### The mode changes -/

/-- The state in which the channels are limited. -/
def isolatedMark (s : State) : State := (s.mapPt fun t => { t with mode := .isolated }).setCond idStationIsolated true none

/-- The state in which the channels go on. -/
def contactMark (s : State) : State := (s.mapPt fun t => { t with mode := .normal }).setCond idStationIsolated false none

theorem enterIsolated_eq (s : State) : s.enterIsolated = allChans.foldl State.limitChannel (isolatedMark s) := rfl
theorem exitIsolated_eq (s : State) : s.exitIsolated = allChans.foldl State.unlimitChannel (contactMark s) := rfl

theorem isolatedMark_plant (s : State) : (isolatedMark s).plant = (s.mapPt fun t => { t with mode := .isolated }).plant :=
  State.setCond_plant _ _ _ _
theorem contactMark_plant (s : State) : (contactMark s).plant = (s.mapPt fun t => { t with mode := .normal }).plant :=
  State.setCond_plant _ _ _ _

theorem enterIsolated_still (s : State) :
    s.enterIsolated.still = ({ s with pt := { s.pt with mode := .isolated } } : State).still :=
  (Moves.foldl (e := true) _ State.limitChannel_moves _ _).still.trans (State.still_of_plant (isolatedMark_plant s))

theorem exitIsolated_still (s : State) :
    s.exitIsolated.still = ({ s with pt := { s.pt with mode := .normal } } : State).still :=
  (Moves.foldl (e := true) _ State.unlimitChannel_moves _ _).still.trans (State.still_of_plant (contactMark_plant s))

theorem enterIsolated_zs (s : State) : s.enterIsolated.zs = s.zs :=
  (foldl_leaves State.zs _ (fun x d => (limitChannel_chanMoves x d).zs) _ _).trans
    ((zs_of_plant (isolatedMark_plant s)).trans rfl)

theorem exitIsolated_zs (s : State) : s.exitIsolated.zs = s.zs :=
  (foldl_leaves State.zs _ (fun x d => (unlimitChannel_chanMoves x d).zs) _ _).trans
    ((zs_of_plant (contactMark_plant s)).trans rfl)

theorem isolated_not_state (d : Chan) : idStationIsolated ∉ stateIds d := by revert d; decide

theorem enterIsolated_cond (on : s.configured = true) : s.enterIsolated.cond idStationIsolated = true :=
  (foldl_leaves (fun x => x.cond idStationIsolated) State.limitChannel
    (fun x d => (limitChannel_chanMoves x d).cond_other (isolated_not_state d)) _ _).trans (setCond_same (by exact on) _ _ _)

theorem exitIsolated_cond (on : s.configured = true) : s.exitIsolated.cond idStationIsolated = false :=
  (foldl_leaves (fun x => x.cond idStationIsolated) State.unlimitChannel
    (fun x d => (unlimitChannel_chanMoves x d).cond_other (isolated_not_state d)) _ _).trans
    (setCond_same (by exact on) _ _ _)

theorem isolatedMark_chan (s : State) (c : Chan) : (isolatedMark s).chan c = s.chan c :=
  (chan_of_plant (isolatedMark_plant s) c).trans rfl
theorem contactMark_chan (s : State) (c : Chan) : (contactMark s).chan c = s.chan c :=
  (chan_of_plant (contactMark_plant s) c).trans rfl

/-- Every RUNNING fuel channel is LIMITED at Hmin, and no other channel is touched. -/
theorem enterIsolated_chan (s : State) (c : Chan) :
    (∀ f, s.fuel? c = some f → (s.chan c).state = .running →
      s.enterIsolated.chan c = minimumRec (s.chan c) f .limited f.fmin s.now)
      ∧ ((s.chan c).state ≠ .running → s.enterIsolated.chan c = s.chan c) := by
  obtain ⟨t, chan, config, now, -, made⟩ := foldl_chan_at limitChannel_chanMoves allChans_nodup (mem_allChans c)
    (isolatedMark s)
  rw [isolatedMark_chan] at chan
  rw [enterIsolated_eq, made]
  refine ⟨fun f hf running => ?_, fun idle => ?_⟩
  · have fuel : t.fuel? c = some f :=
      (fuel?_of_config (config.trans (config_of_plant (isolatedMark_plant s))) c).trans hf
    rw [limitChannel_running fuel (by rw [chan]; exact running), chan,
      now.trans ((now_of_plant (isolatedMark_plant s)).trans rfl)]
    rfl
  · rw [limitChannel_idle (by rw [chan]; exact idle), chan]

theorem exitIsolated_chan {f : FuelCfg} (hf : s.fuel? c = some f) (limited : (s.chan c).state = .limited) :
    s.exitIsolated.chan c = minimumRec (s.chan c) f .running (feedOf f (s.chan c).hmin) s.now := by
  obtain ⟨t, chan, config, now, -, made⟩ := foldl_chan_at unlimitChannel_chanMoves allChans_nodup (mem_allChans c)
    (contactMark s)
  rw [contactMark_chan] at chan
  have fuel : t.fuel? c = some f :=
    (fuel?_of_config (config.trans (config_of_plant (contactMark_plant s))) c).trans hf
  rw [exitIsolated_eq, made, unlimitChannel_limited fuel (by rw [chan]; exact limited), chan,
    now.trans ((now_of_plant (contactMark_plant s)).trans rfl)]
  rfl

/-! ### The isolation indication (01 R18) -/

theorem isolation_iff (s : State) : s.isolation = true
    ↔ (s.li.acceptedMark = true ∧ s.li.completionTime + 750000 ≤ s.now)
      ∨ (s.expectsPeers = true ∧ s.li.rxTime + 750000 ≤ s.now) := by
  rw [State.isolation, State.notSending, State.notHearing, Bool.or_eq_true, Bool.and_eq_true, Bool.and_eq_true,
    passed_iff, passed_iff]

end

/-- Settles O15: by the indication, and by the channels in turn. -/
theorem isolationLimits : Obligations.IsolationLimits := by
  intro s normal on
  split
  case isTrue cut =>
    refine ⟨s.enterIsolated, guarded_acts rfl ⟨normal, (isolation_iff s).mpr cut⟩, ?_, enterIsolated_cond on,
      enterIsolated_still s, fun c f hf running => ?_, fun c idle => (enterIsolated_chan s c).2 idle, enterIsolated_zs s⟩
    · exact (foldl_leaves (fun x => x.pt.mode) State.limitChannel
        (fun x d => (limitChannel_chanMoves x d).mode) _ _).trans ((mode_of_plant (isolatedMark_plant s)).trans rfl)
    · rw [(enterIsolated_chan s c).1 f hf running]
      exact minimumRec_fields _ f (by decide) _ _
  case isFalse hears => exact guarded_idle rfl fun h => hears ((isolation_iff s).mp h.2)

/-! ### Frames received (01 R14 to R16) -/

section

variable {s : State} {bytes : List Byte} {odd : Fin 8}

/-- The state at the end of a frame of others. -/
def turnedQuiet (s : State) : State := s.mapLi fun li => { li with quietSince := some s.now, rxAbandoned := false }

theorem turnedQuiet_whole (whole : s.li.rxAbandoned = false) :
    turnedQuiet s = { s with li := { s.li with quietSince := some s.now } } := by
  unfold turnedQuiet State.mapLi
  rw [← whole]

theorem receive_sending (h : s.li.tx.any TxFrame.inSend = true) : exec (.receiveFrame bytes odd) s = .next s := by
  change execReceiveFrame bytes odd s = _
  rw [execReceiveFrame, if_pos (by exact h)]

theorem receive_ignored (free : s.li.tx.any TxFrame.inSend = false)
    (h : s.pt.mode = .unconfigured ∨ s.li.rxAbandoned = true) :
    exec (.receiveFrame bytes odd) s = .next (turnedQuiet s) := by
  have sending : ¬ s.li.sending = true := by rw [LineIf.sending, free]; decide
  change execReceiveFrame bytes odd s = _
  rw [execReceiveFrame, if_neg sending]
  dsimp only
  rw [if_pos h]
  rfl

theorem receive_judged (free : s.li.tx.any TxFrame.inSend = false) (mode : s.pt.mode ≠ .unconfigured)
    (whole : s.li.rxAbandoned = false) :
    exec (.receiveFrame bytes odd) s = .next (finish s ((turnedQuiet s).judgeFrame bytes odd.val)) := by
  have sending : ¬ s.li.sending = true := by rw [LineIf.sending, free]; decide
  change execReceiveFrame bytes odd s = _
  rw [execReceiveFrame, if_neg sending]
  dsimp only
  rw [if_neg (by simp [mode, whole])]
  rfl

/-- The state in which contact is judged: a frame of a peer has arrived. -/
def arrived (s : State) (f : RxFrame) : State :=
  let s1 := (turnedQuiet s).mapLi fun li => { li with rxTime := s.now }
  if f.cls = .ack ∧ ackTarget f.payload ≠ stationNumber s.ownStation then s1 else s1.mapLi fun li => li.receive f

theorem judgeFrame_peer {f : RxFrame} {k : Nat} (parsed : parseFrame bytes k = some f)
    (other : f.origin ≠ s.ownStation) : (turnedQuiet s).judgeFrame bytes k = (arrived s f).judgeContact := by
  have own : (turnedQuiet s).ownStation = s.ownStation := rfl
  unfold State.judgeFrame arrived
  rw [parsed]
  dsimp only
  rw [own, if_neg other]
  rfl

/-- The receive queue and the overruns after a frame has arrived. -/
def queuedRx (s : State) (f : RxFrame) : List RxFrame :=
  if f.cls = .ack ∧ ackTarget f.payload ≠ stationNumber s.ownStation then s.li.rx
  else if s.li.rx.length < 8 then s.li.rx ++ [f]
  else if f.cls = .trip then
    match s.li.rx.findIdx? fun g => g.cls == .snap || g.cls == .shift with
    | some i => s.li.rx.eraseIdx i ++ [f]
    | none => s.li.rx
  else s.li.rx

def countedOverruns (s : State) (f : RxFrame) : BitVec 32 :=
  if f.cls = .ack ∧ ackTarget f.payload ≠ stationNumber s.ownStation then s.li.overruns
  else if s.li.rx.length < 8 then s.li.overruns
  else s.li.overruns + 1

theorem receive_eq (li : LineIf) (f : RxFrame) : li.receive f = { li with
    rx := if li.rx.length < 8 then li.rx ++ [f]
      else if f.cls = .trip then
        match li.rx.findIdx? fun g => g.cls == .snap || g.cls == .shift with
        | some i => li.rx.eraseIdx i ++ [f]
        | none => li.rx
      else li.rx
    overruns := if li.rx.length < 8 then li.overruns else li.overruns + 1 } := by
  unfold LineIf.receive
  by_cases room : li.rx.length < 8
  · simp only [if_pos room]
  · simp only [if_neg room]
    by_cases trip : f.cls = .trip
    · simp only [if_pos trip]
      cases li.rx.findIdx? fun g => g.cls == .snap || g.cls == .shift <;> rfl
    · simp only [if_neg trip]

theorem arrived_eq (s : State) (f : RxFrame) : arrived s f = { s with li := { s.li with
    quietSince := some s.now
    rxAbandoned := false
    rxTime := s.now
    rx := queuedRx s f
    overruns := countedOverruns s f } } := by
  unfold arrived queuedRx countedOverruns
  dsimp only
  by_cases foreign : f.cls = .ack ∧ ackTarget f.payload ≠ stationNumber s.ownStation
  · simp only [if_pos foreign]
    rfl
  · simp only [if_neg foreign]
    have received := receive_eq { s.li with quietSince := some s.now, rxAbandoned := false, rxTime := s.now } f
    exact congrArg (fun li => { s with li := li }) received

/-- A peer's frame ends the want of peers, not the want of completions. -/
theorem arrived_isolation (s : State) (f : RxFrame) : (arrived s f).isolation = true
    ↔ s.li.acceptedMark = true ∧ s.li.completionTime + 750000 ≤ s.now := by
  rw [isolation_iff, arrived_eq]
  refine or_iff_left ?_
  dsimp only
  omega

end

/-- Settles O13: by the parse of the frame, and the judgement of contact. -/
theorem framesReceived : Obligations.FramesReceived := by
  refine ⟨fun s bytes odd f mode free whole parsed other => ?_, fun s bytes odd on mode free whole =>
    ⟨fun bad => ?_, fun f parsed own => ?_⟩, fun s bytes odd => ⟨receive_sending, fun free h => receive_ignored free h⟩⟩
  · refine ⟨(arrived s f).judgeContact, ?_, ?_⟩
    · rw [receive_judged free mode whole, judgeFrame_peer parsed other]
    · have arrives : arrived s f = { s with li := { s.li with
          quietSince := some s.now
          rxTime := s.now
          rx := queuedRx s f
          overruns := countedOverruns s f } } := by
        rw [arrived_eq, ← whole]
      by_cases ends : s.pt.mode = .isolated ∧ ¬ (s.li.acceptedMark = true ∧ s.li.completionTime + 750000 ≤ s.now)
      · have contact : (arrived s f).judgeContact = (arrived s f).exitIsolated := by
          rw [State.judgeContact, if_pos]
          refine ⟨by rw [arrives]; exact ends.1, ?_⟩
          rw [← Bool.not_eq_true, arrived_isolation]
          exact ends.2
        rw [contact, if_pos ends]
        refine ⟨?_, ?_, fun goes => absurd ends goes, fun _ _ => ⟨fun on => ?_, fun c g hg limited => ?_⟩⟩
        · rw [exitIsolated_still, arrives]
          rfl
        · rw [exitIsolated_zs, arrives]
        · exact exitIsolated_cond (by rw [arrives]; exact on)
        · have made := exitIsolated_chan (s := arrived s f) (c := c) (f := g) (by rw [arrives]; exact hg)
            (by rw [arrives]; exact limited)
          rw [made]
          have fields := minimumRec_fields (s.chan c) g (st := .running) (by decide) (feedOf g (s.chan c).hmin) s.now
          rw [arrives]
          exact fields
      · have contact : (arrived s f).judgeContact = arrived s f := by
          rw [State.judgeContact, if_neg]
          rintro ⟨isolated, hears⟩
          rw [← Bool.not_eq_true, arrived_isolation] at hears
          rw [arrives] at isolated
          exact ends ⟨isolated, hears⟩
        rw [contact, if_neg ends, arrives]
        exact ⟨rfl, rfl, fun _ => ⟨rfl, rfl, rfl⟩, fun isolated hears => absurd ⟨isolated, hears⟩ ends⟩
  · refine ⟨_, receive_judged free mode whole, (finish_still _ _).trans ?_⟩
    rw [turnedQuiet_whole whole, State.judgeFrame, bad]
    rfl
  · have judged : (turnedQuiet s).judgeFrame bytes odd.val = ((turnedQuiet s).mapLi fun li => { li with
        duplicates := li.duplicates + 1
        lastDuplicate := some s.now }).setCond idDuplicateStation true none := by
      rw [State.judgeFrame, parsed]
      exact if_pos own
    refine ⟨_, receive_judged free mode whole, ?_⟩
    rw [judged]
    refine ⟨setCond_same (by exact on) _ _ _, (State.still_of_plant (State.setCond_plant _ _ _ _)).trans ?_⟩
    rw [turnedQuiet_whole whole]
    rfl

end Sys2Proof.Proofs
end

section
/-! PROOF. What an accepted offer puts into the transmit queue, the SNAP offers, and the ages of the peer records (O16,
O18; 01 section 1.3, 02 sections 2.1 to 2.3). -/

namespace Sys2Proof.Proofs
open Sys2Proof.Machine

/-! ### Accepted offers (01 R11, R12) -/

section

variable {s : State} {cls : FrameClass} {p : List Word} {r k : Nat}

theorem offer_replaces (mode : s.pt.mode ≠ .unconfigured) (kind : cls ≠ .ack)
    (waits : s.li.tx.any (replaceable cls p) = true) :
    s.offer cls p r k = (s.enqueueReplace (s.newFrame cls p r k), .accepted) := by
  unfold State.offer
  dsimp only
  rw [if_neg mode, if_neg fun h => kind h.1, if_pos waits]

theorem offer_joins (mode : s.pt.mode ≠ .unconfigured) (fresh : s.li.tx.any (matchesKey cls p) = false)
    (room : s.li.tx.length < 12) : s.offer cls p r k = (s.enqueueNew (s.newFrame cls p r k), .accepted) := by
  have none : s.li.tx.any (replaceable cls p) = false := by
    rw [List.any_eq_false] at fresh ⊢
    exact fun g hg rep => fresh g hg (replaceable_iff.mp rep).2.2
  unfold State.offer
  dsimp only
  rw [if_neg mode, if_neg (by simp [fresh]), if_neg (by simp [none]), if_neg (by simp [fresh]), if_pos room]

theorem evictAt_seqs (s : State) (i : Nat) (b : Bool) : (s.evictAt i b).li.seqs = s.li.seqs := by
  unfold State.evictAt
  split
  · dsimp only
    split
    · rfl
    · rw [loseFrame_li]
      rfl
  · rfl

/-- The frame that an accepted offer leaves waiting, and the next sequence of its class. -/
theorem offer_accepted (h : (s.offer cls p r k).2 = .accepted) :
    (s.offer cls p r k).1.li.seqs.get cls.index = s.li.seqs.get cls.index + 1
      ∧ ∃ f ∈ (s.offer cls p r k).1.li.tx, f.cls = cls ∧ f.inSend = false ∧ f.payload = p
        ∧ f.seq = s.li.seqs.get cls.index := by
  rcases offer_cases s cls p r k with ⟨-, no⟩ | ⟨-, -, ⟨waits, e⟩ | ⟨-, -, ⟨-, e⟩ | ⟨-, i, b, -, e⟩⟩⟩
  · exact absurd h no
  · rw [e]
    refine ⟨upd_get_same _ _ _, ?_⟩
    obtain ⟨g, hg, rep⟩ := List.any_eq_true.mp waits
    refine ⟨replacedBy (s.newFrame cls p r k) g, ?_, ?_⟩
    · rw [enqueueReplace_tx]
      exact List.mem_map_of_mem hg
    · rw [replacedBy, if_pos (by exact rep)]
      exact ⟨rfl, rfl, rfl, rfl⟩
  · rw [e]
    exact ⟨upd_get_same _ _ _, _, mem_insertFrame.mpr (.inl rfl), rfl, rfl, rfl, rfl⟩
  · rw [e]
    have seqs := evictAt_seqs s i b
    refine ⟨?_, _, mem_insertFrame.mpr (.inl rfl), rfl, rfl, rfl, rfl⟩
    exact (upd_get_same _ _ _).trans (congrArg (fun x => x.get cls.index + 1) seqs)

end

/-! ### The SNAP offers (02 R21 to R25) -/

section

variable {s : State}

theorem offerSnap_pt (s : State) : s.offerSnap.pt = (snapMarked s).pt := by
  rw [offerSnap_eq, offer_pt]

theorem snap_accepted (mode : s.pt.mode ≠ .unconfigured)
    (h : s.li.tx.any (replaceable .snap []) = true ∨ (s.li.tx.length < 12 ∧ ∀ f ∈ s.li.tx, f.cls ≠ .snap)) (p : List Word)
    (r : Nat) : (s.offer .snap p r 0).2 = .accepted := by
  rcases h with waits | ⟨room, none⟩
  · rw [offer_replaces mode (by decide) (by exact waits)]
  · have fresh : s.li.tx.any (matchesKey .snap p) = false := by
      rw [List.any_eq_false]
      exact fun g hg same => none g hg (matchesKey_cls same)
    rw [offer_joins mode fresh room]

end

/-- Settles O16: by the marks of the offer and the queue's acceptance. -/
theorem snapOffers : Obligations.SnapOffers := by
  intro c s on mode hc
  have acts : exec c s = .next s.offerSnap := by
    rcases hc with ⟨rfl, late⟩ | ⟨rfl, marked, late⟩
    · exact guarded_acts rfl (by simp [on, passed_iff]; exact late)
    · exact guarded_acts rfl (by simp [on, marked, passed_iff]; exact late)
  refine ⟨s.offerSnap, acts, ?_⟩
  rw [offerSnap_pt]
  refine ⟨rfl, rfl, rfl, rfl, offerSnap_plant s, fun room => ?_⟩
  exact offer_accepted (snap_accepted (s := snapMarked s) mode room s.snapMsg.words (s.snapIndex + 1))

/-! ### The ages of a record (02 R31, R33) -/

/-- The state of a record that has become EXPIRED, before its mirrors are flagged. -/
def agedOut (s : State) (n : Station) : State :=
  let s1 := (s.mapPeer n fun r => { r with fresh := .expired }).notify .peerChange
  if (s.peer n).expected then s1.setCond (idPeerExpired n) true none else s1

theorem agedOut_plant (s : State) (n : Station) :
    (agedOut s n).plant = (s.mapPeer n fun r => { r with fresh := .expired }).plant := by
  unfold agedOut
  dsimp only
  split
  · exact State.setCond_plant _ _ _ _
  · rfl

theorem fv_of_plant {s t : State} (h : t.plant = s.plant) : t.fv = s.fv := by
  change t.plant.fv = s.plant.fv
  rw [h]

theorem setView_view (s : State) (v : List Mirror) (full : Bool) : (s.setView v full).fv.view = v := by
  unfold State.setView
  dsimp only
  split <;> rfl

/-- Settles O18: by the record's age, the condition and the view. -/
theorem freshnessTimers : Obligations.FreshnessTimers := by
  refine ⟨fun n s l fresh last late => ?_, fun n s l on stale last late => ?_, fun n s on expected absent late => ?_⟩
  · refine ⟨_, guarded_acts rfl ⟨fresh, ?_⟩, (finish_still _ _).trans rfl⟩
    rw [last]
    exact (due_some s _).mpr late
  · obtain ⟨w, p, form⟩ := viewExpired_form (agedOut s n) n
    have fv := fv_of_plant (agedOut_plant s n)
    refine ⟨(agedOut s n).viewExpired n, guarded_acts rfl ⟨stale, ?_⟩, ?_, fun expected => ?_, ?_, ?_⟩
    · rw [last]
      exact (due_some s _).mpr late
    · have peers : (agedOut s n).pt.peers = _ := peers_of_plant (agedOut_plant s n)
      rw [form]
      exact peers
    · have raised : (agedOut s n).cond (idPeerExpired n) = true := by
        unfold agedOut
        dsimp only
        rw [if_pos expected]
        exact setCond_same (by exact on) _ _ _
      rw [form]
      exact raised
    · rw [State.viewExpired, fv]
      exact setView_view _ _ _
    · rw [State.viewExpired, State.mapRoll_rollCall_same]
  · refine ⟨_, guarded_acts rfl ?_, setCond_same on _ _ _, State.setCond_plant _ _ _ _⟩
    simp [on, expected, absent, passed_iff]
    exact late

end Sys2Proof.Proofs
end

section
/-! PROOF. The steps of a trip (04 section 4.5): what they make of the zone's record, of its own fuel channels, and of
the transmit queue. -/

namespace Sys2Proof.Proofs
open Sys2Proof.Machine

/-! ### The room of the transmit queue (01 R9) -/

/-- The queue holds at most 12 frames, one of them in send at most. -/
def Roomy (s : State) : Prop := s.li.tx.length ≤ 12 ∧ s.li.tx.countP TxFrame.inSend ≤ 1

section

variable {s t : State}

theorem roomy_map {q : List TxFrame} (h : q.length ≤ 12 ∧ q.countP TxFrame.inSend ≤ 1) {g : TxFrame → TxFrame}
    (hg : ∀ f, (g f).inSend = f.inSend) : (q.map g).length ≤ 12 ∧ (q.map g).countP TxFrame.inSend ≤ 1 := by
  simpa [List.countP_map, Function.comp_def, hg] using h

theorem roomy_insert {q : List TxFrame} {f : TxFrame} (room : q.length < 12) (one : q.countP TxFrame.inSend ≤ 1)
    (waits : f.inSend = false) : (insertFrame f q).length ≤ 12 ∧ (insertFrame f q).countP TxFrame.inSend ≤ 1 := by
  have perm := insertFrame_perm f q
  rw [perm.length_eq, perm.countP_eq, List.length_cons, List.countP_cons_of_neg (by simp [waits])]
  exact ⟨room, one⟩

theorem offer_roomy (h : Roomy s) (cls : FrameClass) (p : List Word) (r k : Nat) : Roomy (s.offer cls p r k).1 := by
  obtain ⟨he, -⟩ | ⟨-, -, ⟨-, he⟩ | ⟨-, -, ⟨room, he⟩ | ⟨-, i, b, hev, he⟩⟩⟩ := offer_cases s cls p r k
  · rw [he]
    exact h
  · rw [he]
    exact roomy_map h fun g => replacedBy_inSend rfl g
  · rw [he]
    exact roomy_insert room h.2 rfl
  · rw [he]
    obtain ⟨g, hg, -⟩ := evictee_some hev
    obtain ⟨lt, -⟩ := List.getElem?_eq_some_iff.mp hg
    refine roomy_insert (q := (s.evictAt i b).li.tx) ?_ ?_ rfl
    · rw [evictAt_tx hg, List.length_eraseIdx_of_lt lt]
      have := h.1
      omega
    · rw [evictAt_tx hg]
      exact ((List.eraseIdx_sublist _ _).countP_le).trans h.2

theorem listMoves_roomy (m : ListMoves s t) (h : Roomy s) : Roomy t := by
  refine m.keep Roomy (fun a b hm ha => ?_) h
  cases hm with
  | list f => exact ha
  | removal p => exact roomy_map ha fun f => by split <;> rfl
  | offer id => exact offer_roomy ha _ _ _ _
  | notify k => exact ha

theorem ChanMoves.roomy {c : Chan} (m : ChanMoves c s t) (h : Roomy s) : Roomy t := by
  induction m with
  | refl => exact h
  | tail _ hm ih =>
    cases hm with
    | cond id v x _ => exact listMoves_roomy (setCond_listMoves _ id v x) ih
    | _ => exact ih

end

/-! ### The own fuel channels trip (03 R57) -/

section

variable {s : State} {z : Zone} {c : Chan}

/-- ZONE_TRIP counts for no lockout. -/
theorem tripState_zoneTrip (s : State) (c : Chan) (f : FuelCfg) : tripState s c f .zoneTrip = .tripped := by
  simp [tripState, State.locksOut]

theorem trippedRec_zoneTrip (ch : Channel) (st : ChState) (clock : Nat) (stamp : Stamp) :
    (trippedRec ch .zoneTrip st clock stamp).state = st ∧ (trippedRec ch .zoneTrip st clock stamp).cause = some .zoneTrip
      ∧ (trippedRec ch .zoneTrip st clock stamp).shutReleased = false := by
  unfold trippedRec
  cases ch.inFlight <;> exact ⟨rfl, rfl, rfl⟩

theorem fuel?_of_own (h : s.ownFuel z c = true) : ∃ f, s.fuel? c = some f ∧ f.zone = z := by
  unfold State.ownFuel at h
  cases hf : s.fuel? c with
  | none => simp [hf] at h
  | some f => exact ⟨f, rfl, by simpa [hf] using h⟩

theorem ownFuel_of_fuel {f : FuelCfg} (hf : s.fuel? c = some f) (z : Zone) : s.ownFuel z c = (f.zone == z) := by
  rw [State.ownFuel, hf]

/-- The own fuel channels of a zone after they have tripped. -/
def channelsTripped (s : State) (z : Zone) : State := (s.ownFuels z).foldl (fun s c => s.tripChannel c .zoneTrip) s

theorem channelsTripped_leaves {β : Type} (P : State → β) (h : ∀ d a b, ChanMoves d a b → P b = P a) (s : State)
    (z : Zone) : P (channelsTripped s z) = P s :=
  foldl_leaves P _ (fun x d => h d _ _ (tripChannel_chanMoves x d .zoneTrip)) _ _

theorem channelsTripped_roomy (h : Roomy s) (z : Zone) : Roomy (channelsTripped s z) := by
  have each : ∀ (l : List Chan) (x : State), Roomy x → Roomy (l.foldl (fun s c => s.tripChannel c .zoneTrip) x) := by
    intro l
    induction l with
    | nil => exact fun x hx => hx
    | cons d l ih => exact fun x hx => ih _ ((tripChannel_chanMoves x d _).roomy hx)
  exact each _ s h

/-- An own fuel channel that a zone trip reaches is TRIPPED by it. -/
theorem channelsTripped_reached (own : s.ownFuel z c = true) (reach : TripCause.zoneTrip.reaches (s.chan c).state = true) :
    ((channelsTripped s z).chan c).state = .tripped ∧ ((channelsTripped s z).chan c).cause = some .zoneTrip
      ∧ ((channelsTripped s z).chan c).shutReleased = false := by
  obtain ⟨t, chan, config, -, -, made⟩ := foldl_chan_at (fun x d => tripChannel_chanMoves x d .zoneTrip)
    (ownFuels_nodup s z) (mem_ownFuels_iff.mpr own) s
  obtain ⟨f, hf, -⟩ := fuel?_of_own own
  have fuel : t.fuel? c = some f := (fuel?_of_config config c).trans hf
  rw [channelsTripped, made, tripChannel_chan_same _ _ fuel (by rw [chan]; exact reach), tripState_zoneTrip]
  exact trippedRec_zoneTrip _ _ _ _

/-- Every other channel stays. -/
theorem channelsTripped_idle (h : s.ownFuel z c = true → TripCause.zoneTrip.reaches (s.chan c).state = false) :
    (channelsTripped s z).chan c = s.chan c := by
  by_cases own : s.ownFuel z c = true
  · obtain ⟨t, chan, -, -, -, made⟩ := foldl_chan_at (fun x d => tripChannel_chanMoves x d .zoneTrip)
      (ownFuels_nodup s z) (mem_ownFuels_iff.mpr own) s
    rw [channelsTripped, made, tripChannel_idle _ _ (by rw [chan]; exact h own), chan]
  · exact foldl_chan_absent (fun x d => tripChannel_chanMoves x d .zoneTrip) (fun mem => own (mem_ownFuels_iff.mp mem)) s

/-! ### Steps 1 to 4 of a trip (04 R81) -/

/-- The zone's record after steps 1 to 4. -/
def steppedRec (s : State) (z : Zone) (e : CauseEntry) (r : ZoneRec) : ZoneRec :=
  { r with
    snapshot := some (s.tripSnapshot z e)
    epoch := some e.epoch
    firstOut := some (addCause r.firstOut e) }

/-- The snapshot is taken. -/
def snapTaken (s : State) (z : Zone) (e : CauseEntry) : State :=
  s.mapZone z fun r => { r with snapshot := some (s.tripSnapshot z e) }

theorem tripSteps_eq (s : State) (z : Zone) (e : CauseEntry) : s.tripSteps z e
    = (channelsTripped (snapTaken s z e) z).mapZone z fun r =>
      { r with epoch := some e.epoch, firstOut := some (addCause r.firstOut e) } := rfl

theorem tripSteps_leaves {β : Type} (P : State → β) (h : ∀ d a b, ChanMoves d a b → P b = P a)
    (zone : ∀ (x : State) (g : ZoneRec → ZoneRec), P (x.mapZone z g) = P x) (e : CauseEntry) :
    P (s.tripSteps z e) = P s := by
  rw [tripSteps_eq, zone, channelsTripped_leaves P h, snapTaken, zone]

theorem tripSteps_zone_same (e : CauseEntry) : (s.tripSteps z e).zone z = steppedRec s z e (s.zone z) := by
  rw [tripSteps_eq, State.mapZone_zone_same,
    channelsTripped_leaves (fun x => x.zone z) (fun _ _ _ m => m.zone z), snapTaken, State.mapZone_zone_same]
  rfl

theorem tripSteps_zone_other (e : CauseEntry) {y : Zone} (h : y ≠ z) : (s.tripSteps z e).zone y = s.zone y := by
  rw [tripSteps_eq, State.mapZone_zone_other _ _ (Ne.symm h),
    channelsTripped_leaves (fun x => x.zone y) (fun _ _ _ m => m.zone y), snapTaken,
    State.mapZone_zone_other _ _ (Ne.symm h)]

theorem tripSteps_config (e : CauseEntry) : (s.tripSteps z e).config = s.config :=
  tripSteps_leaves State.config (fun _ _ _ m => m.config) (fun _ _ => rfl) e

theorem tripSteps_now (e : CauseEntry) : (s.tripSteps z e).now = s.now :=
  tripSteps_leaves State.now (fun _ _ _ m => m.now) (fun _ _ => rfl) e

theorem tripSteps_mode (e : CauseEntry) : (s.tripSteps z e).pt.mode = s.pt.mode :=
  tripSteps_leaves (fun x => x.pt.mode) (fun _ _ _ m => m.mode) (fun _ _ => rfl) e

theorem tripSteps_trips (e : CauseEntry) : tripFrames (s.tripSteps z e) = tripFrames s :=
  tripSteps_leaves tripFrames (fun _ _ _ m => m.trips) (fun _ _ => rfl) e

theorem tripSteps_roomy (h : Roomy s) (e : CauseEntry) : Roomy (s.tripSteps z e) :=
  channelsTripped_roomy (s := snapTaken s z e) h z

theorem tripSteps_reached (e : CauseEntry) (own : s.ownFuel z c = true)
    (reach : TripCause.zoneTrip.reaches (s.chan c).state = true) : ((s.tripSteps z e).chan c).state = .tripped
      ∧ ((s.tripSteps z e).chan c).cause = some .zoneTrip ∧ ((s.tripSteps z e).chan c).shutReleased = false :=
  channelsTripped_reached (s := snapTaken s z e) own reach

theorem tripSteps_idle (e : CauseEntry) (h : s.ownFuel z c = true → TripCause.zoneTrip.reaches (s.chan c).state = false) :
    (s.tripSteps z e).chan c = s.chan c := channelsTripped_idle (s := snapTaken s z e) h

/-! ### The zone TRIPPED (04 R82, R86) -/

/-- The zone's record after a trip. -/
def trippedZone (s : State) (z : Zone) (e : CauseEntry) : ZoneRec :=
  enteredRec s z .tripped (steppedRec s z e (s.zone z))

/-- The record that a state enters TRIPPED with depends on the time and the zone's hold alone. -/
theorem enteredRec_tripped {t : State} (now : t.now = s.now) (config : t.config = s.config) (r : ZoneRec) :
    enteredRec t z .tripped r = enteredRec s z .tripped r := by
  have hold : t.zoneParam z ZoneCfg.tripHold = s.zoneParam z ZoneCfg.tripHold := by
    simp only [State.zoneParam, State.zoneCfg?, config]
  simp [enteredRec, ZoneRec.enter, now, hold]

/-- What a state that holds the steps of a trip makes of the zone and its channels when it enters TRIPPED. -/
theorem setTripped {t : State} (e : CauseEntry) (live : (s.zone z).state ≠ .tripped) (zs : t.zs = (s.tripSteps z e).zs)
    (chans : ∀ d, t.chan d = (s.tripSteps z e).chan d) (now : t.now = s.now) (config : t.config = s.config) :
    (t.setZone z .tripped).zone z = trippedZone s z e
      ∧ (∀ y, y ≠ z → (t.setZone z .tripped).zone y = s.zone y)
      ∧ (∀ d, s.ownFuel z d = true → ((t.setZone z .tripped).chan d).shutReleased = false)
      ∧ (∀ d, s.ownFuel z d = true → TripCause.zoneTrip.reaches (s.chan d).state = true →
        ((t.setZone z .tripped).chan d).state = .tripped ∧ ((t.setZone z .tripped).chan d).cause = some .zoneTrip)
      ∧ (∀ d, s.ownFuel z d = false → (t.setZone z .tripped).chan d = s.chan d) := by
  have zone : ∀ y, t.zone y = (s.tripSteps z e).zone y := fun y => by rw [State.zone, zs, State.zone]
  have own : ∀ d, t.ownFuel z d = s.ownFuel z d := fun d => ownFuel_of_config config z d
  have differ : (t.zone z).state ≠ .tripped := by
    rw [zone, tripSteps_zone_same]
    exact live
  refine ⟨?_, fun y hy => ?_, fun d hd => setZone_shut differ rfl ((own d).trans hd), fun d hd reach => ?_, fun d hd => ?_⟩
  · rw [setZone_zone_same differ, zone, tripSteps_zone_same, enteredRec_tripped now config]
    rfl
  · rw [setZone_zone_other hy, zone, tripSteps_zone_other e hy]
  · obtain ⟨state, cause, shut⟩ := tripSteps_reached e hd reach
    have dry : fuelled (t.chan d) = false := by rw [chans, fuelled, state, shut]; rfl
    rw [setZone_chan_dry dry, chans]
    exact ⟨state, cause⟩
  · rw [setZone_chan_other ((own d).trans hd), chans, tripSteps_idle e fun yes => by rw [hd] at yes; cases yes]

end

end Sys2Proof.Proofs
end

section
/-! PROOF. Local trips, peer trips and ESD_N (O33, O35, O36; 04 sections 4.4 to 4.6). -/

namespace Sys2Proof.Proofs
open Sys2Proof.Machine

/-! ### The TRIP frame of a local trip (04 R81) -/

section

variable {s : State}

theorem offerTrip_ce (s : State) (m : TripMsg) : (s.offerTrip m).ce = s.ce := by
  obtain ⟨d, ts, l, h⟩ := s.offerTrip_plant m
  change (s.offerTrip m).plant.ce = s.plant.ce
  rw [h]

theorem offerTrip_zs (s : State) (m : TripMsg) : (s.offerTrip m).zs = s.zs := by
  obtain ⟨d, ts, l, h⟩ := s.offerTrip_plant m
  change (s.offerTrip m).plant.zs = s.plant.zs
  rw [h]

theorem offerTrip_now (s : State) (m : TripMsg) : (s.offerTrip m).now = s.now := by
  obtain ⟨d, ts, l, h⟩ := s.offerTrip_plant m
  change (s.offerTrip m).plant.now = s.plant.now
  rw [h]

theorem offerTrip_zoneTrips (s : State) (m : TripMsg) : (s.offerTrip m).sr.zoneTrips = s.sr.zoneTrips := by
  obtain ⟨d, ts, l, h⟩ := s.offerTrip_plant m
  change (s.offerTrip m).plant.sr.zoneTrips = s.plant.sr.zoneTrips
  rw [h]

theorem offerTrip_frame (m : TripMsg) (mode : s.pt.mode ≠ .unconfigured) (room : Roomy s)
    (zones : ∀ g ∈ tripFrames s, (tripZoneByte g).toNat < 4) :
    ∃ g ∈ tripFrames (s.offerTrip m), g.inSend = false ∧ g.payload = m.words := by
  obtain ⟨-, g, mem, trip, payload, waits⟩ := tripNeverRefused s m mode room.1 room.2 fun g hg cls =>
    zones g (List.mem_filter.mpr ⟨hg, by simp [cls]⟩)
  have waiting : g ∈ tripFrames (s.offer .trip m.words 0 0).1 := List.mem_filter.mpr ⟨mem, by simp [trip]⟩
  refine ⟨g, ?_, waits, payload⟩
  unfold State.offerTrip
  dsimp only
  split
  · rw [setCond_trips]
    exact waiting
  · exact waiting

end

/-! ### A trip of a zone (04 R81, R82) -/

theorem trippedZone_fields (s : State) (z : Zone) (e : CauseEntry) : (trippedZone s z e).state = .tripped
    ∧ (trippedZone s z e).epoch = some e.epoch
    ∧ (trippedZone s z e).tripHold = .running (s.now + 250000 * s.zoneParam z ZoneCfg.tripHold)
    ∧ (trippedZone s z e).firstOut = some (addCause (s.zone z).firstOut e)
    ∧ (trippedZone s z e).snapshot = some (s.tripSnapshot z e) := ⟨rfl, rfl, rfl, rfl, rfl⟩

section

variable {s : State} {z : Zone}

/-- What a trip makes of the zones and channels. -/
structure TripMade (s : State) (z : Zone) (e : CauseEntry) (u : State) : Prop where
  zone : u.zone z = trippedZone s z e
  others : ∀ y, y ≠ z → u.zone y = s.zone y
  shut : ∀ c, s.ownFuel z c = true → (u.chan c).shutReleased = false
  reached : ∀ c, s.ownFuel z c = true → TripCause.zoneTrip.reaches (s.chan c).state = true →
    (u.chan c).state = .tripped ∧ (u.chan c).cause = some .zoneTrip
  idle : ∀ c, s.ownFuel z c = false → u.chan c = s.chan c

theorem peerTrip_made (live : (s.zone z).state ≠ .tripped) (e : CauseEntry) : TripMade s z e (s.peerTrip z e) := by
  obtain ⟨zone, others, shut, reached, idle⟩ :=
    setTripped e live rfl (fun _ => rfl) (tripSteps_now e) (tripSteps_config e)
  exact ⟨zone, others, shut, reached, idle⟩

theorem TripMade.counted {e : CauseEntry} {u : State} (m : TripMade s z e u) : TripMade s z e u.countZoneTrip :=
  ⟨m.zone, m.others, m.shut, m.reached, m.idle⟩

theorem localTrip_made (live : (s.zone z).state ≠ .tripped) (cause : ZoneCause) (ch : Option Chan) (v : Option Nat) :
    TripMade s z (localEntry s z cause ch v) (s.localTrip z cause ch v) := by
  obtain ⟨zone, others, shut, reached, idle⟩ := setTripped (localEntry s z cause ch v) live
    (t := (s.tripSteps z (localEntry s z cause ch v)).offerTrip ⟨z, nextEpoch (s.zone z).epoch, cause, ch⟩)
    (offerTrip_zs _ _) (fun d => by rw [State.chan, offerTrip_ce, State.chan])
    ((offerTrip_now _ _).trans (tripSteps_now _)) ((offerTrip_config _ _).trans (tripSteps_config _))
  rw [localTrip_eq]
  exact TripMade.counted ⟨zone, others, shut, reached, idle⟩

theorem countZoneTrip_trips (s : State) : tripFrames s.countZoneTrip = tripFrames s := rfl
theorem countZoneTrip_zoneTrips (s : State) : s.countZoneTrip.sr.zoneTrips = min (s.sr.zoneTrips + 1) 65535 := rfl

theorem localTrip_counted (s : State) (z : Zone) (cause : ZoneCause) (ch : Option Chan) (v : Option Nat) :
    (s.localTrip z cause ch v).sr.zoneTrips = min (s.sr.zoneTrips + 1) 65535 := by
  have steps : (s.tripSteps z (localEntry s z cause ch v)).sr.zoneTrips = s.sr.zoneTrips :=
    zoneTrips_of_still (State.tripSteps_moves (e := false) s z _).still_false
  rw [localTrip_eq, countZoneTrip_zoneTrips, zoneTrips_of_still (State.setZone_still _ _ _), offerTrip_zoneTrips, steps]

/-- The TRIP frame of a local trip waits in a queue that had the room of 01 R9. -/
theorem localTrip_frame (cause : ZoneCause) (ch : Option Chan) (v : Option Nat) (mode : s.pt.mode ≠ .unconfigured)
    (room : Roomy s) (zones : ∀ g ∈ s.li.tx, g.cls = .trip → (tripZoneByte g).toNat < 4) :
    ∃ g ∈ (s.localTrip z cause ch v).li.tx, g.cls = .trip ∧ g.inSend = false
      ∧ g.payload = (TripMsg.mk z (nextEpoch (s.zone z).epoch) cause ch).words := by
  have kept : ∀ g ∈ tripFrames (s.tripSteps z (localEntry s z cause ch v)), (tripZoneByte g).toNat < 4 := by
    rw [tripSteps_trips]
    exact fun g hg => zones g (List.mem_filter.mp hg).1 (by simpa using (List.mem_filter.mp hg).2)
  obtain ⟨g, mem, waits, payload⟩ := offerTrip_frame (s := s.tripSteps z (localEntry s z cause ch v))
    ⟨z, nextEpoch (s.zone z).epoch, cause, ch⟩ (by rw [tripSteps_mode]; exact mode) (tripSteps_roomy room _) kept
  have stands : g ∈ tripFrames (s.localTrip z cause ch v) := by
    rw [localTrip_eq, countZoneTrip_trips, setZone_trips]
    exact mem
  exact ⟨g, (List.mem_filter.mp stands).1, by simpa using (List.mem_filter.mp stands).2, waits, payload⟩

/-! ### The lowest open channel (04 R75) -/

theorem lowestOpen_eq {c : Chan} (own : s.ownFuel z c = true) (opened : (s.chan c).shutReleased = true)
    (lowest : ∀ d, d < c → s.ownFuel z d = true → (s.chan d).shutReleased = false) : s.lowestOpen z = some c := by
  have ordered : (s.ownFuels z).Pairwise (· < ·) := List.Pairwise.filter _ (by decide : allChans.Pairwise (· < ·))
  have mem : c ∈ s.ownFuels z := mem_ownFuels_iff.mpr own
  obtain ⟨d, found⟩ : ∃ d, s.lowestOpen z = some d := Option.isSome_iff_exists.mp
    (List.find?_isSome.mpr ⟨c, mem, opened⟩)
  obtain ⟨dOpen, before, after, split, earlier⟩ := List.find?_eq_some_iff_append.mp found
  have dMem : d ∈ s.ownFuels z := by simp [split]
  rcases lt_trichotomy d c with lt | rfl | gt
  · rw [lowest d lt (mem_ownFuels_iff.mp dMem)] at dOpen
    cases dOpen
  · exact found
  · rw [split] at mem ordered
    rcases List.mem_append.mp mem with inBefore | inAfter
    · have := earlier c inBefore
      simp [opened] at this
    · rcases List.mem_cons.mp inAfter with rfl | inAfter
      · exact found
      · have behind : d < c := (List.pairwise_cons.mp (List.pairwise_append.mp ordered).2.1).1 c inAfter
        exact absurd behind (lt_asymm gt)

theorem zoneArg_of {w : Word} (hw : w.toNat = z.val) (part : s.participates z = true) : s.zoneArg w = some z := by
  rw [State.zoneArg, zoneOf_val hw]
  exact if_pos part

theorem zoneArg_none {w : Word} (h : ∀ z : Zone, w.toNat = z.val → s.participates z = false) : s.zoneArg w = none := by
  cases e : s.zoneArg w with
  | none => rfl
  | some z =>
    obtain ⟨zone, part⟩ := zoneArg_some e
    unfold zoneOf at zone
    split at zone
    · rename_i lt
      have eq := Option.some.inj zone
      rw [h z (by rw [← eq])] at part
      cases part
    · cases zone

end

/-- An answer OK is written beside the plant. -/
theorem ok_keeps (s : State) (code : Nat) : (s.ok code).ce = s.ce ∧ (s.ok code).zs = s.zs ∧ (s.ok code).li = s.li
    ∧ (s.ok code).sr = s.sr ∧ (s.ok code).sp.buffer = .ready ⟨b8 code, .ok, 0, []⟩ := ⟨rfl, rfl, rfl, rfl, rfl⟩

/-- Settles O33: by the cause of the trip, then by what a trip makes. -/
theorem localTrips : Obligations.LocalTrips := by
  refine ⟨fun s w serves none => ?_, fun s z x cause ch value ep e hx hep he => ?_⟩
  · change execZoneTrip w s = _
    rw [execZoneTrip, request_served serves, zoneArg_none none]
  · have entry : e = localEntry s z cause ch value := by rw [he, hep]; rfl
    have epoch : ep = nextEpoch (s.zone z).epoch := hep
    have trips : (s.zone z).state ≠ .tripped ∧ ∃ u, exec x s = .next (finish s u) ∧ u.ce = (s.localTrip z cause ch value).ce
        ∧ u.zs = (s.localTrip z cause ch value).zs ∧ u.li = (s.localTrip z cause ch value).li
        ∧ u.sr = (s.localTrip z cause ch value).sr ∧ ((∃ w, x = .zoneTrip w) → u.sp.buffer = .ready ⟨10, .ok, 0, []⟩) := by
      rcases hx with ⟨rfl, lit, ⟨d, timer, due⟩, rfl, rfl, c, rfl, own, opened, lowest⟩
        | ⟨rfl, lit, ⟨d, clock, due⟩, rfl, rfl, rfl⟩ | ⟨⟨w, rfl, hw, serves⟩, part, live, rfl, rfl, rfl⟩
      · refine ⟨by rw [lit]; decide, s.localTrip z .flameFailure (some c) none, ?_, rfl, rfl, rfl, rfl,
          fun ⟨w, h⟩ => (by cases h)⟩
        change execFlameFailureExpiry z s = _
        unfold execFlameFailureExpiry
        rw [if_pos ⟨lit, by rw [timer]; exact (due_some s d).mpr due⟩, lowestOpen_eq own opened lowest]
      · refine ⟨by rw [lit]; decide, s.localTrip z .airFailure none (some (s.firing z).air.supply), ?_, rfl, rfl, rfl, rfl,
          fun ⟨w, h⟩ => (by cases h)⟩
        exact guarded_acts rfl ⟨lit, by rw [clock]; exact (due_some s d).mpr due⟩
      · have trippable : (s.zone z).state.trippable = true := by
          rcases live with h | h | h <;> rw [h] <;> rfl
        obtain ⟨ce, zs, li, sr, answer⟩ := ok_keeps (s.localTrip z .hostTrip none none) 10
        refine ⟨by rcases live with h | h | h <;> rw [h] <;> decide, (s.localTrip z .hostTrip none none).ok 10, ?_, ce,
          zs, li, sr, fun _ => answer⟩
        change execZoneTrip w s = _
        rw [execZoneTrip, request_served serves, zoneArg_of hw part]
        exact congrArg _ (if_pos trippable)
    obtain ⟨live, u, acts, ce, zs, li, sr, answer⟩ := trips
    obtain ⟨zone, others, shut, reached, idle⟩ := localTrip_made live cause ch value
    rw [← entry] at zone
    have chan : ∀ c, u.chan c = (s.localTrip z cause ch value).chan c := fun c => by rw [State.chan, ce, State.chan]
    have zoneOf : ∀ y, u.zone y = (s.localTrip z cause ch value).zone y := fun y => by rw [State.zone, zs, State.zone]
    refine ⟨u, acts, ?_⟩
    rw [zoneOf, zone, li, sr]
    obtain ⟨state, held, hold, firstOut, snapshot⟩ := trippedZone_fields s z e
    have count := localTrip_counted s z cause ch value
    have frame := localTrip_frame (s := s) (z := z) cause ch value
    rw [← epoch] at frame
    generalize s.localTrip z cause ch value = v at *
    refine ⟨state, ?_, hold, firstOut, ?_, fun mode len one zones => frame mode ⟨len, one⟩ zones,
      fun y hy => (zoneOf y).trans (others y hy), fun c hc => by rw [chan]; exact shut c hc,
      fun c hc reach => by rw [chan]; exact reached c hc reach, fun c hc => (chan c).trans (idle c hc), count, answer⟩
    · rw [held, he]
    · rw [snapshot, he]
      rfl

/-! ### A peer's epoch (04 R80, R82) -/

section

variable {s : State} {z : Zone} {e : CauseEntry}

theorem takeEpoch_old (old : newerEpoch (s.zone z).epoch e.epoch = false) : s.takeEpoch z e = s := by
  unfold State.takeEpoch
  dsimp only
  rw [if_neg (by simp [old])]

theorem takeEpoch_trips (newer : newerEpoch (s.zone z).epoch e.epoch = true)
    (live : (s.zone z).state.trippable = true) : s.takeEpoch z e = s.peerTrip z e := by
  unfold State.takeEpoch
  dsimp only
  rw [if_pos newer]
  cases h : (s.zone z).state with
  | purging => rfl
  | ready => rfl
  | lit => rfl
  | dark => rw [h] at live; cases live
  | tripped => rw [h] at live; cases live

/-- A newer epoch of a zone that it does not trip: it is kept, with its entry beside a record that is set, and in
TRIPPED in any case. -/
theorem takeEpoch_keeps (newer : newerEpoch (s.zone z).epoch e.epoch = true)
    (still : (s.zone z).state.trippable = false) : s.takeEpoch z e = s.mapZone z fun x => { x with
      epoch := some e.epoch
      firstOut := if (s.zone z).state = .dark then x.firstOut.map fun fo => addCause (some fo) e
        else some (addCause x.firstOut e) } := by
  unfold State.takeEpoch
  dsimp only
  rw [if_pos newer]
  cases h : (s.zone z).state with
  | purging => rw [h] at still; cases still
  | ready => rw [h] at still; cases still
  | lit => rw [h] at still; cases still
  | dark => rfl
  | tripped => rfl

theorem live_of_trippable (live : (s.zone z).state.trippable = true) : (s.zone z).state ≠ .tripped := by
  intro h
  rw [h] at live
  cases live

theorem peerTrip_trips : tripFrames (s.peerTrip z e) = tripFrames s := (setZone_trips).trans (tripSteps_trips e)

theorem takeEpoch_trips_kept : tripFrames (s.takeEpoch z e) = tripFrames s := by
  cases newer : newerEpoch (s.zone z).epoch e.epoch with
  | false => rw [takeEpoch_old newer]
  | true =>
    cases live : (s.zone z).state.trippable with
    | true => rw [takeEpoch_trips newer live, peerTrip_trips]
    | false =>
      rw [takeEpoch_keeps newer live]
      rfl

theorem takeEpoch_zone_other {y : Zone} (h : y ≠ z) : (s.takeEpoch z e).zone y = s.zone y := by
  cases newer : newerEpoch (s.zone z).epoch e.epoch with
  | false => rw [takeEpoch_old newer]
  | true =>
    cases live : (s.zone z).state.trippable with
    | true =>
      rw [takeEpoch_trips newer live]
      exact (peerTrip_made (live_of_trippable live) e).others y h
    | false =>
      rw [takeEpoch_keeps newer live]
      exact State.mapZone_zone_other _ _ (Ne.symm h)

theorem newerEpoch_of {held : Option Word} {ep : Word} (h : ∀ x, held = some x → serialNewer ep x = true) :
    newerEpoch held ep = true := by
  cases held with
  | none => rfl
  | some x => exact h x rfl

end

/-- Settles O36: by the epoch, then by the zone's state. -/
theorem peerTrips : Obligations.PeerTrips := by
  refine ⟨fun s f head out => ?_, fun s f m head parsed decides part => ?_⟩
  · change execTripTaken s = _
    rw [execTripTaken, rxHead_of_heads head]
    rcases out with bad | ⟨m, parsed, idle⟩
    · dsimp only
      rw [bad]
      rfl
    · have no : ¬ (s.decides && s.participates m.zone) = true := by
        rcases idle with h | h <;> simp [h]
      dsimp only
      rw [parsed]
      dsimp only
      rw [if_neg no]
      rfl
  · have acts : exec .tripTaken s = .next (finish s
        (s.popRx.takeEpoch m.zone (s.peerEntry f.origin (some m.cause) m.channel m.epoch))) := by
      change execTripTaken s = _
      rw [execTripTaken, rxHead_of_heads head]
      dsimp only
      rw [parsed]
      dsimp only
      rw [if_pos (by simp [decides, part])]
    have old : ∀ h, (s.zone m.zone).epoch = some h → serialNewer m.epoch h = false →
        newerEpoch (s.popRx.zone m.zone).epoch m.epoch = false := fun h held older => by
      rw [show (s.popRx.zone m.zone).epoch = some h from held]
      exact older
    refine ⟨_, acts, (State.takeEpoch_moves s.popRx m.zone _).still, takeEpoch_trips_kept (s := s.popRx),
      fun y hy => takeEpoch_zone_other (s := s.popRx) hy, fun ⟨h, held, older⟩ => takeEpoch_old (old h held older),
      fun newer => ?_⟩
    have newer' : newerEpoch (s.popRx.zone m.zone).epoch m.epoch = true := newerEpoch_of newer
    cases live : (s.zone m.zone).state.trippable with
    | true =>
      obtain ⟨zone, -, shut, -, -⟩ := peerTrip_made (s := s.popRx) (live_of_trippable live)
        (s.peerEntry f.origin (some m.cause) m.channel m.epoch)
      obtain ⟨state, held, hold, firstOut, snapshot⟩ := trippedZone_fields s.popRx m.zone
        (s.peerEntry f.origin (some m.cause) m.channel m.epoch)
      rw [takeEpoch_trips (s := s.popRx) newer' live, zone, state, held, hold, firstOut, snapshot]
      refine ⟨rfl, fun _ => ⟨rfl, by simp, fun clear => ?_, rfl, rfl, shut⟩, fun fo e set he => ?_, fun tripped => ?_,
        fun dark => ?_, fun still => (by cases still)⟩
      · rw [show (s.popRx.zone m.zone).firstOut = none from clear]
        rfl
      · rw [show (s.popRx.zone m.zone).firstOut = some fo from set, he]
        rfl
      · rw [tripped] at live
        cases live
      · rw [dark] at live
        cases live
    | false =>
      rw [takeEpoch_keeps (s := s.popRx) newer' live, State.mapZone_zone_same]
      refine ⟨rfl, fun trips => (by cases trips), fun fo e set he => ?_, fun tripped clear => ?_, fun dark clear => ?_,
        fun _ => ⟨rfl, rfl, rfl, rfl⟩⟩
      · rw [show (s.popRx.zone m.zone).firstOut = some fo from set, he]
        exact ite_self _
      · rw [show (s.popRx.zone m.zone).firstOut = none from clear,
          if_neg (by rw [show (s.popRx.zone m.zone).state = .tripped from tripped]; decide)]
        rfl
      · rw [show (s.popRx.zone m.zone).firstOut = none from clear,
          if_pos (show (s.popRx.zone m.zone).state = .dark from dark)]
        rfl

end Sys2Proof.Proofs
end

section
/-! PROOF. The zone requests and the zone's timers (O31, O32; 04 sections 4.1 to 4.3, 4.5 and 4.6). -/

namespace Sys2Proof.Proofs
open Sys2Proof.Machine

/-! ### A notice stands until it is read (10 R191) -/

section

variable {s t : State}

/-- ZONE_STATE is in the notice set. -/
def zoneNoticed (s : State) : Prop := s.sp.notices.zoneState = true

theorem notify_zoneNoticed (h : zoneNoticed s) (k : Notice) : zoneNoticed (s.notify k) := by
  cases k with
  | zoneState => rfl
  | _ => exact h

theorem listMoves_zoneNoticed (m : ListMoves s t) (h : zoneNoticed s) : zoneNoticed t := by
  refine m.keep zoneNoticed (fun a b hm ha => ?_) h
  cases hm with
  | list f => exact ha
  | removal p => exact ha
  | offer id => exact (congrArg (fun p : StationPort => p.notices.zoneState) (offer_sp a _ _ _ _)).trans (by exact ha)
  | notify k => exact notify_zoneNoticed ha k

theorem setCond_zoneNoticed (h : zoneNoticed s) (id : AlarmId) (v : Bool) (x : Option Nat) :
    zoneNoticed (s.setCond id v x) := listMoves_zoneNoticed (setCond_listMoves s id v x) h

theorem ChanMoves.zoneNoticed {c : Chan} (m : ChanMoves c s t) (h : zoneNoticed s) : zoneNoticed t := by
  induction m with
  | refl => exact h
  | tail _ hm ih =>
    cases hm with
    | cond id v x _ => exact setCond_zoneNoticed ih id v x
    | notify k => exact notify_zoneNoticed ih k
    | _ => exact ih

theorem ZoneHands.zoneNoticed {z : Zone} (m : ZoneHands z s t) (h : zoneNoticed s) : zoneNoticed t := by
  induction m with
  | refl => exact h
  | tail _ hm ih =>
    cases hm with
    | cond id v x _ => exact setCond_zoneNoticed ih id v x
    | notify k => exact notify_zoneNoticed ih k
    | _ => exact ih

/-- A change of a zone's state is noticed. -/
theorem setZone_zoneNoticed {z : Zone} {st : ZoneState} (differ : (s.zone z).state ≠ st) :
    zoneNoticed (s.setZone z st) := by
  have written : zoneNoticed (zoneWritten s z st) := (zoneWritten_noticed s z st).zoneNoticed rfl
  have closes : ∀ (l : List Chan) (x : State), zoneNoticed x → zoneNoticed (l.foldl State.loseZone x) := by
    intro l
    induction l with
    | nil => exact fun x hx => hx
    | cons c l ih => exact fun x hx => ih _ ((loseZone_chanMoves x c).zoneNoticed hx)
  rw [setZone_eq differ]
  split
  · exact written
  · exact closes _ _ written

end

/-! ### ZONE_PURGE (04 R66, R67) -/

section

variable {s : State} {z : Zone} {w : Word}

theorem permissive_iff (s : State) (z : Zone) : s.permissive z = true
    ↔ s.fuelClosed z = true ∧ s.esd = false ∧ s.zoneParam z ZoneCfg.purgeAir ≤ (s.firing z).air.supply := by
  simp [State.permissive, and_assoc]

theorem zonePurge_served (serves : s.serves 8 [w]) (arg : s.zoneArg w = some z) : exec (.zonePurge w) s
    = .next (if s.pt.mode = .starting then s.refuse 8 .state
      else if (s.zone z).state ≠ .dark then s.refuse 8 .state
      else if (s.zone z).firstOut.isSome then s.refuse 8 .firstOutPending
      else if s.permissive z then finish s ((s.startPurge z).ok 8)
      else s.refuse 8 .permissive) := by
  change execZonePurge w s = _
  rw [execZonePurge, request_served serves, arg]

/-- The zone and the condition at the start of a purge. -/
theorem startPurge_made (on : s.configured = true) (dark : (s.zone z).state = .dark) :
    ((s.startPurge z).zone z).state = .purging
      ∧ ((s.startPurge z).zone z).purgeTimer = some (s.now + 250000 * s.zoneParam z ZoneCfg.purgeTime)
      ∧ (∀ y, y ≠ z → (s.startPurge z).zone y = s.zone y) ∧ (s.startPurge z).cond (idPurgeAborted z) = false
      ∧ zoneNoticed (s.startPurge z) := by
  have differ : (s.zone z).state ≠ .purging := by rw [dark]; decide
  have zs : ∀ y, (s.startPurge z).zone y = ((s.setZone z .purging).mapZone z fun r =>
      { r with purgeTimer := some (s.now + seconds (s.zoneParam z ZoneCfg.purgeTime)) }).zone y := fun y => by
    rw [State.startPurge, State.zone, zs_of_plant (State.setCond_plant _ _ _ _), State.zone]
  have configured : (s.setZone z .purging).configured = true := by
    rw [State.configured, config_of_still (State.setZone_still _ _ _)]
    exact on
  refine ⟨?_, ?_, fun y hy => ?_, setCond_same (by exact configured) _ _ _,
    setCond_zoneNoticed (by exact setZone_zoneNoticed differ) _ _ _⟩
  · rw [zs, State.mapZone_zone_same]
    change ((s.setZone z .purging).zone z).state = .purging
    rw [setZone_zone_same differ]
    rfl
  · rw [zs, State.mapZone_zone_same]
  · rw [zs, State.mapZone_zone_other _ _ (Ne.symm hy), setZone_zone_other hy]

end

/-- Settles O31: the tests in turn. -/
theorem zoneRequests : Obligations.ZoneRequests := by
  refine ⟨fun s w on serves => ⟨fun none => ?_, fun z hw part => ?_⟩, fun s w serves => ⟨fun none => ?_, fun z hw part => ?_⟩⟩
  · change execZonePurge w s = _
    rw [execZonePurge, request_served serves, zoneArg_none none]
  · rw [zonePurge_served serves (zoneArg_of hw part)]
    refine ⟨fun no => ?_, fun mode dark set => ?_, fun mode dark clear no => ?_,
      fun mode dark clear closed released supply => ?_⟩
    · rcases no with starting | live
      · rw [if_pos starting]
      · rw [if_pos live, ite_self]
    · rw [if_neg mode, if_neg (by simpa using dark), if_pos (Option.isSome_iff_ne_none.mpr set)]
    · rw [if_neg mode, if_neg (by simpa using dark), if_neg (by simp [clear]), if_neg fun h => no ((permissive_iff s z).mp h)]
    · have permits := (permissive_iff s z).mpr ⟨closed, released, supply⟩
      obtain ⟨state, timer, others, aborted, noticed⟩ := startPurge_made on dark
      rw [if_neg mode, if_neg (by simpa using dark), if_neg (by simp [clear]), if_pos permits]
      exact ⟨_, rfl, state, timer, others, aborted, noticed, rfl⟩
  · change execZoneReset w s = _
    rw [execZoneReset, request_served serves, zoneArg_none none]
  · change execZoneReset w s = _
    rw [execZoneReset, request_served serves, zoneArg_of hw part]

/-! ### The hold and the valves (04 R86) -/

section

variable {s : State} {z : Zone} {c : Chan}

theorem valvesClosed_iff (s : State) (z : Zone) : s.valvesClosed z = true
    ↔ ∀ c, s.ownFuel z c = true → (s.chan c).valvePt.closed = true := by
  rw [State.valvesClosed, List.all_eq_true]
  exact forall_congr' fun c => imp_congr mem_ownFuels_iff Iff.rfl

theorem judgeHold_idle (h : ¬ ((s.zone z).state = .tripped ∧ (s.zone z).tripHold = .expired ∧ s.valvesClosed z = true)) :
    s.judgeHold z = s := if_neg h

theorem judgeHold_ends (tripped : (s.zone z).state = .tripped) (hold : (s.zone z).tripHold = .expired)
    (closed : s.valvesClosed z = true) : s.judgeHold z = s.setZone z .dark := if_pos ⟨tripped, hold, closed⟩

theorem zoneTrip_not_state (z : Zone) (c : Chan) : idZoneTrip z ∉ stateIds c := by revert z c; decide

theorem setZone_dark_cond (on : s.configured = true) (differ : (s.zone z).state ≠ .dark) :
    (s.setZone z .dark).cond (idZoneTrip z) = false := by
  have written : (zoneWritten s z .dark).cond (idZoneTrip z) = false := by
    refine setCond_same ?_ _ _ _
    rw [State.configured, show (zoneHanded s z .dark).config = s.config from
      (config_of_plant (State.setCond_plant _ _ _ _)).symm.trans zoneWritten_config]
    exact on
  rw [setZone_eq differ]
  exact (foldl_leaves (fun x => x.cond (idZoneTrip z)) State.loseZone
    (fun x c => (loseZone_chanMoves x c).cond_other (zoneTrip_not_state z c)) _ _).trans written

/-- DARK leaves no timer and no mark. -/
theorem setZone_dark (differ : (s.zone z).state ≠ .dark) : ((s.setZone z .dark).zone z).state = .dark
    ∧ ((s.setZone z .dark).zone z).tripHold = .stopped ∧ ((s.setZone z .dark).zone z).readyTimer = none := by
  rw [setZone_zone_same differ]
  exact ⟨rfl, rfl, rfl⟩

theorem exec_sampleRecord_valve {src : Byte} {f : FuelCfg} (on : s.configured = true) (hf : s.fuel? c = some f)
    (hsrc : src.toNat = c.val) (v : Word) (ql : Byte) (el : Word) : exec (.sampleRecord src 4 v ql el) s
    = .next (finish s ((sampled s (.valve c) v ql).judgeHold f.zone)) := by
  rw [exec_sampleRecord_point on (matchPoint_fuel hf hsrc).2.1]
  have fuel : (sampled s (.valve c) v ql).fuel? c = some f := (sampled_fuel _ _ _ _).trans hf
  simp only [State.handSample, fuel]

/-- The valves of a zone after a GOOD or UNCERTAIN sample of one of them. -/
theorem sampled_valvesClosed {f : FuelCfg} (hf : s.fuel? c = some f) {ql : Byte} (good : ql.toNat ≤ 1) (v : Word) :
    (sampled s (.valve c) v ql).valvesClosed f.zone = true
      ↔ v ≠ 0 ∧ ∀ d, d ≠ c → s.ownFuel f.zone d = true → (s.chan d).valvePt.closed = true := by
  have own : ∀ d, (sampled s (.valve c) v ql).ownFuel f.zone d = s.ownFuel f.zone d :=
    fun d => ownFuel_of_config (sampled_config _ _ _) _ d
  have same : ((sampled s (.valve c) v ql).chan c).valvePt.closed = true ↔ v ≠ 0 := by
    rw [sampled_valve, takenPoint_good good]
    change decide (v.toNat ≠ 0) = true ↔ _
    rw [decide_eq_true_iff]
    exact not_congr (BitVec.toNat_inj (x := v) (y := 0))
  have other : ∀ d, d ≠ c → (sampled s (.valve c) v ql).chan d = s.chan d :=
    fun d hd => sampled_chan_other _ _ _ fun e => hd (Option.some.inj e).symm
  rw [valvesClosed_iff]
  refine ⟨fun all => ⟨same.mp (all c ?_), fun d hd hown => ?_⟩, fun ⟨nonzero, rest⟩ d hown => ?_⟩
  · rw [own, ownFuel_of_fuel hf]
    exact beq_self_eq_true _
  · rw [← other d hd]
    exact all d ((own d).trans hown)
  · by_cases hd : d = c
    · rw [hd]
      exact same.mpr nonzero
    · rw [other d hd]
      exact rest d hd ((own d).symm.trans hown)

end

/-- Settles O32: by the zone's state and the timer of each command. -/
theorem zoneTimers : Obligations.ZoneTimers := by
  refine ⟨fun s z d purging timer due => ?_, fun s z d ready timer due => ?_, fun s z d tripped hold due => ?_,
    fun s src ql v el c f on hf hsrc good => ?_, fun s c f p on hf proof proving window => ?_⟩
  · have differ : (s.zone z).state ≠ .ready := by rw [purging]; decide
    refine ⟨s.setZone z .ready, guarded_acts rfl ⟨purging, by rw [timer]; exact (due_some s d).mpr due⟩, ?_⟩
    rw [setZone_zone_same differ, setZone_ce_fires rfl]
    exact ⟨rfl, rfl, rfl, fun y hy => setZone_zone_other hy, rfl⟩
  · have differ : (s.zone z).state ≠ .dark := by rw [ready]; decide
    obtain ⟨state, -, timer'⟩ := setZone_dark differ
    refine ⟨s.setZone z .dark, guarded_acts rfl ⟨ready, by rw [timer]; exact (due_some s d).mpr due⟩, state, timer',
      fun y hy => setZone_zone_other hy, fun c own => setZone_shut differ rfl own, fun c own open' => ?_,
      fun c own => setZone_chan_other own⟩
    have wet : fuelled (s.chan c) = true := by simpa [fuelled] using open'
    rw [setZone_chan differ rfl, if_pos ⟨own, wet⟩]
    exact offWithRec_state _ _
  · have acts : exec (.tripHoldExpiry z) s
        = .next (finish s ((s.mapZone z fun r => { r with tripHold := .expired }).judgeHold z)) := by
      change execTripHoldExpiry z s = _
      unfold execTripHoldExpiry
      rw [hold]
      dsimp only
      rw [if_pos ⟨tripped, due⟩]
    have marked : ((s.mapZone z fun r => { r with tripHold := .expired }).zone z).state = .tripped
        ∧ ((s.mapZone z fun r => { r with tripHold := .expired }).zone z).tripHold = .expired := by
      rw [State.mapZone_zone_same]
      exact ⟨tripped, rfl⟩
    refine ⟨_, acts, fun y hy => ?_, fun closed => ?_, fun shut => judgeHold_idle fun h => ?_⟩
    · have other : (s.mapZone z fun r => { r with tripHold := .expired }).zone y = s.zone y :=
        State.mapZone_zone_other _ _ (Ne.symm hy)
      unfold State.judgeHold
      split
      · rw [setZone_zone_other hy, other]
      · exact other
    · rw [judgeHold_ends marked.1 marked.2 closed]
      obtain ⟨state, stopped, -⟩ := setZone_dark (s := s.mapZone z fun r => { r with tripHold := .expired }) (z := z)
        (by rw [marked.1]; decide)
      exact ⟨state, stopped⟩
    · have closed : s.valvesClosed z = true := h.2.2
      rw [shut] at closed
      cases closed
  · have zone : ∀ y, (sampled s (.valve c) v ql).zone y = s.zone y := fun y => by
      rw [State.zone, sampled_zs, State.zone]
    have closes := sampled_valvesClosed (s := s) hf good v
    refine ⟨_, exec_sampleRecord_valve on hf hsrc v ql el, fun tripped hold nonzero rest => ?_, fun no => ?_⟩
    · have differ : ((sampled s (.valve c) v ql).zone f.zone).state ≠ .dark := by rw [zone, tripped]; decide
      rw [judgeHold_ends (by rw [zone]; exact tripped) (by rw [zone]; exact hold) (closes.mpr ⟨nonzero, rest⟩)]
      obtain ⟨state, stopped, -⟩ := setZone_dark differ
      refine ⟨state, stopped, ?_, fun y hy => (setZone_zone_other hy).trans (zone y)⟩
      refine setZone_dark_cond ?_ differ
      rw [State.configured, sampled_config]
      exact on
    · rw [judgeHold_idle, sampled_zs]
      rintro ⟨tripped, hold, closed⟩
      rw [zone] at tripped hold
      obtain ⟨nonzero, rest⟩ := closes.mp closed
      rcases no with live | running | zero | ⟨d, hd, own, opened⟩
      · exact live tripped
      · exact running hold
      · exact nonzero zero
      · rw [rest d hd own] at opened
        cases opened
  · have reach : TripCause.lightOffFail.reaches (s.chan c).state = true := by rw [proving]; rfl
    obtain ⟨state, cause, -, shut, setpoint, -, proof', -⟩ := trippedRec_fields (s.chan c) (cause := .lightOffFail)
      (by decide) (tripState s c f .lightOffFail) s.runClock s.stamp
    refine ⟨s.tripChannel c .lightOffFail, guarded_acts rfl (by rw [proof]; exact (due_some s _).mpr window), ?_⟩
    rw [tripChannel_chan_same _ _ hf reach]
    exact ⟨state, cause, shut, proof', setpoint, tripChannel_count _ _ hf reach,
      fun d hd => (tripChannel_chanMoves s c _).chan_other hd⟩

end Sys2Proof.Proofs
end

section
/-! PROOF. What follows an event (log 8), zone by zone: the tests of a zone work on its record and on its own fuel
channels alone, the supervision of fans on the fans, and the rest on neither. -/

namespace Sys2Proof.Proofs
open Sys2Proof.Machine

/-! ### The work on one zone -/

/-- One elementary change that the tests of a zone make: its record, what its state hands on, FLAME_UNSTABLE, one own fuel
channel. -/
inductive ZoneWork (z : Zone) : State → State → Prop
  | record (s : State) (g : ZoneRec → ZoneRec) : ZoneWork z s (s.mapZone z g)
  | hand {s t : State} (h : ZoneHand z s t) : ZoneWork z s t
  | flicker (s : State) (v : Bool) : ZoneWork z s (s.setCond (idFlameUnstable z) v none)
  | chan {s t : State} {c : Chan} (own : s.ownFuel z c = true) (h : ChanMove c s t) : ZoneWork z s t

/-- A sequence of them. -/
abbrev ZoneWorks (z : Zone) : State → State → Prop := Relation.ReflTransGen (ZoneWork z)

section

variable {z : Zone} {s t : State}

theorem ZoneWorks.leaves {β : Sort _} (P : State → β) (h : ∀ a b, ZoneWork z a b → P b = P a) (m : ZoneWorks z s t) :
    P t = P s := by
  induction m with
  | refl => rfl
  | tail _ m ih => exact (h _ _ m).trans ih

theorem ZoneHands.works (m : ZoneHands z s t) : ZoneWorks z s t := by
  induction m with
  | refl => exact .refl
  | tail _ h ih => exact ih.tail (.hand h)

/-- What the tests of a zone read beside the zone and its channels. -/
structure Surround where
  config : Option Config
  now : Nat
  mode : Mode
  esd : Bool
  peers : Vector PeerRecord 16
  flames : Vector Point 4
  stamp : Stamp

/-- The surroundings of a state. -/
def surround (s : State) : Surround :=
  ⟨s.config, s.now, s.pt.mode, s.esd, s.pt.peers, s.ce.flames, s.stamp⟩

theorem surround_of_plant (h : t.plant = s.plant) : surround t = surround s := by
  change surround t.plant = surround s.plant
  rw [h]

theorem setCond_surround (s : State) (id : AlarmId) (v : Bool) (x : Option Nat) :
    surround (s.setCond id v x) = surround s := surround_of_plant (State.setCond_plant _ _ _ _)

theorem ChanMoves.surround {c : Chan} (m : ChanMoves c s t) : surround t = surround s := by
  refine m.leaves Proofs.surround fun a b hm => ?_
  cases hm with
  | cond id v x _ => exact setCond_surround _ _ _ _
  | _ => rfl

theorem ZoneWork.surround (h : ZoneWork z s t) : surround t = surround s := by
  cases h with
  | record g => rfl
  | hand h =>
    cases h with
    | cond id v x _ => exact setCond_surround _ _ _ _
    | _ => rfl
  | flicker v => exact setCond_surround _ _ _ _
  | chan own h => exact ChanMoves.surround (.single h)

theorem ZoneWork.zone_other (h : ZoneWork z s t) {y : Zone} (hy : y ≠ z) : t.zone y = s.zone y := by
  cases h with
  | record g => exact State.mapZone_zone_other _ _ (Ne.symm hy)
  | hand h => exact congrArg (fun x : ZoneSupervisor => x.zones.get y) (ZoneHands.zs (.single h))
  | flicker v => exact congrArg (fun x : ZoneSupervisor => x.zones.get y) (zs_of_plant (State.setCond_plant s _ _ _))
  | chan own h => exact ChanMoves.zone (.single h) y

theorem ZoneWork.chan_other (h : ZoneWork z s t) {c : Chan} (hc : s.ownFuel z c = false) : t.chan c = s.chan c := by
  cases h with
  | record g => rfl
  | hand h => exact congrArg (fun x : ChannelEngine => x.chans.get c) (ZoneHands.ce (.single h))
  | flicker v => exact setCond_chan _ _ _ _ c
  | chan own h =>
    refine ChanMoves.chan_other (.single h) fun e => ?_
    rw [← e, hc] at own
    cases own

theorem ZoneWorks.surround (m : ZoneWorks z s t) : surround t = surround s := m.leaves _ fun _ _ h => h.surround
theorem ZoneWorks.config (m : ZoneWorks z s t) : t.config = s.config := congrArg Surround.config m.surround

/-- The conditions that the work on a zone writes are the zone's, and those of a channel's state. -/
theorem ZoneWork.cond_other (h : ZoneWork z s t) {id : AlarmId} (zone : id ∉ zoneIds z) (flame : id ≠ idFlameUnstable z)
    (chan : ∀ c, id ∉ stateIds c) : t.cond id = s.cond id := by
  cases h with
  | record g => rfl
  | hand h =>
    cases h with
    | cond i v x hi => exact setCond_cond_other _ (fun e : id = i => zone (e ▸ hi)) _ _
    | _ => rfl
  | flicker v => exact setCond_cond_other _ flame _ _
  | chan own h => exact ChanMoves.cond_other (.single h) (chan _)

theorem ZoneWorks.zone_other (m : ZoneWorks z s t) {y : Zone} (hy : y ≠ z) : t.zone y = s.zone y :=
  m.leaves (fun x => x.zone y) fun _ _ h => h.zone_other hy

theorem ZoneWorks.chan_other (m : ZoneWorks z s t) {c : Chan} (hc : s.ownFuel z c = false) : t.chan c = s.chan c := by
  induction m with
  | refl => rfl
  | tail m h ih => exact (h.chan_other ((ownFuel_of_config (ZoneWorks.config m) z c).trans hc)).trans ih

theorem ChanMoves.works {c : Chan} (own : s.ownFuel z c = true) (m : ChanMoves c s t) : ZoneWorks z s t := by
  induction m with
  | refl => exact .refl
  | tail m h ih => exact ih.tail (.chan ((ownFuel_of_config (ChanMoves.config m) z c).trans own) h)

/-- Works on each of some own fuel channels, one after the other. -/
theorem foldl_works {op : State → Chan → State} (h : ∀ x c, x.ownFuel z c = true → ZoneWorks z x (op x c)) {l : List Chan}
    (own : ∀ c ∈ l, s.ownFuel z c = true) : ZoneWorks z s (l.foldl op s) := by
  induction l generalizing s with
  | nil => exact .refl
  | cons c l ih =>
    have first := h s c (own c List.mem_cons_self)
    exact first.trans (ih fun d hd => (ownFuel_of_config first.config z d).trans (own d (List.mem_cons_of_mem _ hd)))

end

/-! ### The tests of a zone are work on it (04 R65 to R76) -/

section

variable (s : State) (z : Zone)

theorem setZone_works (st : ZoneState) : ZoneWorks z s (s.setZone z st) := by
  by_cases same : (s.zone z).state = st
  · rw [s.setZone_same z st same]
  · have written : ZoneWorks z s (zoneWritten s z st) :=
      (Relation.ReflTransGen.single (.record _ _)).trans (zoneWritten_hands s z st).works
    rw [setZone_eq same]
    split
    · exact written
    · refine written.trans (foldl_works (fun x c own => (loseZone_chanMoves x c).works own) fun c hc => ?_)
      exact mem_ownFuels_iff.mp (List.mem_filter.mp hc).1

theorem flicker_works : ZoneWorks z s (s.flicker z) :=
  (Relation.ReflTransGen.single (.record _ _)).tail (.flicker _ _)

theorem passProof_works {c : Chan} (own : s.ownFuel z c = true) (f : FuelCfg) : ZoneWorks z s (s.passProof z c f) := by
  have running := (enterRunning_chanMoves s c f).works own
  have lights := running.trans ((issue_chanMoves _ c (.igniter false)).works ((ownFuel_of_config running.config z c).trans own))
  unfold State.passProof
  split
  · exact .refl
  dsimp only
  split
  · split
    · exact lights.trans (setZone_works _ z _)
    · exact lights
  · exact running

theorem passReleased_works : ZoneWorks z s (s.passReleased z) := by
  refine foldl_works (fun x c own => ?_) fun c hc => mem_ownFuels_iff.mp hc
  split
  · split
    · exact passProof_works x z own _
    · exact .refl
  · exact .refl

theorem judgeReady_works : ZoneWorks z s (s.judgeReady z) := by
  unfold State.judgeReady
  split
  · exact setZone_works _ z _
  · exact .refl

theorem adoptLit_works : ZoneWorks z s (s.adoptLit z) := by
  unfold State.adoptLit
  split
  · exact setZone_works _ z _
  · exact .refl

theorem flameGain_works : ZoneWorks z s (s.flameGain z) := by
  have marks : ZoneWorks z s (if (s.zone z).state = .lit then
      if (s.zone z).flameTimer.isSome then
        (s.mapZone z fun x => { x with flameTimer := none, flameLost := false }).flicker z
      else s.mapZone z fun x => { x with flameTimer := none, flameLost := false }
      else s) := by
    split
    · split
      · exact (Relation.ReflTransGen.single (.record _ _)).trans (flicker_works _ z)
      · exact .single (.record _ _)
    · exact .refl
  exact ((marks.trans (passReleased_works _ z)).trans (judgeReady_works _ z)).trans (adoptLit_works _ z)

theorem flameLoss_works : ZoneWorks z s (s.flameLoss z) := by
  unfold State.flameLoss
  split
  · split
    · exact setZone_works _ z _
    · exact .single (.record _ _)
  · exact .refl

theorem judgeView_works : ZoneWorks z s (s.judgeView z) := by
  unfold State.judgeView
  dsimp only
  split
  · have viewed : ZoneWorks z s (s.mapZone z fun r => { r with view := s.flameView z }) := .single (.record _ _)
    split
    · exact viewed
    split
    · exact viewed.trans (flameGain_works _ z)
    · exact viewed.trans (flameLoss_works _ z)
  · exact .refl

theorem judgeTests_works : ZoneWorks z s (s.judgeTests z) := by
  unfold State.judgeTests
  split
  · split
    · exact setZone_works _ z _
    · exact .refl
  · split
    · exact .refl
    · exact (setZone_works _ z _).tail (.hand (.cond _ _ _ _ (by simp [zoneIds])))
  · exact .refl
  · exact .refl
  · exact .refl

theorem judgeZone_works (b : State) : ZoneWorks z s (b.judgeZone s z) := by
  have viewed := judgeView_works s z
  unfold State.judgeZone
  dsimp only
  split
  · exact viewed.trans (judgeTests_works _ z)
  · exact (viewed.trans (judgeReady_works _ z)).trans (judgeTests_works _ z)

end

/-! ### The rest of what follows an event -/

section

variable (s b : State)

theorem refreshFrom_hands (z : Zone) : ZoneHands z s (b.refreshFrom s z) := by
  unfold State.refreshFrom State.refreshSupply
  split
  · exact .refl
  split
  · exact .single (.firing _ _)
  · exact .refl

theorem triggerFrom_hands (z : Zone) : ZoneHands z s (b.triggerFrom s z) := by
  unfold State.triggerFrom State.triggerPass State.startPass
  split
  · split
    · split
      · exact .single (.firing _ _)
      · exact .single (.firing _ _)
    · exact .refl
  · exact .refl

theorem publish_plant : s.publish.plant = s.plant := by
  unfold State.publish
  dsimp only
  split <;> split
  · exact (offerSnap_plant _).trans rfl
  · rfl
  · exact offerSnap_plant _
  · rfl

/-- The supervision of a fan: the clock of the channel, and what CR and AL hold of the fan. -/
theorem judgeFan_form (c : Chan) : ∃ l : Option Nat, (s.judgeFan c).chan c = { s.chan c with lowFlowClock := l } := by
  have blow : ∀ x : State, (x.judgeBlow c).chan c = x.chan c := fun x => by
    unfold State.judgeBlow State.clearBlow
    split
    · rfl
    split
    · split <;> rfl
    · exact setCond_chan _ _ _ _ c
  rw [State.judgeFan, blow]
  unfold State.judgeLowFlow
  split
  · exact ⟨_, rfl⟩
  dsimp only
  split
  · split
    · exact ⟨_, State.mapChan_chan_same _ _ _⟩
    · exact ⟨_, rfl⟩
  · exact ⟨_, State.mapChan_chan_same _ _ _⟩

theorem judgeFan_fuel {c : Chan} {f : FuelCfg} (hf : s.fuel? c = some f) : s.judgeFan c = s := by
  have none : s.fan? c = none := by rw [State.fan?, (fuel?_some hf).1]
  rw [State.judgeFan, State.judgeLowFlow, none]
  dsimp only
  rw [State.judgeBlow, none]

/-- What the supervision of a fan leaves. -/
theorem judgeFan_leaves {β : Type} (P : State → β) (c : Chan) (chan : ∀ x g, P (State.mapChan x c g) = P x)
    (reg : ∀ x g, P (State.mapReg x c g) = P x) (cond : ∀ x, P (State.setCond x (idBedLow c) false none) = P x) :
    P (s.judgeFan c) = P s := by
  have blow : ∀ x : State, P (x.judgeBlow c) = P x := fun x => by
    unfold State.judgeBlow State.clearBlow
    split
    · rfl
    split
    · split
      · exact reg _ _
      · rfl
    · exact (cond _).trans (reg _ _)
  rw [State.judgeFan, blow]
  unfold State.judgeLowFlow
  split
  · rfl
  dsimp only
  split
  · split
    · exact chan _ _
    · rfl
  · exact chan _ _

theorem pump_zs : s.pump.zs = s.zs := by
  unfold State.pump
  split
  · rfl
  split <;> rfl

theorem pump_al : s.pump.al = s.al := by
  unfold State.pump
  split
  · rfl
  split <;> rfl

/-- The transmitter starts the window of the command it sends, and leaves the rest of the channels. -/
theorem pump_chan_form (c : Chan) : ∃ w : InFlight → Option Nat, s.pump.chan c = { s.chan c with
    inFlight := (s.chan c).inFlight.map fun fl => { fl with window := w fl } } := by
  have same : ∀ ch : Channel, ch = { ch with inFlight := ch.inFlight.map fun fl => { fl with window := fl.window } } := by
    intro ch
    have kept : (ch.inFlight.map fun fl => { fl with window := fl.window }) = ch.inFlight := by cases ch.inFlight <;> rfl
    rw [kept]
  unfold State.pump
  split
  · exact ⟨fun fl => fl.window, same _⟩
  split
  · exact ⟨fun fl => fl.window, same _⟩
  rename_i r rest _
  by_cases h : c = r.chan
  · subst h
    refine ⟨fun fl => if fl.tag = r.tag then some (s.now + ms 200) else fl.window, ?_⟩
    rw [State.mapChan_chan_same]
    congr 2
    funext fl
    by_cases tag : fl.tag = r.tag <;> simp [tag]
  · exact ⟨fun fl => fl.window, (State.mapChan_chan_other _ _ (Ne.symm h)).trans (same _)⟩

end

/-! ### The event's effect on one zone -/

/-- Two states that agree in what the tests of a zone read and write, but for the conditions. -/
structure ZoneAlike (z : Zone) (s t : State) : Prop where
  zone : t.zone z = s.zone z
  around : surround t = surround s
  chan : ∀ c, s.ownFuel z c = true → t.chan c = s.chan c
  flicker : t.cond (idFlameUnstable z) = s.cond (idFlameUnstable z)

section

variable {z : Zone} {s t u : State}

theorem ZoneAlike.refl : ZoneAlike z s s := ⟨rfl, rfl, fun _ _ => rfl, rfl⟩

theorem ZoneAlike.config (a : ZoneAlike z s t) : t.config = s.config := congrArg Surround.config a.around

theorem ZoneAlike.own (a : ZoneAlike z s t) (c : Chan) : t.ownFuel z c = s.ownFuel z c := ownFuel_of_config a.config z c

theorem ZoneAlike.trans (a : ZoneAlike z s t) (b : ZoneAlike z t u) : ZoneAlike z s u :=
  ⟨b.zone.trans a.zone, b.around.trans a.around, fun c hc => (b.chan c ((a.own c).trans hc)).trans (a.chan c hc),
    b.flicker.trans a.flicker⟩

theorem ZoneAlike.foldl {α : Type} {op : State → α → State} (h : ∀ x a, ZoneAlike z x (op x a)) (l : List α) (s : State) :
    ZoneAlike z s (l.foldl op s) := by
  induction l generalizing s with
  | nil => exact .refl
  | cons a l ih => exact (h s a).trans (ih _)

theorem ownFuel_unique {y : Zone} {c : Chan} (hy : y ≠ z) (own : s.ownFuel z c = true) : s.ownFuel y c = false := by
  obtain ⟨f, hf, rfl⟩ := fuel?_of_own own
  rw [ownFuel_of_fuel hf, beq_eq_false_iff_ne]
  exact Ne.symm hy

/-- FLAME_UNSTABLE of a zone is no condition of another zone, of a change of state, or of a channel. -/
theorem flameUnstable_apart (z y : Zone) : idFlameUnstable z ∉ zoneIds y
    ∧ (y ≠ z → idFlameUnstable z ≠ idFlameUnstable y) ∧ ∀ c, idFlameUnstable z ∉ stateIds c := by
  revert z y
  decide

theorem ZoneWorks.cond_other (m : ZoneWorks z s t) {id : AlarmId} (zone : id ∉ zoneIds z) (flame : id ≠ idFlameUnstable z)
    (chan : ∀ c, id ∉ stateIds c) : t.cond id = s.cond id :=
  m.leaves (fun x => x.cond id) fun _ _ h => h.cond_other zone flame chan

/-- Work on another zone leaves this one. -/
theorem ZoneWorks.alike {y : Zone} (hy : y ≠ z) (m : ZoneWorks y s t) : ZoneAlike z s t :=
  have apart := flameUnstable_apart z y
  ⟨m.zone_other (Ne.symm hy), m.surround, fun _ hc => m.chan_other (ownFuel_unique hy hc),
    m.cond_other apart.1 (apart.2.1 hy) apart.2.2⟩

/-- What a zone's state hands on leaves the records of every zone, and the channels. -/
theorem ZoneHands.alike {y : Zone} (m : ZoneHands y s t) : ZoneAlike z s t := by
  refine ⟨congrArg (fun x : ZoneSupervisor => x.zones.get z) m.zs, m.works.surround,
    fun c _ => congrArg (fun x : ChannelEngine => x.chans.get c) m.ce, m.leaves (fun x => x.cond _) fun a b h => ?_⟩
  cases h with
  | cond id v x hid => exact setCond_cond_other _ (fun e : idFlameUnstable z = id => (flameUnstable_apart z y).1 (e ▸ hid)) _ _
  | _ => rfl

/-- An operation for each zone in turn, where that of another zone leaves this one. -/
theorem foldl_zones {op : State → Zone → State} (apart : ∀ x y, y ≠ z → ZoneAlike z x (op x y)) {l : List Zone}
    (distinct : l.Nodup) (mem : z ∈ l) (s : State) :
    ∃ t, ZoneAlike z s t ∧ ZoneAlike z (op t z) (l.foldl op s) := by
  induction l generalizing s with
  | nil => cases mem
  | cons y l ih =>
    obtain ⟨fresh, distinct⟩ := List.nodup_cons.mp distinct
    rcases List.mem_cons.mp mem with rfl | mem
    · refine ⟨s, .refl, ?_⟩
      have rest : ∀ (r : List Zone) (x : State), z ∉ r → ZoneAlike z x (r.foldl op x) := by
        intro r
        induction r with
        | nil => exact fun x _ => .refl
        | cons w r ih =>
          intro x out
          obtain ⟨ne, out⟩ := not_or.mp (mt List.mem_cons.mpr out)
          exact (apart x w (Ne.symm ne)).trans (ih _ out)
      exact rest l _ fresh
    · have ne : y ≠ z := fun e => fresh (e ▸ mem)
      obtain ⟨t, before, after⟩ := ih distinct mem (op s y)
      exact ⟨t, (apart s y ne).trans before, after⟩

theorem zone_of_plant (h : t.plant = s.plant) (z : Zone) : t.zone z = s.zone z := by
  rw [State.zone, zs_of_plant h, State.zone]

theorem judgeFan_alike (s : State) (c : Chan) : ZoneAlike z s (s.judgeFan c) := by
  refine ⟨judgeFan_leaves s (fun x => x.zone z) c (fun _ _ => rfl) (fun _ _ => rfl) fun x =>
      zone_of_plant (State.setCond_plant _ _ _ _) z,
    judgeFan_leaves s surround c (fun _ _ => rfl) (fun _ _ => rfl) fun x => setCond_surround _ _ _ _,
    fun d hd => ?_,
    judgeFan_leaves s (fun x => x.cond (idFlameUnstable z)) c (fun _ _ => rfl) (fun _ _ => rfl) fun x =>
      setCond_cond_other _ (by revert z c; decide) _ _⟩
  by_cases h : d = c
  · obtain ⟨f, hf, -⟩ := fuel?_of_own hd
    rw [← h, judgeFan_fuel s hf]
  · exact judgeFan_leaves s (fun x => x.chan d) c (fun x g => State.mapChan_chan_other _ _ (Ne.symm h)) (fun _ _ => rfl)
      fun x => setCond_chan _ _ _ _ d

theorem publish_alike (s : State) : ZoneAlike z s s.publish := by
  have plant := publish_plant s
  have conds : s.publish.conds = s.conds := by
    unfold State.publish
    dsimp only
    split <;> split
    · exact (State.offer_conds _ _ _ _ _).trans rfl
    · rfl
    · exact (State.offer_conds _ _ _ _ _).trans rfl
    · rfl
  exact ⟨zone_of_plant plant z, surround_of_plant plant, fun c _ => chan_of_plant plant c, State.cond_of_conds conds _⟩

/-- What follows an event makes of a zone what its tests make of it, and starts windows in its channels. -/
theorem finish_zone (on : u.configured = true) (b : State) (z : Zone) : ∃ t, ZoneAlike z u t
    ∧ (finish b u).zone z = (b.judgeZone t z).zone z
    ∧ (finish b u).cond (idFlameUnstable z) = (b.judgeZone t z).cond (idFlameUnstable z)
    ∧ ∀ c, u.ownFuel z c = true → ∃ w : InFlight → Option Nat, (finish b u).chan c = { (b.judgeZone t z).chan c with
        inFlight := ((b.judgeZone t z).chan c).inFlight.map fun fl => { fl with window := w fl } } := by
  have refreshed : ZoneAlike z u (allZones.foldl b.refreshFrom u) :=
    .foldl (fun x y => (refreshFrom_hands x b y).alike) _ _
  have watched := refreshed.trans (ZoneAlike.foldl (fun x c => judgeFan_alike x c) allChans _)
  obtain ⟨t, before, after⟩ := foldl_zones (z := z) (fun x y hy => (judgeZone_works x y b).alike hy)
    (by decide) (mem_allZones z)
    (allChans.foldl State.judgeFan (allZones.foldl b.refreshFrom u))
  have rest := (after.trans (ZoneAlike.foldl (fun x y => (triggerFrom_hands x b y).alike) allZones _)).trans
    (publish_alike _)
  have alike := watched.trans before
  have made : finish b u = (State.publish (allZones.foldl b.triggerFrom (allZones.foldl b.judgeZone
      (allChans.foldl State.judgeFan (allZones.foldl b.refreshFrom u))))).pump := if_pos on
  refine ⟨t, alike, ?_, ?_, fun c hc => ?_⟩
  · rw [made, State.zone, pump_zs]
    exact rest.zone
  · rw [made, State.cond, State.alarm, pump_al]
    exact rest.flicker
  · rw [made]
    obtain ⟨w, hw⟩ := pump_chan_form (State.publish (allZones.foldl b.triggerFrom (allZones.foldl b.judgeZone
      (allChans.foldl State.judgeFan (allZones.foldl b.refreshFrom u))))) c
    have own : (b.judgeZone t z).ownFuel z c = true :=
      (ownFuel_of_config (judgeZone_works t z b).config z c).trans ((alike.own c).trans hc)
    rw [rest.chan c own] at hw
    exact ⟨w, hw⟩

end

end Sys2Proof.Proofs
end

section
/-! PROOF. ESD_N, and the channels that what follows an event leaves (O30, O35; 04 section 4.5, log 8). -/

namespace Sys2Proof.Proofs
open Sys2Proof.Machine

/-! ### A zone that the tests leave (04 R68 to R76) -/

section

variable {s : State} {z : Zone} {c : Chan}

/-- A proof that passes writes the zone's record in READY alone. -/
theorem passProof_calm (h : (s.zone z).state ≠ .ready) (c : Chan) (f : FuelCfg) : ChanMoves c s (s.passProof z c f) := by
  unfold State.passProof
  split
  · exact .refl
  dsimp only
  split
  · rw [if_neg (by rw [(issue_chanMoves _ c _).zone, (enterRunning_chanMoves s c f).zone]; exact h)]
    exact (enterRunning_chanMoves s c f).trans (issue_chanMoves _ c _)
  · exact enterRunning_chanMoves s c f

theorem passProof_zone_idle (h : (s.zone z).state ≠ .ready) (c : Chan) (f : FuelCfg) :
    (s.passProof z c f).zone z = s.zone z := (passProof_calm h c f).zone z

theorem foldl_zone_kept {α : Type} {op : State → α → State}
    (h : ∀ x a, (x.zone z).state ≠ .ready → (op x a).zone z = x.zone z) (l : List α) (s : State)
    (hs : (s.zone z).state ≠ .ready) : (l.foldl op s).zone z = s.zone z := by
  induction l generalizing s with
  | nil => rfl
  | cons a l ih =>
    have same := h s a hs
    exact (ih _ (by rw [same]; exact hs)).trans same

theorem passReleased_zone_idle (h : (s.zone z).state ≠ .ready) : (s.passReleased z).zone z = s.zone z := by
  refine foldl_zone_kept (fun x c hx => ?_) _ _ h
  split
  · split
    · exact passProof_zone_idle hx _ _
    · rfl
  · rfl

theorem judgeReady_idle (h : (s.zone z).state ≠ .ready) : s.judgeReady z = s := if_neg fun e => h e.1

theorem adoptLit_idle (h : (s.zone z).state ≠ .dark ∨ s.esd = true) : s.adoptLit z = s :=
  if_neg fun e => h.elim (fun ne => ne e.1) fun esd => by simp [esd] at e

theorem judgeTests_idle (lit : (s.zone z).state ≠ .lit) (purging : (s.zone z).state ≠ .purging) : s.judgeTests z = s := by
  unfold State.judgeTests
  cases h : (s.zone z).state with
  | lit => exact absurd h lit
  | purging => exact absurd h purging
  | dark => rfl
  | ready => rfl
  | tripped => rfl

/-- A TRIPPED zone, and a DARK one under ESD_N, rest. -/
def Rests (s : State) (z : Zone) : Prop := (s.zone z).state = .tripped ∨ ((s.zone z).state = .dark ∧ s.esd = true)

theorem Rests.calm (h : Rests s z) : (s.zone z).state ≠ .ready ∧ (s.zone z).state ≠ .lit ∧ (s.zone z).state ≠ .purging := by
  rcases h with h | ⟨h, -⟩ <;> rw [h] <;> decide

theorem Rests.shut (h : Rests s z) : (s.zone z).state ≠ .dark ∨ s.esd = true := by
  rcases h with h | ⟨-, h⟩
  · exact .inl (by rw [h]; decide)
  · exact .inr h

/-- The state of the zone and the pin are all that rest reads. -/
theorem Rests.of_eq {t : State} (h : Rests s z) (state : (t.zone z).state = (s.zone z).state) (esd : t.esd = s.esd) :
    Rests t z := by
  rw [Rests, state, esd]
  exact h

theorem judgeView_rests (h : Rests s z) : ((s.judgeView z).zone z).state = (s.zone z).state := by
  unfold State.judgeView
  dsimp only
  split
  case isFalse => rfl
  have viewed : ((s.mapZone z fun r => { r with view := s.flameView z }).zone z).state = (s.zone z).state := by
    rw [State.mapZone_zone_same]
  obtain ⟨ready, lit, -⟩ := (h.of_eq viewed rfl).calm
  split
  · exact viewed
  split
  · unfold State.flameGain
    dsimp only
    rw [if_neg lit]
    have passed := passReleased_zone_idle ready
    have esd := congrArg Surround.esd
      (passReleased_works (s.mapZone z fun r => { r with view := s.flameView z }) z).surround
    have rests := (h.of_eq viewed rfl).of_eq (congrArg ZoneRec.state passed) esd
    rw [judgeReady_idle rests.calm.1, adoptLit_idle rests.shut, passed]
    exact viewed
  · rw [State.flameLoss, if_neg lit]
    exact viewed

/-- A zone that rests stays in its state. -/
theorem judgeZone_rests (h : Rests s z) (b : State) : ((b.judgeZone s z).zone z).state = (s.zone z).state := by
  have viewed := judgeView_rests h
  have rests := h.of_eq viewed (congrArg Surround.esd (judgeView_works s z).surround)
  obtain ⟨ready, lit, purging⟩ := rests.calm
  have tests : b.judgeZone s z = s.judgeView z := by
    unfold State.judgeZone
    dsimp only
    rw [judgeReady_idle ready, ite_self, judgeTests_idle lit purging]
  rw [tests]
  exact viewed

/-- What follows an event leaves a zone that rests in its state. -/
theorem finish_rests (h : Rests s z) (b : State) : ((finish b s).zone z).state = (s.zone z).state := by
  cases on : s.configured with
  | false => rw [show finish b s = s from if_neg (by simp [on])]
  | true =>
    obtain ⟨t, alike, zone, -, -⟩ := finish_zone on b z
    have state : (t.zone z).state = (s.zone z).state := congrArg ZoneRec.state alike.zone
    rw [zone, judgeZone_rests (h.of_eq state (congrArg Surround.esd alike.around)), state]

end

/-! ### The trips of ESD_N (04 R78) -/

section

variable {s : State} {z : Zone}

theorem tripSteps_works (s : State) (z : Zone) (e : CauseEntry) : ZoneWorks z s (s.tripSteps z e) := by
  have taken : ZoneWorks z s (snapTaken s z e) := .single (.record _ _)
  rw [tripSteps_eq]
  refine (taken.trans (foldl_works (fun x c own => (tripChannel_chanMoves x c _).works own) fun c hc => ?_)).tail
    (.record _ _)
  exact mem_ownFuels_iff.mp hc

theorem flameUnstable_ne_degraded (z : Zone) : idFlameUnstable z ≠ idLineDegraded := by
  revert z
  decide

theorem offerTrip_alike (s : State) (m : TripMsg) (z : Zone) : ZoneAlike z s (s.offerTrip m) := by
  have ce := offerTrip_ce s m
  have cond : (s.offerTrip m).cond (idFlameUnstable z) = s.cond (idFlameUnstable z) := by
    have offered := State.cond_of_conds (State.offer_conds s .trip m.words 0 0) (idFlameUnstable z)
    unfold State.offerTrip
    dsimp only
    split
    · rw [setCond_cond_other _ (flameUnstable_ne_degraded z), offered]
    · exact offered
  obtain ⟨d, ts, l, h⟩ := s.offerTrip_plant m
  have around : surround (s.offerTrip m) = surround s := by
    change surround (s.offerTrip m).plant = surround s.plant
    rw [h]
    rfl
  exact ⟨offerTrip_zone s m z, around, fun c _ => by rw [State.chan, ce, State.chan], cond⟩

theorem localTrip_alike {y : Zone} (hy : y ≠ z) (s : State) (cause : ZoneCause) (ch : Option Chan) (v : Option Nat) :
    ZoneAlike z s (s.localTrip y cause ch v) := by
  have counted : ∀ x : State, ZoneAlike z x x.countZoneTrip := fun x => ⟨rfl, rfl, fun _ _ => rfl, rfl⟩
  rw [localTrip_eq]
  exact ((((tripSteps_works s y _).alike hy).trans (offerTrip_alike _ _ z)).trans ((setZone_works _ y _).alike hy)).trans
    (counted _)

theorem localTrip_surround (s : State) (cause : ZoneCause) (ch : Option Chan) (v : Option Nat) :
    surround (s.localTrip z cause ch v) = surround s := by
  have counted : ∀ x : State, surround x.countZoneTrip = surround x := fun _ => rfl
  rw [localTrip_eq, counted]
  exact ((setZone_works _ z _).surround.trans (offerTrip_alike _ _ z).around).trans (tripSteps_works s z _).surround

theorem esdTrip_alike {y : Zone} (hy : y ≠ z) (s : State) : ZoneAlike z s (esdTrip s y) := by
  unfold esdTrip
  split
  · exact localTrip_alike hy s _ _ _
  · exact .refl

/-- The zones after an assertion of ESD_N. -/
def esdTripped (s : State) : State := allZones.foldl esdTrip { s with esd := true }

theorem exec_esdAssertion (off : s.esd = false) (decides : s.decides = true) :
    exec .esdAssertion s = .next (finish s (esdTripped s)) := by
  change execEsdAssertion s = _
  unfold execEsdAssertion
  rw [if_neg (by simp [off])]
  dsimp only
  rw [if_pos decides]
  rfl

/-- Whether ESD_N trips a zone. -/
def esdReaches (s : State) (z : Zone) : Bool := s.participates z && (s.zone z).state.trippable

theorem esdTrip_reached (h : esdReaches s z = true) : esdTrip s z = s.localTrip z .tripInput none none := if_pos h
theorem esdTrip_unreached (h : esdReaches s z = false) : esdTrip s z = s := if_neg (by simpa [esdReaches] using h)

theorem ZoneAlike.reaches {t : State} (a : ZoneAlike z s t) : esdReaches t z = esdReaches s z := by
  rw [esdReaches, participates_of_config a.config, a.zone, esdReaches]

theorem esdTrip_counted (s : State) (y : Zone) (h : s.sr.zoneTrips ≤ 65535) :
    (esdTrip s y).sr.zoneTrips = min (s.sr.zoneTrips + (if esdReaches s y then 1 else 0)) 65535 := by
  cases reached : esdReaches s y with
  | true => rw [esdTrip_reached reached, localTrip_counted, if_pos rfl]
  | false => rw [esdTrip_unreached reached, if_neg (by decide), Nat.add_zero, min_eq_left h]

/-- One trip is counted for each zone that ESD_N trips. -/
theorem foldl_esdTrip_counted {l : List Zone} (distinct : l.Nodup) (s : State) (h : s.sr.zoneTrips ≤ 65535) :
    (l.foldl esdTrip s).sr.zoneTrips = min (s.sr.zoneTrips + l.countP (esdReaches s)) 65535 := by
  induction l generalizing s with
  | nil => exact (min_eq_left h).symm
  | cons y l ih =>
    obtain ⟨fresh, distinct⟩ := List.nodup_cons.mp distinct
    have count := esdTrip_counted s y h
    have rest : l.countP (esdReaches (esdTrip s y)) = l.countP (esdReaches s) :=
      List.countP_congr fun z hz => by
        have ne : y ≠ z := fun e => fresh (by rw [e]; exact hz)
        rw [(esdTrip_alike ne s).reaches]
    rw [List.foldl_cons, ih distinct _ (by rw [count]; exact min_le_right _ _), rest, count, List.countP_cons]
    generalize s.sr.zoneTrips = n, l.countP (esdReaches s) = k, (if esdReaches s y then 1 else 0) = b
    omega

/-- What the trips of ESD_N make of one zone: a trip of it, if they reach it. -/
theorem esdTripped_zone (s : State) (z : Zone) : ∃ t, ZoneAlike z { s with esd := true } t
    ∧ ZoneAlike z (esdTrip t z) (esdTripped s) :=
  foldl_zones (fun x _ hy => esdTrip_alike hy x) (by decide) (mem_allZones z) _

theorem esdTripped_esd (s : State) : (esdTripped s).esd = true := by
  obtain ⟨t, before, after⟩ := esdTripped_zone s 0
  have tripped : surround (esdTrip t 0) = surround t := by
    unfold esdTrip
    split
    · exact localTrip_surround t _ _ _
    · rfl
  exact congrArg Surround.esd ((after.around.trans tripped).trans before.around)

theorem esdTripped_unreached (h : esdReaches s z = false) : (esdTripped s).zone z = s.zone z := by
  obtain ⟨t, before, after⟩ := esdTripped_zone s z
  rw [after.zone, esdTrip_unreached (before.reaches.trans h)]
  exact before.zone

/-- The zone's record after the trip of ESD_N. -/
theorem esdTripped_reached (h : esdReaches s z = true) : ((esdTripped s).zone z).state = .tripped
    ∧ ((esdTripped s).zone z).epoch = some (nextEpoch (s.zone z).epoch)
    ∧ ((esdTripped s).zone z).tripHold = .running (s.now + 250000 * s.zoneParam z ZoneCfg.tripHold)
    ∧ ((esdTripped s).zone z).firstOut = some (addCause (s.zone z).firstOut
        ⟨.tripInput, s.ownStation, none, none, s.stamp, nextEpoch (s.zone z).epoch, none⟩) := by
  obtain ⟨t, before, after⟩ := esdTripped_zone s z
  have reached := before.reaches.trans h
  rw [esdTrip_reached reached] at after
  have zone : t.zone z = s.zone z := before.zone
  have stamp : t.stamp = s.stamp := congrArg Surround.stamp before.around
  have now : t.now = s.now := congrArg Surround.now before.around
  have own : t.ownStation = s.ownStation := by rw [State.ownStation, before.config]; rfl
  have param : t.zoneParam z ZoneCfg.tripHold = s.zoneParam z ZoneCfg.tripHold := by
    rw [State.zoneParam, State.zoneCfg?, before.config]; rfl
  have entry : localEntry t z .tripInput none none
      = ⟨.tripInput, s.ownStation, none, none, s.stamp, nextEpoch (s.zone z).epoch, none⟩ := by
    rw [← own, ← stamp, ← zone]
    rfl
  obtain ⟨made, -, -, -, -⟩ := localTrip_made (s := t) (z := z)
    (live_of_trippable (Bool.and_eq_true_iff.mp reached).2) .tripInput none none
  obtain ⟨state, epoch, hold, firstOut, -⟩ := trippedZone_fields t z (localEntry t z .tripInput none none)
  rw [after.zone, made, state, epoch, hold, firstOut, now, param, zone, entry]
  exact ⟨rfl, rfl, rfl, rfl⟩

theorem esdTripped_shut (h : esdReaches s z = true) {c : Chan} (own : s.ownFuel z c = true) :
    ((esdTripped s).chan c).shutReleased = false := by
  obtain ⟨t, before, after⟩ := esdTripped_zone s z
  have reached := before.reaches.trans h
  rw [esdTrip_reached reached] at after
  have tOwn : t.ownFuel z c = true := (before.own c).trans own
  have made := localTrip_made (live_of_trippable (Bool.and_eq_true_iff.mp reached).2) .tripInput none none
  have config := localTrip_config t z .tripInput none none
  generalize t.localTrip z .tripInput none none = u at *
  rw [after.chan c ((ownFuel_of_config config z c).trans tOwn)]
  exact made.shut c tOwn

end

/-- Settles O35: a zone that ESD_N trips is left by the trips of the others, and what follows leaves it TRIPPED. -/
theorem esdTrips : Obligations.EsdTrips := by
  refine ⟨fun s off decides => ⟨_, exec_esdAssertion off decides, ?_⟩, fun s off no => ?_, fun s on => ?_, fun s => rfl⟩
  · have esd := esdTripped_esd s
    refine ⟨esd, (congrArg State.esd (finish_still (esdTripped s) s)).trans esd, fun z out => ?_,
      fun z part => ⟨fun still => ?_, fun live => ?_, fun bound => foldl_esdTrip_counted (by decide) _ bound⟩⟩
    · exact esdTripped_unreached (by rw [esdReaches, out, Bool.false_and])
    · have zone := esdTripped_unreached (z := z) (by rw [esdReaches, still, Bool.and_false])
      have rests : Rests (esdTripped s) z := by
        rw [Rests, zone]
        cases h : (s.zone z).state with
        | dark => exact .inr ⟨rfl, esd⟩
        | tripped => exact .inl rfl
        | purging => rw [h] at still; cases still
        | ready => rw [h] at still; cases still
        | lit => rw [h] at still; cases still
      exact ⟨zone, (finish_rests rests s).trans (congrArg ZoneRec.state zone)⟩
    · have reached : esdReaches s z = true := by rw [esdReaches, part, live]; rfl
      obtain ⟨state, epoch, hold, firstOut⟩ := esdTripped_reached reached
      rw [epoch, hold, firstOut]
      refine ⟨state, (finish_rests (.inl state) s).trans state, rfl, rfl, fun clear => ⟨_, rfl, ?_⟩,
        fun c own => esdTripped_shut reached own⟩
      rw [clear]
      rfl
  · change execEsdAssertion s = _
    unfold execEsdAssertion
    rw [if_neg (by simp [off])]
    dsimp only
    rw [if_neg (by simp [no])]
  · change execEsdAssertion s = _
    exact congrArg _ (if_pos on)

end Sys2Proof.Proofs
end

section
/-! PROOF. What follows an event leaves a shut channel that is in no proof (O30, log 8). -/

namespace Sys2Proof.Proofs
open Sys2Proof.Machine

/-- A channel that is shut, not PROVING, and in no proof. -/
def Dry (ch : Channel) : Prop := fuelled ch = false ∧ ch.proof = none

/-- A change leaves a channel that is dry before it. -/
def DryKept (c : Chan) (s t : State) : Prop := Dry (s.chan c) → t.chan c = s.chan c

section

variable {c : Chan} {s t u : State}

theorem DryKept.refl : DryKept c s s := fun _ => rfl

theorem DryKept.trans (h : DryKept c s t) (k : DryKept c t u) : DryKept c s u := fun dry =>
  (k (by rw [h dry]; exact dry)).trans (h dry)

theorem DryKept.foldl {α : Type} {op : State → α → State} (h : ∀ x a, DryKept c x (op x a)) (l : List α) (s : State) :
    DryKept c s (l.foldl op s) := by
  induction l generalizing s with
  | nil => exact .refl
  | cons a l ih => exact (h s a).trans (ih _)

/-! ### The tests of a zone (04 R65 to R76) -/

variable (s) (z : Zone)

theorem setZone_dryKept (st : ZoneState) : DryKept c s (s.setZone z st) := fun dry => setZone_chan_dry dry.1

theorem passProof_dryKept (d : Chan) (f : FuelCfg) : DryKept c s (s.passProof z d f) := fun dry => by
  by_cases h : c = d
  · subst h
    unfold State.passProof
    rw [dry.2]
  have running := (enterRunning_chanMoves s d f).chan_other h
  have lights := ((issue_chanMoves _ d (.igniter false)).chan_other h).trans running
  unfold State.passProof
  split
  · rfl
  dsimp only
  split
  · split
    · rw [State.chan, setZone_ce_fires rfl]
      exact lights
    · exact lights
  · exact running

theorem passReleased_dryKept : DryKept c s (s.passReleased z) := by
  refine .foldl (fun x d => ?_) _ _
  split
  · split
    · exact passProof_dryKept x z d _
    · exact .refl
  · exact .refl

theorem judgeReady_dryKept : DryKept c s (s.judgeReady z) := by
  unfold State.judgeReady
  split
  · exact setZone_dryKept s z _
  · exact .refl

theorem adoptLit_dryKept : DryKept c s (s.adoptLit z) := by
  unfold State.adoptLit
  split
  · exact setZone_dryKept s z _
  · exact .refl

theorem flameGain_dryKept : DryKept c s (s.flameGain z) := by
  have marks : DryKept c s (if (s.zone z).state = .lit then
      if (s.zone z).flameTimer.isSome then
        (s.mapZone z fun x => { x with flameTimer := none, flameLost := false }).flicker z
      else s.mapZone z fun x => { x with flameTimer := none, flameLost := false }
      else s) := by
    split
    · split
      · exact fun _ => setCond_chan _ _ _ _ c
      · exact fun _ => rfl
    · exact .refl
  exact ((marks.trans (passReleased_dryKept _ z)).trans (judgeReady_dryKept _ z)).trans (adoptLit_dryKept _ z)

theorem flameLoss_dryKept : DryKept c s (s.flameLoss z) := by
  unfold State.flameLoss
  split
  · split
    · exact setZone_dryKept s z _
    · exact fun _ => rfl
  · exact .refl

theorem judgeView_dryKept : DryKept c s (s.judgeView z) := by
  have viewed : DryKept c s (s.mapZone z fun r => { r with view := s.flameView z }) := fun _ => rfl
  unfold State.judgeView
  dsimp only
  split
  · split
    · exact viewed
    split
    · exact viewed.trans (flameGain_dryKept _ z)
    · exact viewed.trans (flameLoss_dryKept _ z)
  · exact .refl

theorem judgeTests_dryKept : DryKept c s (s.judgeTests z) := by
  unfold State.judgeTests
  split
  · split
    · exact setZone_dryKept s z _
    · exact .refl
  · split
    · exact .refl
    · exact (setZone_dryKept s z _).trans fun _ => setCond_chan _ _ _ _ c
  · exact .refl
  · exact .refl
  · exact .refl

theorem judgeZone_dryKept (b : State) : DryKept c s (b.judgeZone s z) := by
  unfold State.judgeZone
  dsimp only
  split
  · exact (judgeView_dryKept s z).trans (judgeTests_dryKept _ z)
  · exact ((judgeView_dryKept s z).trans (judgeReady_dryKept _ z)).trans (judgeTests_dryKept _ z)

end

/-! ### What follows an event -/

theorem refreshFrom_chan (b s : State) (z : Zone) (c : Chan) : (b.refreshFrom s z).chan c = s.chan c :=
  congrArg (fun x : ChannelEngine => x.chans.get c) (refreshFrom_hands s b z).ce

theorem triggerFrom_chan (b s : State) (z : Zone) (c : Chan) : (b.triggerFrom s z).chan c = s.chan c :=
  congrArg (fun x : ChannelEngine => x.chans.get c) (triggerFrom_hands s b z).ce

/-- The supervision of the fans writes no more of a channel than its low-flow clock. -/
theorem judgeFans_chan_form (l : List Chan) (s : State) (c : Chan) : ∃ x : Option Nat,
    (l.foldl State.judgeFan s).chan c = { s.chan c with lowFlowClock := x } := by
  induction l generalizing s with
  | nil => exact ⟨(s.chan c).lowFlowClock, rfl⟩
  | cons d l ih =>
    have step : ∃ x : Option Nat, (s.judgeFan d).chan c = { s.chan c with lowFlowClock := x } := by
      by_cases h : c = d
      · rw [h]
        exact judgeFan_form s d
      · exact ⟨(s.chan c).lowFlowClock, judgeFan_leaves s (fun x => x.chan c) d
          (fun x g => State.mapChan_chan_other _ _ (Ne.symm h)) (fun _ _ => rfl) fun x => setCond_chan _ _ _ _ c⟩
    obtain ⟨x, hx⟩ := step
    obtain ⟨y, hy⟩ := ih (s.judgeFan d)
    exact ⟨y, by rw [List.foldl_cons, hy, hx]⟩

/-- Settles O30: the supplies, the fans, the zones and the passes each leave a dry channel, and the transmitter starts
windows. -/
theorem shutChannelsStay : Obligations.ShutChannelsStay := by
  intro s u c shut proving proof
  cases on : u.configured with
  | false =>
    have kept : ((u.chan c).inFlight.map fun fl => { fl with window := fl.window }) = (u.chan c).inFlight := by
      cases (u.chan c).inFlight <;> rfl
    exact ⟨fun fl => fl.window, (u.chan c).lowFlowClock, by
      rw [show finish s u = u from if_neg (by simp [on]), kept]⟩
  | true =>
    have refreshed := foldl_leaves (fun x => x.chan c) (s.refreshFrom) (fun x z => refreshFrom_chan s x z c) allZones u
    obtain ⟨l, watched⟩ := judgeFans_chan_form allChans (allZones.foldl s.refreshFrom u) c
    rw [refreshed] at watched
    have dry : Dry ((allChans.foldl State.judgeFan (allZones.foldl s.refreshFrom u)).chan c) := by
      rw [watched]
      exact ⟨by simp [fuelled, shut, proving], proof⟩
    have judged := DryKept.foldl (fun x z => judgeZone_dryKept x z s) allZones _ dry
    have triggered := foldl_leaves (fun x => x.chan c) (s.triggerFrom) (fun x z => triggerFrom_chan s x z c) allZones
      (allZones.foldl s.judgeZone (allChans.foldl State.judgeFan (allZones.foldl s.refreshFrom u)))
    have made : finish s u = (State.publish (allZones.foldl s.triggerFrom (allZones.foldl s.judgeZone
        (allChans.foldl State.judgeFan (allZones.foldl s.refreshFrom u))))).pump := if_pos on
    obtain ⟨w, pumped⟩ := pump_chan_form (State.publish (allZones.foldl s.triggerFrom (allZones.foldl s.judgeZone
      (allChans.foldl State.judgeFan (allZones.foldl s.refreshFrom u))))) c
    refine ⟨w, l, ?_⟩
    rw [made, pumped, chan_of_plant (publish_plant _) c, triggered, judged, watched]

end Sys2Proof.Proofs
end

section
/-! PROOF. The flame view: its samples, its timers and its flickers (O34; 04 sections 4.1 to 4.4). -/

namespace Sys2Proof.Proofs
open Sys2Proof.Machine

/-! ### What the tests of a zone read -/

section

variable {s t : State} {z : Zone}

theorem peer_of_surround (h : surround t = surround s) (n : Station) : t.peer n = s.peer n :=
  congrArg (fun x : Surround => x.peers.get _) h

theorem decides_of_surround (h : surround t = surround s) : t.decides = s.decides :=
  congrArg (fun x : Surround => x.mode == .normal || x.mode == .isolated) h

theorem flameView_of_surround (h : surround t = surround s) (z : Zone) : t.flameView z = s.flameView z := by
  have flames : t.ce.flames = s.ce.flames := congrArg Surround.flames h
  have config : t.config = s.config := congrArg Surround.config h
  simp only [State.flameView, State.hasScanner, flames, config, peer_of_surround h]

theorem peerReports_of_surround (h : surround t = surround s) (z : Zone) (st : ZoneState) :
    t.peerReports z st = s.peerReports z st := by
  simp only [State.peerReports, peer_of_surround h]

theorem ownFuels_of_config (h : t.config = s.config) (z : Zone) : t.ownFuels z = s.ownFuels z := by
  unfold State.ownFuels
  exact List.filter_congr fun c _ => ownFuel_of_config h z c

theorem ZoneAlike.any_own (a : ZoneAlike z s t) (p : Channel → Bool) :
    (t.ownFuels z).any (fun c => p (t.chan c)) = (s.ownFuels z).any fun c => p (s.chan c) := by
  have chans : (s.ownFuels z).map t.chan = (s.ownFuels z).map s.chan :=
    List.map_congr_left fun c hc => a.chan c (mem_ownFuels_iff.mp hc)
  rw [ownFuels_of_config a.config]
  exact (List.any_map (f := t.chan) (p := p)).symm.trans ((congrArg (List.any · p) chans).trans List.any_map)

theorem ZoneAlike.fuelClosed (a : ZoneAlike z s t) : t.fuelClosed z = s.fuelClosed z := by
  simp only [State.fuelClosed, State.ownFuelOpen, a.any_own fun ch => ch.shutReleased, peer_of_surround a.around]

theorem ZoneAlike.zoneRuns (a : ZoneAlike z s t) : t.zoneRuns z = s.zoneRuns z := by
  simp only [State.zoneRuns, a.any_own fun ch => ch.state == .running || ch.state == .limited, peer_of_surround a.around]

end

/-! ### The view stays as it was judged (04 R65) -/

section

variable {s : State} {z : Zone}

theorem setZone_view (st : ZoneState) : ((s.setZone z st).zone z).view = (s.zone z).view := by
  by_cases same : (s.zone z).state = st
  · rw [s.setZone_same z st same]
  · rw [setZone_zone_same same]
    rfl

theorem passProof_view (c : Chan) (f : FuelCfg) : ((s.passProof z c f).zone z).view = (s.zone z).view := by
  by_cases ready : (s.zone z).state = .ready
  · have running := (enterRunning_chanMoves s c f).zone z
    have lights := ((issue_chanMoves _ c (.igniter false)).zone z).trans running
    unfold State.passProof
    split
    · rfl
    dsimp only
    split
    · split
      · rw [setZone_view, lights]
      · rw [lights]
    · rw [running]
  · rw [passProof_zone_idle ready]

theorem judgeReady_view : ((s.judgeReady z).zone z).view = (s.zone z).view := by
  unfold State.judgeReady
  split
  · exact setZone_view _
  · rfl

theorem adoptLit_view : ((s.adoptLit z).zone z).view = (s.zone z).view := by
  unfold State.adoptLit
  split
  · exact setZone_view _
  · rfl

theorem judgeTests_view : ((s.judgeTests z).zone z).view = (s.zone z).view := by
  unfold State.judgeTests
  split
  · split
    · exact setZone_view _
    · rfl
  · split
    · rfl
    · rw [zone_of_plant (State.setCond_plant _ _ _ _) z]
      exact setZone_view _
  · rfl
  · rfl
  · rfl

/-! ### The igniter proofs that await the flame (04 R71) -/

/-- A channel in an igniter proof with its SHUT line released. -/
def AwaitsFlame (ch : Channel) : Prop := ∃ p, ch.proof = some p ∧ p.igniter = true ∧ p.released = true

/-- The pass of one channel's igniter proof. -/
def passOne (z : Zone) (s : State) (c : Chan) : State :=
  match s.fuel? c, (s.chan c).proof with
  | some f, some p => if p.igniter && p.released then s.passProof z c f else s
  | _, _ => s

variable {c : Chan}

theorem passOne_passes {f : FuelCfg} (hf : s.fuel? c = some f) (h : AwaitsFlame (s.chan c)) :
    passOne z s c = s.passProof z c f := by
  obtain ⟨p, proof, igniter, released⟩ := h
  unfold passOne
  rw [hf, proof]
  exact if_pos (by rw [igniter, released]; rfl)

theorem passOne_idle (h : ¬ AwaitsFlame (s.chan c)) : passOne z s c = s := by
  unfold passOne
  split
  · rename_i p _ proof
    exact if_neg fun e => h ⟨p, proof, Bool.and_eq_true_iff.mp e⟩
  · rfl

theorem passOne_cases (z : Zone) (s : State) (c : Chan) : passOne z s c = s ∨ ∃ f, passOne z s c = s.passProof z c f := by
  unfold passOne
  split
  · split
    · exact .inr ⟨_, rfl⟩
    · exact .inl rfl
  · exact .inl rfl

theorem passProof_chan_other (f : FuelCfg) {d : Chan} (h : d ≠ c) : (s.passProof z c f).chan d = s.chan d := by
  have running := (enterRunning_chanMoves s c f).chan_other h
  have lights := ((issue_chanMoves _ c (.igniter false)).chan_other h).trans running
  unfold State.passProof
  split
  · rfl
  dsimp only
  split
  · split
    · rw [State.chan, setZone_ce_fires rfl]
      exact lights
    · exact lights
  · exact running

theorem passOne_chan_other {d : Chan} (h : d ≠ c) : (passOne z s c).chan d = s.chan d := by
  rcases passOne_cases z s c with e | ⟨f, e⟩ <;> rw [e]
  exact passProof_chan_other f h

theorem passOne_view : ((passOne z s c).zone z).view = (s.zone z).view := by
  rcases passOne_cases z s c with e | ⟨f, e⟩ <;> rw [e]
  exact passProof_view c f

theorem passReleased_view : ((s.passReleased z).zone z).view = (s.zone z).view :=
  foldl_leaves (fun x => (x.zone z).view) (passOne z) (fun _ _ => passOne_view) _ s

theorem passOne_works (own : s.ownFuel z c = true) : ZoneWorks z s (passOne z s c) := by
  rcases passOne_cases z s c with e | ⟨f, e⟩ <;> rw [e]
  exact passProof_works s z own f

/-- A zone in LIT stays in it as a proof passes. -/
theorem passOne_lit (h : (s.zone z).state = .lit) : ((passOne z s c).zone z).state = .lit := by
  rcases passOne_cases z s c with e | ⟨f, e⟩ <;> rw [e]
  · exact h
  · rw [passProof_zone_idle (by rw [h]; decide)]
    exact h

theorem foldl_passOne_idle {l : List Chan} (h : ∀ d ∈ l, ¬ AwaitsFlame (s.chan d)) : l.foldl (passOne z) s = s := by
  induction l with
  | nil => rfl
  | cons d l ih =>
    rw [List.foldl_cons, passOne_idle (h d List.mem_cons_self)]
    exact ih fun e he => h e (List.mem_cons_of_mem _ he)

/-- Without such a proof nothing passes. -/
theorem passReleased_idle (h : ∀ d, s.ownFuel z d = true → ¬ AwaitsFlame (s.chan d)) : s.passReleased z = s :=
  foldl_passOne_idle fun d hd => h d (mem_ownFuels_iff.mp hd)

/-- One such proof makes a READY zone LIT. -/
theorem foldl_passOne_lit {l : List Chan} (own : ∀ d ∈ l, s.ownFuel z d = true)
    (fires : (s.zone z).state = .ready ∨ (s.zone z).state = .lit) (mem : c ∈ l) (h : AwaitsFlame (s.chan c)) :
    ((l.foldl (passOne z) s).zone z).state = .lit := by
  have stays : ∀ (r : List Chan) (x : State), (x.zone z).state = .lit → ((r.foldl (passOne z) x).zone z).state = .lit := by
    intro r
    induction r with
    | nil => exact fun _ h => h
    | cons d r ih => exact fun x h => ih _ (passOne_lit h)
  induction l with
  | nil => cases mem
  | cons d l ih =>
    rw [List.foldl_cons]
    by_cases awaits : AwaitsFlame (s.chan d)
    · obtain ⟨f, hf, -⟩ := fuel?_of_own (own d List.mem_cons_self)
      rw [passOne_passes hf awaits]
      obtain ⟨p, proof, igniter, -⟩ := awaits
      exact stays l _ (passProof_igniter_state z proof igniter fires)
    · rw [passOne_idle awaits]
      refine ih (fun e he => own e (List.mem_cons_of_mem _ he)) ((List.mem_cons.mp mem).resolve_left fun e => ?_)
      exact awaits (e ▸ h)

theorem passReleased_lit (own : s.ownFuel z c = true) (fires : (s.zone z).state = .ready ∨ (s.zone z).state = .lit)
    (h : AwaitsFlame (s.chan c)) : ((s.passReleased z).zone z).state = .lit :=
  foldl_passOne_lit (fun _ hd => mem_ownFuels_iff.mp hd) fires (mem_ownFuels_iff.mpr own) h

theorem foldl_passOne_absent {l : List Chan} (out : c ∉ l) (s : State) :
    (l.foldl (passOne z) s).chan c = s.chan c := by
  induction l generalizing s with
  | nil => rfl
  | cons d l ih =>
    obtain ⟨ne, out⟩ := not_or.mp (mt List.mem_cons.mpr out)
    exact (ih out _).trans (passOne_chan_other ne)

/-- The channel of such a proof runs, and IGNITER off is issued. -/
theorem foldl_passOne_chan {f : FuelCfg} {l : List Chan} (own : ∀ d ∈ l, s.ownFuel z d = true) (distinct : l.Nodup)
    (mem : c ∈ l) (hf : s.fuel? c = some f) (h : AwaitsFlame (s.chan c)) : (l.foldl (passOne z) s).chan c
      = issuedRec (ranRec (s.chan c) f (s.pt.mode == .isolated) s.now) (.igniter false) := by
  induction l generalizing s with
  | nil => cases mem
  | cons d l ih =>
    obtain ⟨fresh, distinct⟩ := List.nodup_cons.mp distinct
    rw [List.foldl_cons]
    by_cases e : c = d
    · subst e
      rw [foldl_passOne_absent fresh, passOne_passes hf h]
      obtain ⟨p, proof, igniter, -⟩ := h
      rw [passProof_igniter_chan z proof igniter, lit_chan_same]
    · have works := passOne_works (own d List.mem_cons_self)
      have chan : (passOne z s d).chan c = s.chan c := passOne_chan_other e
      have mode : (passOne z s d).pt.mode = s.pt.mode := congrArg Surround.mode works.surround
      have now : (passOne z s d).now = s.now := congrArg Surround.now works.surround
      rw [ih (fun y hy => (ownFuel_of_config works.config z y).trans (own y (List.mem_cons_of_mem _ hy))) distinct
        ((List.mem_cons.mp mem).resolve_left e) ((fuel?_of_config works.config c).trans hf) (by rw [chan]; exact h),
        chan, mode, now]

theorem passReleased_chan {f : FuelCfg} (own : s.ownFuel z c = true) (hf : s.fuel? c = some f)
    (h : AwaitsFlame (s.chan c)) : (s.passReleased z).chan c
      = issuedRec (ranRec (s.chan c) f (s.pt.mode == .isolated) s.now) (.igniter false) :=
  foldl_passOne_chan (fun _ hd => mem_ownFuels_iff.mp hd) (ownFuels_nodup _ _) (mem_ownFuels_iff.mpr own) hf h

/-- The passes leave FLAME_UNSTABLE. -/
theorem passReleased_flicker (h : (s.zone z).state ≠ .ready) :
    (s.passReleased z).cond (idFlameUnstable z) = s.cond (idFlameUnstable z) := by
  have kept : ∀ (l : List Chan) (x : State), (x.zone z).state ≠ .ready →
      (l.foldl (passOne z) x).cond (idFlameUnstable z) = x.cond (idFlameUnstable z) := by
    intro l
    induction l with
    | nil => exact fun _ _ => rfl
    | cons d l ih =>
      intro x hx
      rcases passOne_cases z x d with e | ⟨f, e⟩
      · rw [List.foldl_cons, e]
        exact ih x hx
      · rw [List.foldl_cons, e, ih _ (by rw [passProof_zone_idle hx]; exact hx),
          (passProof_calm hx d f).cond_other ((flameUnstable_apart z z).2.2 d)]
  exact kept _ s h

theorem passReleased_surround : surround (s.passReleased z) = surround s := (passReleased_works s z).surround

/-! ### The view is gained (04 R69 to R71, R74) -/

/-- The zone's record with its view judged. -/
def viewed (s : State) (z : Zone) (v : Bool) : State := s.mapZone z fun r => { r with view := v }

@[simp] theorem viewed_zone (v : Bool) : (viewed s z v).zone z = { s.zone z with view := v } := State.mapZone_zone_same _ _ _

/-- What a gain of the view does at once to a zone in LIT. -/
def steadied (s : State) (z : Zone) : State :=
  let s' := s.mapZone z fun x => { x with flameTimer := none, flameLost := false }
  if (s.zone z).flameTimer.isSome then s'.flicker z else s'

theorem flameGain_lit (h : (s.zone z).state = .lit) :
    s.flameGain z = (((steadied s z).passReleased z).judgeReady z).adoptLit z := by
  unfold State.flameGain
  dsimp only
  rw [if_pos h]
  rfl

theorem flameGain_unlit (h : (s.zone z).state ≠ .lit) : s.flameGain z = ((s.passReleased z).judgeReady z).adoptLit z := by
  unfold State.flameGain
  dsimp only
  rw [if_neg h]

theorem steadied_chan (c : Chan) : (steadied s z).chan c = s.chan c := by
  unfold steadied
  dsimp only
  split
  · exact setCond_chan _ _ _ _ c
  · rfl

theorem steadied_surround : surround (steadied s z) = surround s := by
  unfold steadied
  dsimp only
  split
  · exact (setCond_surround _ _ _ _).trans rfl
  · rfl

/-- The record of a steadied zone. -/
theorem steadied_zone : (steadied s z).zone z = { s.zone z with
    flameTimer := none
    flameLost := false
    flickers := if (s.zone z).flameTimer.isSome then (⟨s.now, s.stamp⟩ :: (s.zone z).flickers).take 3
      else (s.zone z).flickers } := by
  unfold steadied
  dsimp only
  split
  · rw [State.flicker, zone_of_plant (State.setCond_plant _ _ _ _) z, State.mapZone_zone_same, State.mapZone_zone_same]
    rfl
  · rw [State.mapZone_zone_same]

theorem steadied_cond (on : s.configured = true) : (steadied s z).cond (idFlameUnstable z)
    = if (s.zone z).flameTimer.isSome then flickerHolds ((⟨s.now, s.stamp⟩ :: (s.zone z).flickers).take 3) s.now
      else s.cond (idFlameUnstable z) := by
  unfold steadied
  dsimp only
  split
  · rw [State.flicker, setCond_same (by exact on), State.mapZone_zone_same]
    rfl
  · rfl

theorem adoptLit_ce : (s.adoptLit z).ce = s.ce := by
  unfold State.adoptLit
  split
  · exact setZone_ce_fires rfl
  · rfl

theorem judgeReady_ce : (s.judgeReady z).ce = s.ce := by
  unfold State.judgeReady
  split
  · exact setZone_ce_fires rfl
  · rfl

/-- The gain leaves the channels as the passes make them. -/
theorem flameGain_chan (c : Chan) :
    (s.flameGain z).chan c = ((if (s.zone z).state = .lit then steadied s z else s).passReleased z).chan c := by
  have ends : ∀ x : State, ((x.judgeReady z).adoptLit z).chan c = x.chan c := fun x => by
    rw [State.chan, adoptLit_ce, judgeReady_ce, State.chan]
  split
  · rw [flameGain_lit ‹_›, ends]
  · rw [flameGain_unlit ‹_›, ends]

theorem flameGain_view : ((s.flameGain z).zone z).view = (s.zone z).view := by
  by_cases h : (s.zone z).state = .lit
  · rw [flameGain_lit h, adoptLit_view, judgeReady_view, passReleased_view, steadied_zone]
  · rw [flameGain_unlit h, adoptLit_view, judgeReady_view, passReleased_view]

/-- A LIT zone is steadied, and its proofs pass. -/
theorem flameGain_of_lit (h : (s.zone z).state = .lit) : (s.flameGain z).zone z = (steadied s z).zone z
    ∧ (s.flameGain z).cond (idFlameUnstable z) = (steadied s z).cond (idFlameUnstable z) := by
  have state : ((steadied s z).zone z).state = .lit := by rw [steadied_zone]; exact h
  have calm : ((steadied s z).zone z).state ≠ .ready := by rw [state]; decide
  have passed := passReleased_zone_idle calm
  rw [flameGain_lit h, judgeReady_idle (by rw [passed]; exact calm),
    adoptLit_idle (.inl (by rw [passed, state]; decide))]
  exact ⟨passed, passReleased_flicker calm⟩

/-- A DARK zone adopts LIT from a FRESH peer while ESD_N is released. -/
theorem flameGain_of_dark (h : (s.zone z).state = .dark) (view : (s.zone z).view = true) :
    ((s.flameGain z).zone z).state = if s.peerReports z .lit = true ∧ s.esd = false then .lit else .dark := by
  have calm : (s.zone z).state ≠ .ready := by rw [h]; decide
  have passed := passReleased_zone_idle calm
  have around := passReleased_surround (s := s) (z := z)
  rw [flameGain_unlit (by rw [h]; decide), judgeReady_idle (by rw [passed]; exact calm), State.adoptLit, passed, h, view,
    peerReports_of_surround around, show (s.passReleased z).esd = s.esd from congrArg Surround.esd around]
  by_cases adopts : s.peerReports z .lit = true ∧ s.esd = false
  · rw [if_pos ⟨rfl, rfl, adopts.1, by simp [adopts.2]⟩, if_pos adopts, State.setZone_state, if_pos rfl]
  · rw [if_neg (fun e => adopts ⟨e.2.2.1, by simpa using e.2.2.2⟩), if_neg adopts, passed, h]

/-- A READY zone enters LIT by a proof that passes, or by a channel that runs. -/
theorem flameGain_of_ready (h : (s.zone z).state = .ready) (view : (s.zone z).view = true) :
    (((s.flameGain z).zone z).state = .lit
        ↔ s.zoneRuns z = true ∨ ∃ c, s.ownFuel z c = true ∧ AwaitsFlame (s.chan c))
      ∧ (((s.flameGain z).zone z).state ≠ .lit → ((s.flameGain z).zone z).state = .ready) := by
  have gain := flameGain_unlit (s := s) (z := z) (by rw [h]; decide)
  by_cases proofs : ∃ c, s.ownFuel z c = true ∧ AwaitsFlame (s.chan c)
  · obtain ⟨c, own, awaits⟩ := proofs
    have lights := passReleased_lit own (.inl h) awaits
    have lit : ((s.flameGain z).zone z).state = .lit := by
      rw [gain, judgeReady_idle (by rw [lights]; decide), adoptLit_idle (.inl (by rw [lights]; decide)), lights]
    exact ⟨iff_of_true lit (.inr ⟨c, own, awaits⟩), fun ne => absurd lit ne⟩
  · rw [gain, passReleased_idle fun d own awaits => proofs ⟨d, own, awaits⟩]
    cases runs : s.zoneRuns z with
    | true =>
      have lit : ((s.judgeReady z).zone z).state = .lit := by
        rw [State.judgeReady, if_pos ⟨h, view, runs⟩, State.setZone_state, if_pos rfl]
      rw [adoptLit_idle (.inl (by rw [lit]; decide)), lit]
      exact ⟨iff_of_true rfl (.inl rfl), fun ne => absurd rfl ne⟩
    | false =>
      have still : s.judgeReady z = s := if_neg fun e => by simp [runs] at e
      rw [still, adoptLit_idle (.inl (by rw [h]; decide)), h]
      exact ⟨iff_of_false (by decide) (by simpa using proofs), fun _ => rfl⟩

/-- After a gain there is nothing more to judge in a zone that is not PURGING. -/
theorem flameGain_settled (purging : (s.zone z).state ≠ .purging) (view : (s.zone z).view = true) :
    (s.flameGain z).judgeReady z = s.flameGain z ∧ (s.flameGain z).judgeTests z = s.flameGain z := by
  have ends : ∀ x : State, ((x.judgeReady z).adoptLit z).judgeReady z = (x.judgeReady z).adoptLit z := fun x => by
    have lights : ∀ y : State, ((y.setZone z .lit).zone z).state ≠ .ready := fun y => by
      rw [State.setZone_state, if_pos rfl]
      decide
    by_cases e : (x.zone z).state = .ready ∧ (x.zone z).view ∧ x.zoneRuns z
    · have fired : x.judgeReady z = x.setZone z .lit := if_pos e
      rw [fired, adoptLit_idle (.inl (by rw [State.setZone_state, if_pos rfl]; decide)), judgeReady_idle (lights x)]
    · have idle : x.judgeReady z = x := if_neg e
      rw [idle]
      unfold State.adoptLit
      split
      · exact judgeReady_idle (lights x)
      · exact idle
  have tests : ∀ x : State, (x.zone z).view = true → (x.zone z).state ≠ .purging → x.judgeTests z = x := fun x hv hp => by
    unfold State.judgeTests
    cases hx : (x.zone z).state with
    | lit => exact if_neg (by simp [hv])
    | purging => exact absurd hx hp
    | dark => rfl
    | ready => rfl
    | tripped => rfl
  refine ⟨?_, tests _ (flameGain_view.trans view) ?_⟩
  · by_cases h : (s.zone z).state = .lit
    · rw [flameGain_lit h, ends]
    · rw [flameGain_unlit h, ends]
  · cases h : (s.zone z).state with
    | lit =>
      rw [(flameGain_of_lit h).1, steadied_zone]
      exact fun e => by rw [h] at e; cases e
    | purging => exact absurd h purging
    | dark =>
      rw [flameGain_of_dark h view]
      split <;> decide
    | ready =>
      by_cases lit : ((s.flameGain z).zone z).state = .lit
      · rw [lit]
        decide
      · rw [(flameGain_of_ready h view).2 lit]
        decide
    | tripped =>
      have calm : (s.zone z).state ≠ .ready := by rw [h]; decide
      have passed := passReleased_zone_idle calm
      rw [flameGain_unlit (by rw [h]; decide), judgeReady_idle (by rw [passed]; exact calm),
        adoptLit_idle (.inl (by rw [passed, h]; decide)), passed, h]
      decide

/-! ### The view is lost (04 R74, R76) -/

theorem flameLoss_view : ((s.flameLoss z).zone z).view = (s.zone z).view := by
  unfold State.flameLoss
  split
  · split
    · exact setZone_view _
    · rw [State.mapZone_zone_same]
  · rfl

theorem judgeZone_view (b : State) : ((b.judgeZone s z).zone z).view = ((s.judgeView z).zone z).view := by
  unfold State.judgeZone
  dsimp only
  rw [judgeTests_view]
  split
  · rfl
  · exact judgeReady_view

/-- A view that changes is a gain or a loss in a mode that decides. -/
theorem judgeView_changes (part : s.participates z = true) (decides : s.decides = true) {v : Bool}
    (now : s.flameView z = v) (held : (s.zone z).view ≠ v) :
    s.judgeView z = if v then (viewed s z v).flameGain z else (viewed s z v).flameLoss z := by
  unfold State.judgeView
  dsimp only
  rw [now, if_pos (by rw [part]; simpa using held), if_neg]
  · rfl
  · simpa using decides

/-- What the tests make of a zone whose view is gained. -/
theorem judgeZone_gain (b : State) (part : s.participates z = true) (decides : s.decides = true)
    (now : s.flameView z = true) (held : (s.zone z).view = false) (purging : (s.zone z).state ≠ .purging) :
    b.judgeZone s z = (viewed s z true).flameGain z := by
  have gain := judgeView_changes part decides now (by rw [held]; decide)
  rw [if_pos rfl] at gain
  obtain ⟨ready, tests⟩ := flameGain_settled (s := viewed s z true) (z := z) (by rw [viewed_zone]; exact purging)
    (by rw [viewed_zone])
  unfold State.judgeZone
  dsimp only
  rw [gain, ready, ite_self, tests]

/-- What the tests make of a zone whose view is lost. -/
theorem judgeZone_loss (b : State) (part : s.participates z = true) (decides : s.decides = true)
    (now : s.flameView z = false) (held : (s.zone z).view = true) :
    b.judgeZone s z = ((viewed s z false).flameLoss z).judgeTests z := by
  have loss := judgeView_changes part decides now (by rw [held]; decide)
  rw [if_neg (by decide)] at loss
  have unseen : (((viewed s z false).flameLoss z).zone z).view = false := by rw [flameLoss_view, viewed_zone]
  unfold State.judgeZone
  dsimp only
  rw [loss, show ((viewed s z false).flameLoss z).judgeReady z = (viewed s z false).flameLoss z from
    if_neg fun e => by simp [unseen] at e, ite_self]

theorem judgeZone_loss_lit (b : State) (part : s.participates z = true) (decides : s.decides = true)
    (now : s.flameView z = false) (held : (s.zone z).view = true) (lit : (s.zone z).state = .lit) :
    (s.fuelClosed z = true → ((b.judgeZone s z).zone z).state = .dark)
    ∧ (s.fuelClosed z = false → ((b.judgeZone s z).zone z).state = .lit
      ∧ ((b.judgeZone s z).zone z).flameTimer = some (s.now + 250 * s.zoneParam z ZoneCfg.flameResponse)) := by
  have lit' : ((viewed s z false).zone z).state = .lit := by rw [viewed_zone]; exact lit
  rw [judgeZone_loss b part decides now held]
  refine ⟨fun closed => ?_, fun opened => ?_⟩
  · have dark : ((viewed s z false).flameLoss z) = (viewed s z false).setZone z .dark :=
      (if_pos lit').trans (if_pos (by exact closed))
    have state : (((viewed s z false).setZone z .dark).zone z).state = .dark := by rw [State.setZone_state, if_pos rfl]
    rw [dark, judgeTests_idle (by rw [state]; decide) (by rw [state]; decide), state]
  · have timed : (viewed s z false).flameLoss z = (viewed s z false).mapZone z fun x => { x with
        flameTimer := some (s.now + 250 * s.zoneParam z ZoneCfg.flameResponse) } :=
      ((if_pos lit').trans (if_neg (by exact Bool.eq_false_iff.mp opened))).trans rfl
    have zone : ((viewed s z false).flameLoss z).zone z = { s.zone z with
        view := false
        flameTimer := some (s.now + 250 * s.zoneParam z ZoneCfg.flameResponse) } := by
      rw [timed, State.mapZone_zone_same, viewed_zone]
    have tests : ((viewed s z false).flameLoss z).judgeTests z = (viewed s z false).flameLoss z := by
      have closed : ((viewed s z false).flameLoss z).fuelClosed z = false := by rw [timed]; exact opened
      unfold State.judgeTests
      rw [zone]
      dsimp only
      rw [lit]
      dsimp only
      rw [closed]
      rfl
    rw [tests, zone]
    exact ⟨lit, rfl⟩

theorem judgeZone_loss_unlit (b : State) (part : s.participates z = true) (decides : s.decides = true)
    (now : s.flameView z = false) (held : (s.zone z).view = true) (lit : (s.zone z).state ≠ .lit)
    (purging : (s.zone z).state ≠ .purging) : ((b.judgeZone s z).zone z).state = (s.zone z).state := by
  have kept : (viewed s z false).flameLoss z = viewed s z false := if_neg (by rw [viewed_zone]; exact lit)
  rw [judgeZone_loss b part decides now held, kept, judgeTests_idle (by rw [viewed_zone]; exact lit)
    (by rw [viewed_zone]; exact purging), viewed_zone]

end

/-! ### A FLAME sample (03 R39) -/

section

variable {s : State} {z : Zone} {v : Word} {ql : Byte}

theorem flameUnstable_no_sample (z : Zone) :
    idFlameUnstable z ≠ idFieldSilent ∧ ∀ d, idFlameUnstable z ≠ idSampleBad d := by
  revert z
  decide

/-- A FLAME sample changes the scanner's view alone of what the tests of the zone read. -/
theorem sampled_flame_alike (z : Zone) (v : Word) (ql : Byte) :
    ZoneAlike z (sensed s (.flame z) v ql) (sampled s (.flame z) v ql) := by
  have plant := sampled_plant s (.flame z) v ql
  refine ⟨zone_of_plant plant z, surround_of_plant plant, fun c _ => chan_of_plant plant c, ?_⟩
  obtain ⟨silent, bad⟩ := flameUnstable_no_sample z
  exact sampled_cond silent bad (.flame z) v ql

theorem sensed_flameView (scanner : s.hasScanner z = true) (good : ql.toNat ≤ 1) (v : Word) :
    (sensed s (.flame z) v ql).flameView z = (decide (v ≠ 0) || allStations.any fun n => (s.peer n).showsFlame z) := by
  have proven : ((sensed s (.flame z) v ql).ce.flames.get z).proven = decide (v ≠ 0) := by
    rw [show (sensed s (.flame z) v ql).ce.flames = upd (heard s).ce.flames z
      (takenPoint ((heard s).ce.flames.get z) v.toNat ql s.now) from rfl, upd_get_same, takenPoint_good good]
    change decide (v.toNat ≠ 0) = _
    exact decide_eq_decide.mpr (not_congr (BitVec.toNat_eq (y := 0)).symm)
  have here : (sensed s (.flame z) v ql).hasScanner z = true := scanner
  rw [State.flameView, here, proven, Bool.true_and]
  rfl

/-- After a FLAME sample the zone is what its tests make of it. -/
theorem flameSample_judged {src : Byte} (on : s.configured = true) (scanner : s.hasScanner z = true)
    (hsrc : src.toNat = 16 + z.val) (v : Word) (ql : Byte) (el : Word) : ∃ t b : State,
    ∃ x, exec (.sampleRecord src 6 v ql el) s = .next x ∧ ZoneAlike z (sensed s (.flame z) v ql) t
      ∧ x.zone z = (b.judgeZone t z).zone z
      ∧ x.cond (idFlameUnstable z) = (b.judgeZone t z).cond (idFlameUnstable z)
      ∧ ∀ c, s.ownFuel z c = true → ∃ w : InFlight → Option Nat, x.chan c = { (b.judgeZone t z).chan c with
          inFlight := ((b.judgeZone t z).chan c).inFlight.map fun fl => { fl with window := w fl } } := by
  have u := sampled_flame_alike (s := s) z v ql
  have configured : (sampled s (.flame z) v ql).configured = true := by
    rw [State.configured, u.config]
    exact on
  obtain ⟨t, alike, zone, cond, chan⟩ := finish_zone configured s z
  have acts := exec_sampleRecord_point on (matchPoint_flame scanner hsrc) v ql el
  exact ⟨t, s, _, acts, u.trans alike, zone, cond, fun c hc => chan c ((u.own c).trans hc)⟩

theorem flickerHolds_iff (x : Flicker) (l : List Flicker) (now : Nat) :
    flickerHolds ((x :: l).take 3) now = true ↔ ∃ y, l[1]? = some y ∧ now ≤ y.moment + 15000000 := by
  match l with
  | [] => simp [flickerHolds]
  | [_] => simp [flickerHolds]
  | _ :: y :: _ => exact decide_eq_true_iff.trans ⟨fun h => ⟨y, rfl, h⟩, fun ⟨_, e, h⟩ => Option.some.inj e ▸ h⟩

/-- The record of a channel whose proof the flame passes, once its window may run. -/
theorem passedRec_lights (ch : Channel) (f : FuelCfg) (isolated : Bool) (now : Nat) (w : InFlight → Option Nat) :
    (issuedRec (ranRec ch f isolated now) (.igniter false)).queued = some (.igniter false)
      ∨ ∃ fl, ((issuedRec (ranRec ch f isolated now) (.igniter false)).inFlight.map fun fl =>
          { fl with window := w fl }) = some fl ∧ fl.cmd = .igniter false := by
  unfold issuedRec
  split
  · exact .inr ⟨_, rfl, rfl⟩
  · unfold Channel.enqueue
    split
    · rename_i e _
      cases e
      exact .inl rfl
    · rename_i e _
      cases e
    · exact .inl rfl

end

/-- A gain in READY or LIT passes the igniter proof of a channel as it stood before the sample. -/
theorem gain_chan {s t : State} {z : Zone} {v : Word} {ql : Byte} {c : Chan} {f : FuelCfg}
    (a : ZoneAlike z (sensed s (.flame z) v ql) t) (own : s.ownFuel z c = true) (hf : s.fuel? c = some f)
    (h : AwaitsFlame (s.chan c)) : ((viewed t z true).flameGain z).chan c
      = issuedRec (ranRec (s.chan c) f (s.pt.mode == .isolated) s.now) (.igniter false) := by
  have passes : ∀ x : State, surround x = surround (viewed t z true) → x.chan c = s.chan c →
      (x.passReleased z).chan c
        = issuedRec (ranRec (s.chan c) f (s.pt.mode == .isolated) s.now) (.igniter false) := fun x around chan => by
    have config : x.config = s.config := (congrArg Surround.config around).trans a.config
    have mode : x.pt.mode = s.pt.mode := congrArg Surround.mode (around.trans a.around)
    have now : x.now = s.now := congrArg Surround.now (around.trans a.around)
    rw [passReleased_chan ((ownFuel_of_config config z c).trans own) ((fuel?_of_config config c).trans hf)
      (by rw [chan]; exact h), chan, mode, now]
  have chan : (viewed t z true).chan c = s.chan c := a.chan c own
  rw [flameGain_chan]
  split
  · exact passes _ steadied_surround ((steadied_chan c).trans chan)
  · exact passes _ rfl chan

/-- Settles O34: a sample by the gain or the loss that the tests of the zone find, a timer by its guard. -/
theorem flameTimers : Obligations.FlameTimers := by
  refine ⟨fun s z src ql v el on decides scanner hsrc good => ?_, fun s z d lit timer due shut => ?_,
    fun s z a b d on unstable flickers due => ?_, fun s w z serves hw part state => ?_⟩
  · obtain ⟨t, b, x, acts, a, zone, cond, chan⟩ := flameSample_judged on scanner hsrc v ql el
    have tZone : t.zone z = s.zone z := a.zone
    have tChan : ∀ c, s.ownFuel z c = true → t.chan c = s.chan c := a.chan
    have tOwn : ∀ c, t.ownFuel z c = s.ownFuel z c := a.own
    have tOn : t.configured = true := by rw [State.configured, a.config]; exact on
    have tDecides : t.decides = true := (decides_of_surround a.around).trans decides
    have tPart : t.participates z = true := by
      rw [participates_of_config a.config]
      exact (Bool.or_eq_true _ _).mpr (.inr scanner)
    have view := (flameView_of_surround a.around z).trans (sensed_flameView scanner good v)
    refine ⟨x, acts, fun lights held => ?_, fun dark held peers => ?_⟩
    · have now : t.flameView z = true := by rw [view, decide_eq_true lights]; rfl
      have shown : (x.zone z).view = true := by
        rw [zone, judgeZone_view, judgeView_changes tPart tDecides now (by rw [tZone, held]; decide), if_pos rfl,
          flameGain_view, viewed_zone]
      have gain := judgeZone_gain b tPart tDecides now (by rw [tZone, held])
      have record : (viewed t z true).zone z = { s.zone z with view := true } := by rw [viewed_zone, tZone]
      refine ⟨shown, fun lit => ?_, fun ready => ?_, fun dark => ?_, fun fires c p own proof igniter released => ?_⟩
      · have state : ((viewed t z true).zone z).state = .lit := by rw [record]; exact lit
        obtain ⟨made, flicker⟩ := flameGain_of_lit state
        rw [zone, cond, gain (by rw [tZone, lit]; decide), made, flicker, steadied_zone, steadied_cond (by exact tOn), record]
        have stamp : (viewed t z true).stamp = s.stamp := (congrArg Surround.stamp a.around).trans rfl
        have now : (viewed t z true).now = s.now := (congrArg Surround.now a.around).trans rfl
        rw [stamp, now]
        refine ⟨lit, rfl, rfl, fun stopped => ?_, fun runs => ?_⟩
        · rw [if_neg (by simp [stopped]), if_neg (by simp [stopped])]
          exact ⟨rfl, a.flicker⟩
        · have set : (s.zone z).flameTimer.isSome = true := Option.isSome_iff_ne_none.mpr runs
          rw [if_pos set, if_pos set]
          exact ⟨rfl, flickerHolds_iff _ _ _⟩
      · obtain ⟨lights, stays⟩ := flameGain_of_ready (s := viewed t z true) (z := z) (by rw [record]; exact ready)
          (by rw [record])
        rw [zone, gain (by rw [tZone, ready]; decide)]
        refine ⟨lights.trans (or_congr (by rw [show (viewed t z true).zoneRuns z = t.zoneRuns z from rfl, a.zoneRuns]; rfl) ?_),
          stays⟩
        refine ⟨fun ⟨c, own, p, proof, h⟩ => ?_, fun ⟨c, p, own, proof, h⟩ => ⟨c, (tOwn c).trans own, p, ?_, h⟩⟩
        · have own' := (tOwn c).symm.trans own
          exact ⟨c, p, own', (congrArg Channel.proof (tChan c own')).symm.trans proof, h⟩
        · exact (congrArg Channel.proof (tChan c own)).trans proof
      · have made := flameGain_of_dark (s := viewed t z true) (z := z) (by rw [record]; exact dark) (by rw [record])
        rw [zone, gain (by rw [tZone, dark]; decide), made]
        have reports : (viewed t z true).peerReports z .lit = s.peerReports z .lit :=
          peerReports_of_surround (s := sensed s (.flame z) v ql) a.around z .lit
        have esd : (viewed t z true).esd = s.esd := congrArg Surround.esd a.around
        rw [reports, esd]
      · have awaits : AwaitsFlame (s.chan c) := ⟨p, proof, igniter, released⟩
        obtain ⟨f, hf, -⟩ := fuel?_of_own own
        obtain ⟨w, channel⟩ := chan c own
        have made : (b.judgeZone t z).chan c
            = issuedRec (ranRec (s.chan c) f (s.pt.mode == .isolated) s.now) (.igniter false) := by
          rw [gain (by rw [tZone]; rcases fires with h | h <;> rw [h] <;> decide)]
          exact gain_chan a own hf awaits
        rw [channel, made]
        obtain ⟨ended, runs, alloc⟩ := passedRec_fields (s.chan c) f (s.pt.mode == .isolated) s.now
        exact ⟨ended, runs.trans (if_congr beq_iff_eq rfl rfl), alloc, passedRec_lights _ _ _ _ w⟩
    · have now : t.flameView z = false := by
        rw [view, decide_eq_false (by simp [dark]), Bool.false_or, Bool.eq_false_iff]
        intro any
        obtain ⟨n, -, shows⟩ := List.any_eq_true.mp any
        rw [peers n] at shows
        cases shows
      have tHeld : (t.zone z).view = true := by rw [tZone, held]
      refine ⟨?_, fun lit => ?_, fun unlit => ?_⟩
      · rw [zone, judgeZone_view, judgeView_changes tPart tDecides now (by rw [tHeld]; decide), if_neg (by decide),
          flameLoss_view, viewed_zone]
      · have closed : t.fuelClosed z = s.fuelClosed z := a.fuelClosed.trans rfl
        have moment : t.now = s.now := congrArg Surround.now a.around
        have param : t.zoneParam z ZoneCfg.flameResponse = s.zoneParam z ZoneCfg.flameResponse := by
          rw [State.zoneParam, State.zoneCfg?, a.config]
          rfl
        have loss := judgeZone_loss_lit b tPart tDecides now tHeld (by rw [tZone]; exact lit)
        rw [closed, moment, param] at loss
        rw [zone]
        exact loss
      · have calm : (s.zone z).state ≠ .lit ∧ (s.zone z).state ≠ .purging := by
          rcases unlit with h | h | h <;> rw [h] <;> decide
        rw [zone, judgeZone_loss_unlit b tPart tDecides now tHeld (by rw [tZone]; exact calm.1)
          (by rw [tZone]; exact calm.2), tZone]
  · have expires : (s.zone z).state = .lit ∧ s.due (s.zone z).flameTimer := ⟨lit, by rw [timer]; exact (due_some s d).mpr due⟩
    have closed : s.lowestOpen z = none := List.find?_eq_none.mpr fun c hc => by
      simpa using (List.any_eq_false.mp shut) c hc
    have acts : exec (.flameFailureExpiry z) s = .next (if s.fuelClosed z then finish s (s.setZone z .dark)
        else finish s (s.mapZone z fun r => { r with flameTimer := none, flameLost := true })) := by
      change execFlameFailureExpiry z s = _
      unfold execFlameFailureExpiry
      rw [if_pos expires, closed]
    refine ⟨fun closed => ⟨s.setZone z .dark, ?_, ?_, fun y hy => setZone_zone_other hy⟩, fun opened => ?_⟩
    · rw [acts, if_pos closed]
    · rw [State.setZone_state, if_pos rfl]
    · rw [acts, if_neg (by simp [opened])]
  · refine ⟨s.setCond (idFlameUnstable z) false none, ?_, setCond_same on _ _ _, State.setCond_plant _ _ _ _⟩
    refine guarded_acts rfl ?_
    rw [unstable, flickers, Bool.true_and]
    exact (due_some s _).mpr due
  · have quiet : ¬ (s.zone z).state.trippable = true := by
      rcases state with h | h <;> rw [h] <;> decide
    change execZoneTrip w s = _
    rw [execZoneTrip, request_served serves, zoneArg_of hw part]
    exact congrArg _ (if_neg quiet)

end Sys2Proof.Proofs
end

section
/-! PROOF. The demand records of the zones (O37, O38; 05 section 5.1). -/

namespace Sys2Proof.Proofs
open Sys2Proof.Machine

section

variable {s t : State} {z : Zone}

/-! ### The record of a zone -/

/-- The mark aside, the still part holds the demand records. -/
theorem demand_of_still (h : t.still = s.still) (z : Zone) :
    { t.demand z with unannounced := false } = { s.demand z with unannounced := false } := by
  have demands : (t.fa.demands.map fun d => { d with unannounced := false })
      = s.fa.demands.map fun d => { d with unannounced := false } := congrArg (fun x : State => x.fa.demands) h
  have here := congrArg (fun v => Vector.get v z) demands
  rwa [get_map, get_map] at here

/-- What two records that agree but for the mark agree in. -/
theorem unmarked_fields {a b : DemandRecord} (h : { a with unannounced := false } = { b with unannounced := false }) :
    a.known = b.known ∧ a.dEff = b.dEff ∧ a.slewClock = b.slewClock := by
  obtain ⟨known, dEff, slewClock, mark⟩ := a
  obtain ⟨known', dEff', slewClock', mark'⟩ := b
  simp only [DemandRecord.mk.injEq] at h
  exact ⟨h.1, h.2.1, h.2.2.1⟩

/-- The record of a zone that takes a demand. -/
def demandedRec (s : State) (z : Zone) (r : DemandRecord) (d : Demand) : DemandRecord :=
  match r.known with
  | none => { r with known := some d, dEff := s.goal z d.target, slewClock := none }
  | some _ => { r with known := some d, slewClock := slewJudge (s.goal z d.target) r.dEff s.now r.slewClock }

theorem takeDemand_demand_same (d : Demand) : (s.takeDemand z d).demand z = demandedRec s z (s.demand z) d := by
  rw [State.takeDemand, State.mapDemand_demand_same]
  rfl

theorem takeDemand_demand_other (d : Demand) {y : Zone} (h : y ≠ z) : (s.takeDemand z d).demand y = s.demand y :=
  State.mapDemand_demand_other _ _ (Ne.symm h)

theorem demandedRec_fields (r : DemandRecord) (d : Demand) : (demandedRec s z r d).known = some d
    ∧ (demandedRec s z r d).unannounced = r.unannounced
    ∧ (r.known = none → (demandedRec s z r d).dEff = s.goal z d.target ∧ (demandedRec s z r d).slewClock = none)
    ∧ (r.known ≠ none → (demandedRec s z r d).dEff = r.dEff) := by
  cases h : r.known with
  | none =>
    simp only [demandedRec, h]
    exact ⟨trivial, trivial, fun _ => ⟨trivial, trivial⟩, fun e => absurd rfl e⟩
  | some k =>
    simp only [demandedRec, h]
    exact ⟨trivial, trivial, fun e => (by cases e), fun _ => trivial⟩

/-! ### The DEMAND frame (05 R92) -/

/-- An offer of a class other than ACK and SNAP to a queue with a free place is accepted. -/
theorem offer_free {cls : FrameClass} (mode : s.pt.mode ≠ .unconfigured) (ack : cls ≠ .ack) (snap : cls ≠ .snap)
    (room : s.li.tx.length < 12) (p : List Word) (r k : Nat) : (s.offer cls p r k).2 = .accepted := by
  unfold State.offer
  dsimp only
  rw [if_neg mode, if_neg fun h => ack h.1,
    if_neg (show ¬ (cls = .snap ∧ s.li.tx.any (matchesKey cls p) = true) from fun h => snap h.1), if_pos room]
  split <;> rfl

/-- No frame waits with a priority number above one that no waiting frame has. -/
theorem worstWaiting_eq_none {n : Nat} {q : List TxFrame} (h : ∀ g ∈ q, g.inSend = true ∨ g.cls.code ≤ n) :
    worstWaiting n q = none := by
  cases e : worstWaiting n q with
  | none => rfl
  | some m =>
    obtain ⟨g, hg, waits, code, above⟩ := worstWaiting_some e
    rcases h g hg with h | h
    · rw [waits] at h
      cases h
    · omega

/-- A full queue without a frame to replace or to evict refuses a frame other than a TRIP. -/
theorem offer_full {cls : FrameClass} (trip : cls ≠ .trip) (full : 12 ≤ s.li.tx.length) {p : List Word}
    (none : s.li.tx.any (replaceable cls p) = false) (low : ∀ g ∈ s.li.tx, g.inSend = true ∨ g.cls.code ≤ cls.code)
    (r k : Nat) : (s.offer cls p r k).1 = s ∧ (s.offer cls p r k).2 ≠ .accepted := by
  rcases offer_cases s cls p r k with no | ⟨-, -, ⟨waits, -⟩ | ⟨-, -, ⟨room, -⟩ | ⟨-, i, b, found, -⟩⟩⟩
  · exact no
  · rw [none] at waits
    cases waits
  · omega
  · rw [evictee, worstWaiting_eq_none low] at found
    dsimp only at found
    rw [if_neg trip] at found
    cases found

theorem offerDemand_of {d : Demand} (known : (s.demand z).known = some d) : s.offerDemand z
    = (s.offer .demand (demandWords z d) 0 0).1.mapDemand z fun x => { x with
        unannounced := !((s.offer .demand (demandWords z d) 0 0).2 == .accepted) } := by
  unfold State.offerDemand
  rw [known]

/-- The offer of a DEMAND frame leaves what the records hold, but for their marks. -/
theorem offerDemand_plant (s : State) (z : Zone) : (s.offerDemand z).plant = s.plant := by
  unfold State.offerDemand
  split
  · rfl
  · exact (State.mapDemand_mark_plant _ z _).trans (State.offer_plant _ (by decide) _ _ _)

theorem offerDemand_accepted {d : Demand} (known : (s.demand z).known = some d)
    (h : (s.offer .demand (demandWords z d) 0 0).2 = .accepted) : ((s.offerDemand z).demand z).unannounced = false
      ∧ (s.offerDemand z).li.seqs.get 3 = s.li.seqs.get 3 + 1
      ∧ ∃ g ∈ (s.offerDemand z).li.tx, g.cls = .demand ∧ g.inSend = false ∧ g.payload = demandWords z d
        ∧ g.seq = s.li.seqs.get 3 := by
  rw [offerDemand_of known, h, State.mapDemand_demand_same, State.mapDemand_li]
  exact ⟨rfl, offer_accepted h⟩

theorem offerDemand_refused {d : Demand} (known : (s.demand z).known = some d)
    (h : (s.offer .demand (demandWords z d) 0 0).1 = s ∧ (s.offer .demand (demandWords z d) 0 0).2 ≠ .accepted) :
    ((s.offerDemand z).demand z).unannounced = true ∧ (s.offerDemand z).li.tx = s.li.tx := by
  rw [offerDemand_of known, State.mapDemand_demand_same, State.mapDemand_li, h.1]
  exact ⟨by simpa using h.2, rfl⟩

/-! ### The record takes a demand (05 R93 to R95) -/

theorem adoptDemand_of (s : State) (z : Zone) (d : Demand) : s.adoptDemand z d = if newerDemand (s.demand z).known d
    then (s.mapDemand z fun r => { r with unannounced := false }).takeDemand z d else s := rfl

theorem newerDemand_iff (held : Option Demand) (d : Demand) : newerDemand held d = true ↔ match held with
    | none => True
    | some h => serialNewer d.epoch h.epoch = true ∨ (d.epoch = h.epoch ∧ h.setter < d.setter) := by
  cases held with
  | none => exact iff_of_true rfl trivial
  | some h => simp [newerDemand]

theorem adoptDemand_newer {d : Demand} (newer : newerDemand (s.demand z).known d = true) :
    ((s.adoptDemand z d).demand z).known = some d ∧ ((s.adoptDemand z d).demand z).unannounced = false
      ∧ ((s.demand z).known = none → ((s.adoptDemand z d).demand z).dEff = s.goal z d.target) := by
  obtain ⟨known, mark, fresh, -⟩ := demandedRec_fields (s := s.mapDemand z fun r => { r with unannounced := false })
    (z := z) { s.demand z with unannounced := false } d
  rw [adoptDemand_of, if_pos newer, takeDemand_demand_same, State.mapDemand_demand_same]
  exact ⟨known, mark, fun unknown => (fresh unknown).1⟩

theorem adoptDemand_demand_other (d : Demand) {y : Zone} (h : y ≠ z) : (s.adoptDemand z d).demand y = s.demand y := by
  rw [adoptDemand_of]
  split
  · rw [takeDemand_demand_other d h, State.mapDemand_demand_other _ _ (Ne.symm h)]
  · rfl

theorem adoptDemand_li (d : Demand) : (s.adoptDemand z d).li = s.li := by
  rw [adoptDemand_of]
  split <;> rfl

theorem moveToward_eq (prev goal limit : Nat) : moveToward prev goal limit
    = if prev ≤ goal then prev + min limit (goal - prev) else prev - min limit (prev - goal) := by
  unfold moveToward
  split <;> omega

end

/-- The demand that SET_DEMAND gives a record. -/
def ownDemand (s : State) (z : Zone) (target : Nat) : Demand :=
  ⟨target, nextDemandEpoch (s.demand z).known, s.ownStation⟩

/-- What an accepted SET_DEMAND makes of the records and of the queue. -/
structure DemandMade (s : State) (z : Zone) (d : Demand) (u : State) : Prop where
  known : (u.demand z).known = some d
  fresh : (s.demand z).known = none → (u.demand z).dEff = s.goal z d.target ∧ (u.demand z).slewClock = none
  held : (s.demand z).known ≠ none → (u.demand z).dEff = (s.demand z).dEff
  others : ∀ y, y ≠ z → (u.demand y).known = (s.demand y).known ∧ (u.demand y).dEff = (s.demand y).dEff
  accepted : s.li.tx.length < 12 ∨ s.li.tx.any (replaceable .demand (demandWords z d)) = true →
    (u.demand z).unannounced = false ∧ u.li.seqs.get 3 = s.li.seqs.get 3 + 1
      ∧ ∃ g ∈ u.li.tx, g.cls = .demand ∧ g.inSend = false ∧ g.payload = demandWords z d ∧ g.seq = s.li.seqs.get 3
  refused : 12 ≤ s.li.tx.length → s.li.tx.any (replaceable .demand (demandWords z d)) = false →
    (∀ g ∈ s.li.tx, g.inSend = true ∨ g.cls.code ≤ 3) → (u.demand z).unannounced = true ∧ u.li.tx = s.li.tx

theorem setOwnDemand_made {s : State} (mode : s.pt.mode ≠ .unconfigured) (z : Zone) (target : Nat) :
    DemandMade s z (ownDemand s z target) (s.setOwnDemand z target) := by
  obtain ⟨known, -, fresh, held⟩ := demandedRec_fields (s := s) (z := z) (s.demand z) (ownDemand s z target)
  have taken := takeDemand_demand_same (s := s) (z := z) (ownDemand s z target)
  have taken_other := fun y (h : y ≠ z) => takeDemand_demand_other (s := s) (ownDemand s z target) h
  have li : (s.takeDemand z (ownDemand s z target)).li = s.li := rfl
  have mode' : (s.takeDemand z (ownDemand s z target)).pt.mode ≠ .unconfigured := mode
  have made : s.setOwnDemand z target = (s.takeDemand z (ownDemand s z target)).offerDemand z := rfl
  rw [made]
  generalize s.takeDemand z (ownDemand s z target) = v at *
  have knows : (v.demand z).known = some (ownDemand s z target) := by rw [taken, known]
  have kept := fun y => unmarked_fields (demand_of_still (State.still_of_plant (offerDemand_plant v z)) y)
  obtain ⟨sameKnown, sameDEff, sameClock⟩ := kept z
  refine ⟨sameKnown.trans knows, fun unknown => ?_, fun some => ?_, fun y hy => ?_, fun room => ?_, fun full none low => ?_⟩
  · rw [sameDEff, sameClock, taken]
    exact fresh unknown
  · rw [sameDEff, taken]
    exact held some
  · obtain ⟨known, dEff, -⟩ := kept y
    rw [known, dEff, taken_other y hy]
    exact ⟨rfl, rfl⟩
  · rw [← li] at room ⊢
    refine offerDemand_accepted knows ?_
    rcases room with room | waits
    · exact offer_free mode' (by decide) (by decide) room _ _ _
    · rw [offer_replaces mode' (by decide) waits]
  · rw [← li] at full none low ⊢
    exact offerDemand_refused knows (offer_full (by decide) full none low 0 0)

/-- Settles O37: the record takes the demand, the queue takes or refuses its frame, and what follows keeps both. -/
theorem demandSet : Obligations.DemandSet := by
  intro s wz wt serves
  have request := request_served serves fun s => match zoneOf wz.toNat with
    | none => s.refuse 3 .badArgument
    | some z =>
      if s.pt.mode = .starting then s.refuse 3 .state
      else
        finish s ((s.setOwnDemand z (s.goal z wt.toNat)).reply 3 (if s.goal z wt.toNat = wt.toNat then .ok else .clamped)
          (w16 (s.goal z wt.toNat)) [])
  have acts : exec (.setDemand wz wt) s = _ := congrArg Host.Outcome.next request
  refine ⟨fun above => ?_, fun z hz => ⟨fun starting => ?_, fun going => ?_⟩⟩
  · rw [acts, zoneOf_above above]
  · rw [acts, zoneOf_val hz]
    exact congrArg _ (if_pos starting)
  · rw [zoneOf_val hz] at acts
    dsimp only at acts
    rw [if_neg going] at acts
    have made := setOwnDemand_made serves.2 z (s.goal z wt.toNat)
    have held : s.goal z (s.goal z wt.toNat) = s.goal z wt.toNat := by simp [State.goal]
    generalize s.setOwnDemand z (s.goal z wt.toNat) = w at *
    have still := finish_still (w.reply 3 (if s.goal z wt.toNat = wt.toNat then .ok else .clamped)
      (w16 (s.goal z wt.toNat)) []) s
    obtain ⟨known, dEff, clock⟩ := unmarked_fields (demand_of_still still z)
    refine ⟨_, acts, known.trans made.known, fun unknown => ?_, fun some => dEff.trans (made.held some), fun y hy => ?_, ?_,
      fun d hd => ⟨_, rfl, ?_⟩⟩
    · obtain ⟨fresh, stopped⟩ := made.fresh unknown
      exact ⟨clock.trans stopped, dEff.trans (fresh.trans held)⟩
    · obtain ⟨known, dEff, -⟩ := unmarked_fields (demand_of_still still y)
      obtain ⟨known', dEff'⟩ := made.others y hy
      exact ⟨known.trans known', dEff.trans dEff'⟩
    · have answer := congrArg (fun x : State => x.sp.buffer) still
      refine answer.trans ?_
      rw [← if_congr (min_eq_left_iff (a := wt.toNat) (b := s.zoneParam z ZoneCfg.maxHeat)) rfl rfl]
      rfl
    · obtain rfl : ownDemand s z (s.goal z wt.toNat) = d := Option.some.inj ((known.trans made.known).symm.trans hd)
      exact ⟨made.accepted, made.refused⟩

/-- Settles O38: by the order of demands, and by the step toward the goal. -/
theorem demandFollowed : Obligations.DemandFollowed := by
  refine ⟨fun s f head bad => ?_, fun s f z d head parsed => ?_, fun s z d t goal slew known clock hg hs => ?_⟩
  · change execDemandTaken s = _
    rw [execDemandTaken, rxHead_of_heads head]
    dsimp only
    rw [bad]
    rfl
  · have acts : exec .demandTaken s = .next (finish s (s.popRx.adoptDemand z d)) := by
      change execDemandTaken s = _
      rw [execDemandTaken, rxHead_of_heads head]
      dsimp only
      rw [parsed]
    refine ⟨_, acts, congrArg LineIf.rx (adoptDemand_li d), fun newer => ?_, fun older => ?_,
      fun y hy => adoptDemand_demand_other d hy⟩
    · exact adoptDemand_newer (s := s.popRx) ((newerDemand_iff _ d).mpr newer)
    · exact if_neg fun newer => older ((newerDemand_iff _ d).mp newer)
  · change execDemandSlewStep z s = _
    subst hg hs
    unfold execDemandSlewStep
    rw [clock, known]
    dsimp only
    refine congrArg _ (if_congr Iff.rfl (congrArg (s.mapDemand z) (funext fun r => ?_)) rfl)
    rw [DemandRecord.slewStep, moveToward_eq]
    rfl

end Sys2Proof.Proofs
end

section
/-! PROOF. The passes of the firing allocator (O39; 05 section 5.2). -/

namespace Sys2Proof.Proofs
open Sys2Proof.Machine

/-! ### A zone leaves LIT (05 R112) -/

section

variable {s : State} {z : Zone}

theorem mapFiring_twice (s : State) (z : Zone) (f g : Firing → Firing) :
    (s.mapFiring z f).mapFiring z g = s.mapFiring z fun x => g (f x) := by
  have once : ∀ (v : Vector Firing 4) (x y : Firing), upd (upd v z x) z y = upd v z y := fun v x y => Vector.set_set ..
  simp only [State.mapFiring, State.mapFa, upd_get_same, once]

theorem ChanMoves.firing {c : Chan} {t : State} (m : ChanMoves c s t) (y : Zone) : t.firing y = s.firing y := by
  rw [State.firing, m.firings, State.firing]

/-- FA's record of a zone that has left LIT: its pass is abandoned. -/
def abandoned (x : Firing) : Firing :=
  ⟨{ AirBalance.initial with supply := x.air.supply, passCount := x.air.passCount }, none, none, false,
    x.pass.map fun p => { p with doomed := true }⟩

theorem firingLeavesLit_firing_same : (s.firingLeavesLit z).firing z = abandoned (s.firing z) := by
  unfold State.firingLeavesLit
  dsimp only
  refine (firing_of_plant (State.setCond_plant _ _ _ _) z).trans ((firing_of_plant (State.setCond_plant _ _ _ _) z).trans ?_)
  exact State.mapFiring_firing_same _ _ _

theorem firingLeavesLit_firing_other {y : Zone} (h : y ≠ z) : (s.firingLeavesLit z).firing y = s.firing y := by
  unfold State.firingLeavesLit
  dsimp only
  refine (firing_of_plant (State.setCond_plant _ _ _ _) y).trans ((firing_of_plant (State.setCond_plant _ _ _ _) y).trans ?_)
  exact State.mapFiring_firing_other _ _ (Ne.symm h)

theorem firingLeavesLit_held : (s.firingLeavesLit z).cr.held.get z = 0 := upd_get_same _ _ _

theorem airShort_ne_unreachable (z : Zone) : idAirShort z ≠ idDemandUnreachable z := by
  revert z
  decide

theorem firingLeavesLit_conds (on : s.configured = true) : (s.firingLeavesLit z).cond (idAirShort z) = false
    ∧ (s.firingLeavesLit z).cond (idDemandUnreachable z) = false := by
  have first : ((s.mapFiring z fun x => { x with
      period := none
      dirty := false
      unmetClock := none
      pass := x.pass.map fun p => { p with doomed := true }
      air := x.air.cleared }).setCond (idAirShort z) false none).configured = true := by
    rw [setCond_configured]
    exact on
  exact ⟨(setCond_cond_other _ (airShort_ne_unreachable z) _ _).trans (setCond_same (by exact on) _ _ _),
    setCond_same first _ _ _⟩

/-- What a zone in LIT hands on as it leaves it. -/
structure LitLeft (s : State) (z : Zone) (t : State) : Prop where
  firing : t.firing z = abandoned (s.firing z)
  others : ∀ y, y ≠ z → t.firing y = s.firing y
  held : t.cr.held.get z = 0
  air : t.cond (idAirShort z) = false
  demand : t.cond (idDemandUnreachable z) = false

theorem firing_ids_apart (z : Zone) : idAirShort z ≠ idZoneTrip z ∧ idDemandUnreachable z ≠ idZoneTrip z
    ∧ ∀ c, idAirShort z ∉ stateIds c ∧ idDemandUnreachable z ∉ stateIds c := by
  revert z
  decide

theorem zoneWritten_leavesLit (on : s.configured = true) (lit : (s.zone z).state = .lit) {st : ZoneState} (h : st ≠ .lit) :
    LitLeft s z (zoneWritten s z st) := by
  have handed : zoneHanded s z st = ((s.mapZone z (enteredRec s z st)).notify .zoneState).firingLeavesLit z := by
    unfold zoneHanded
    dsimp only
    rw [if_pos lit, if_neg h]
  obtain ⟨air, demand⟩ := firingLeavesLit_conds (s := (s.mapZone z (enteredRec s z st)).notify .zoneState) (z := z) on
  obtain ⟨notAir, notDemand, -⟩ := firing_ids_apart z
  have plant := State.setCond_plant (zoneHanded s z st) (idZoneTrip z) (st == .tripped)
    (((zoneHanded s z st).zone z).epoch.map BitVec.toNat)
  refine ⟨(firing_of_plant plant z).trans ?_, fun y hy => (firing_of_plant plant y).trans ?_, ?_,
    (setCond_cond_other _ notAir _ _).trans ?_, (setCond_cond_other _ notDemand _ _).trans ?_⟩
  · rw [handed, firingLeavesLit_firing_same]
    rfl
  · rw [handed, firingLeavesLit_firing_other hy]
    rfl
  · exact (congrArg (fun x : Cooler => x.held.get z) (cr_of_plant plant)).trans (by rw [handed, firingLeavesLit_held])
  · rw [handed, air]
  · rw [handed, demand]

theorem setZone_leavesLit (on : s.configured = true) (lit : (s.zone z).state = .lit) {st : ZoneState} (h : st ≠ .lit) :
    LitLeft s z (s.setZone z st) := by
  have written := zoneWritten_leavesLit on lit h
  rw [setZone_eq (by rw [lit]; exact Ne.symm h)]
  split
  · exact written
  · have kept : ∀ {β : Type} (P : State → β), (∀ x c, P (State.loseZone x c) = P x) →
        P ((zoneWritten s z st).closeFuel z) = P (zoneWritten s z st) := fun P hP => foldl_chan_leaves P hP _ _
    obtain ⟨-, -, chans⟩ := firing_ids_apart z
    refine ⟨?_, fun y hy => ?_, ?_, ?_, ?_⟩
    · rw [kept (fun x => x.firing z) fun x c => (loseZone_chanMoves x c).firing z]
      exact written.firing
    · rw [kept (fun x => x.firing y) fun x c => (loseZone_chanMoves x c).firing y]
      exact written.others y hy
    · rw [kept (fun x => x.cr.held.get z) fun x c => by rw [(loseZone_chanMoves x c).cr]]
      exact written.held
    · rw [kept (fun x => x.cond (idAirShort z)) fun x c => (loseZone_chanMoves x c).cond_other (chans c).1]
      exact written.air
    · rw [kept (fun x => x.cond (idDemandUnreachable z)) fun x c => (loseZone_chanMoves x c).cond_other (chans c).2]
      exact written.demand

theorem LitLeft.from {t u : State} (m : LitLeft t z u) (h : ∀ y, t.firing y = s.firing y) : LitLeft s z u :=
  ⟨by rw [m.firing, h], fun y hy => by rw [m.others y hy, h], m.held, m.air, m.demand⟩

theorem LitLeft.counted {u : State} (m : LitLeft s z u) : LitLeft s z u.countZoneTrip :=
  ⟨m.firing, m.others, m.held, m.air, m.demand⟩

theorem LitLeft.answered {u : State} (m : LitLeft s z u) (code : Nat) : LitLeft s z (u.ok code) :=
  ⟨m.firing, m.others, m.held, m.air, m.demand⟩

/-- A local trip of a LIT zone takes it out of LIT. -/
theorem localTrip_leavesLit (on : s.configured = true) (lit : (s.zone z).state = .lit) (cause : ZoneCause)
    (ch : Option Chan) (v : Option Nat) : LitLeft s z (s.localTrip z cause ch v) := by
  have steps : ∀ y, (s.tripSteps z (localEntry s z cause ch v)).firing y = s.firing y := fun y =>
    tripSteps_leaves (fun x => x.firing y) (fun _ _ _ m => m.firing y) (fun _ _ => rfl) _
  have offered : ∀ (x : State) (m : TripMsg) y, (x.offerTrip m).firing y = x.firing y := fun x m y => by
    obtain ⟨d, ts, l, h⟩ := x.offerTrip_plant m
    change ((x.offerTrip m).plant.fa.zones).get y = (x.plant.fa.zones).get y
    rw [h]
  have zone := (offerTrip_zone (s.tripSteps z (localEntry s z cause ch v)) ⟨z, nextEpoch (s.zone z).epoch, cause, ch⟩ z).trans
    (tripSteps_zone_same _)
  have config := (offerTrip_config (s.tripSteps z (localEntry s z cause ch v))
    ⟨z, nextEpoch (s.zone z).epoch, cause, ch⟩).trans (tripSteps_config _)
  rw [localTrip_eq]
  refine LitLeft.counted (LitLeft.from (setZone_leavesLit ?_ ?_ (by decide)) fun y => (offered _ _ y).trans (steps y))
  · rw [State.configured, config]
    exact on
  · rw [zone]
    exact lit

end

/-! ### Allocations that are delivered (05 R98) -/

section

variable {s : State} {c : Chan}

/-- The delivery of one allocation to an own channel. -/
def deliverOne (s : State) (a : Allocated) : State :=
  if s.isOwn a.member.station then s.deliver a.member.chan a.heat else s

theorem deliverAll_eq (allocs : List Allocated) : s.deliverAll allocs = allocs.foldl deliverOne s := rfl

theorem deliverOne_chanMoves (s : State) (a : Allocated) : ChanMoves a.member.chan s (deliverOne s a) := by
  unfold deliverOne
  split
  · exact deliver_chanMoves s _ _
  · exact .refl

theorem deliverAll_leaves {β : Type} (P : State → β) (h : ∀ d a b, ChanMoves d a b → P b = P a) (l : List Allocated)
    (s : State) : P (s.deliverAll l) = P s :=
  foldl_leaves P deliverOne (fun x a => h _ _ _ (deliverOne_chanMoves x a)) l s

theorem isOwn_of_config {t : State} (h : t.config = s.config) (n : Station) : t.isOwn n = s.isOwn n := by
  simp only [State.isOwn, h]

/-- The record of a RUNNING channel that an allocation is delivered to. -/
def deliveredRec (ch : Channel) (f : FuelCfg) (heat now : Nat) : Channel :=
  holdRec ch f (clampNat heat ch.hmin ch.hmaxEff) now

theorem deliverOne_running {f : FuelCfg} {a : Allocated} (own : s.isOwn a.member.station = true)
    (hf : s.fuel? a.member.chan = some f) (running : (s.chan a.member.chan).state = .running) :
    (deliverOne s a).chan a.member.chan = deliveredRec (s.chan a.member.chan) f a.heat s.now := by
  unfold deliverOne State.deliver
  rw [if_pos own, hf]
  dsimp only
  rw [if_pos running, holdAlloc_chan_same]
  rfl

theorem deliverOne_idle {a : Allocated} (h : (s.chan c).state ≠ .running
    ∨ (s.isOwn a.member.station = true → a.member.chan ≠ c)) : (deliverOne s a).chan c = s.chan c := by
  by_cases here : a.member.chan = c
  · unfold deliverOne State.deliver
    split
    · rename_i own
      have idle := h.resolve_right fun other => other own here
      rw [here]
      split
      · rfl
      · rw [if_neg idle]
    · rfl
  · exact (deliverOne_chanMoves s a).chan_other (Ne.symm here)

/-- The allocations leave a channel that is not RUNNING, or that none of them is for. -/
theorem deliverAll_idle {l : List Allocated} (h : (s.chan c).state ≠ .running
    ∨ ∀ a ∈ l, s.isOwn a.member.station = true → a.member.chan ≠ c) : (s.deliverAll l).chan c = s.chan c := by
  rw [deliverAll_eq]
  induction l generalizing s with
  | nil => rfl
  | cons a l ih =>
    have first : (deliverOne s a).chan c = s.chan c :=
      deliverOne_idle (h.imp_right fun other => other a List.mem_cons_self)
    have config := (deliverOne_chanMoves s a).config
    refine (ih (h.imp (fun idle => by rw [first]; exact idle) fun other b hb own => ?_)).trans first
    exact other b (List.mem_cons_of_mem _ hb) ((isOwn_of_config config _).symm.trans own)

theorem holdRec_fields (ch : Channel) (f : FuelCfg) (a now : Nat) (running : ch.state = .running) :
    (holdRec ch f a now).alloc = a ∧ (holdRec ch f a now).state = .running ∧ (holdRec ch f a now).hmin = ch.hmin
      ∧ (holdRec ch f a now).hmaxEff = ch.hmaxEff
      ∧ ((holdRec ch f a now).alloc ≠ ch.alloc → (holdRec ch f a now).target = feedOf f a) := by
  have going : ({ ch with alloc := a } : Channel).state ≠ .stopping := by
    dsimp only
    rw [running]
    decide
  unfold holdRec
  split
  · rename_i same
    exact ⟨same, running, rfl, rfl, fun e => absurd rfl e⟩
  · refine ⟨retargetRec_alloc _ _ _ going, (retargetRec_state _ _ _ going).trans running, ?_,
      retargetRec_hmaxEff _ _ _ going, fun _ => retargetRec_target _ _ _ going⟩
    exact (congrArg Channel.hmin (retargetRec_eq _ f _ now going)).trans
      ((congrArg Channel.hmin (aimedRec_eq _ f _ now)).trans rfl)

/-- An allocation delivered once more changes nothing. -/
theorem deliveredRec_again (ch : Channel) (f : FuelCfg) (heat now : Nat) (running : ch.state = .running) :
    deliveredRec (deliveredRec ch f heat now) f heat now = deliveredRec ch f heat now := by
  obtain ⟨alloc, -, hmin, hmaxEff, -⟩ := holdRec_fields ch f (clampNat heat ch.hmin ch.hmaxEff) now running
  have clamp : clampNat heat (deliveredRec ch f heat now).hmin (deliveredRec ch f heat now).hmaxEff
      = (deliveredRec ch f heat now).alloc := by
    rw [deliveredRec, hmin, hmaxEff, alloc]
  rw [deliveredRec, clamp, holdRec, if_pos rfl]

/-- The one allocation for a RUNNING own channel is delivered to it. -/
theorem deliverAll_running {f : FuelCfg} {a : Allocated} {l : List Allocated} (mem : a ∈ l)
    (own : s.isOwn a.member.station = true) (hf : s.fuel? a.member.chan = some f)
    (running : (s.chan a.member.chan).state = .running)
    (only : ∀ b ∈ l, s.isOwn b.member.station = true → b.member.chan = a.member.chan → b = a) :
    (s.deliverAll l).chan a.member.chan = deliveredRec (s.chan a.member.chan) f a.heat s.now := by
  rw [deliverAll_eq]
  induction l generalizing s with
  | nil => cases mem
  | cons b l ih =>
    have moves := deliverOne_chanMoves s b
    have isOwn := isOwn_of_config moves.config
    have rest : ∀ d ∈ l, (deliverOne s b).isOwn d.member.station = true → d.member.chan = a.member.chan → d = a :=
      fun d hd h => only d (List.mem_cons_of_mem _ hd) ((isOwn _).symm.trans h)
    have own' := (isOwn a.member.station).trans own
    have hf' := (fuel?_of_config moves.config a.member.chan).trans hf
    rw [List.foldl_cons]
    by_cases e : b = a
    · subst e
      have first := deliverOne_running own hf running
      have running' : ((deliverOne s b).chan b.member.chan).state = .running := by
        rw [first]
        exact (holdRec_fields _ f _ s.now running).2.1
      by_cases again : b ∈ l
      · rw [ih again own' hf' running' rest, first, moves.now, deliveredRec_again _ _ _ _ running]
      · refine (deliverAll_idle (.inr fun d hd h here => again ?_)).trans first
        rw [← rest d hd h here]
        exact hd
    · have first : (deliverOne s b).chan a.member.chan = s.chan a.member.chan :=
        deliverOne_idle (.inr fun h here => e (only b List.mem_cons_self h here))
      rw [ih ((List.mem_cons.mp mem).resolve_left (Ne.symm e)) own' hf' (by rw [first]; exact running) rest, first,
        moves.now]

end

/-! ### The completion of a pass (05 R98, R109) -/

section

variable {s : State} {z : Zone} {p : PassInput}

/-- The state with the results of a pass in FA, ZS and CR, before the conditions and the deliveries. -/
def balanced (s : State) (z : Zone) (p : PassInput) : State :=
  let old := (s.firing z).air
  let air := p.balance p.run (old.passCount + 1)
  ((s.mapFiring z fun x => { x with
    air := air
    unmetClock := unmetJudge old.demandUnmet air.demandUnmet s.now x.unmetClock }).airFlag z old.airShort air.airShort).holdShortfall
    z air.shortfall

/-- The state with the conditions of a pass, before the deliveries. -/
def booked (s : State) (z : Zone) (p : PassInput) : State :=
  let air := p.balance p.run ((s.firing z).air.passCount + 1)
  let s3 := (balanced s z p).setCond (idAirShort z) air.airShort (some air.supply)
  if air.demandUnmet then s3 else s3.setCond (idDemandUnreachable z) false none

theorem applyPass_eq : s.applyPass z p = (booked s z p).deliverAll p.run.allocs := rfl

theorem booked_plant (s : State) (z : Zone) (p : PassInput) : (booked s z p).plant = (balanced s z p).plant := by
  unfold booked
  dsimp only
  split
  · exact State.setCond_plant _ _ _ _
  · exact (State.setCond_plant _ _ _ _).trans (State.setCond_plant _ _ _ _)

/-- The air-failure clock is of the zone's record. -/
theorem airFlag_leaves {β : Type} (P : State → β) (h : ∀ x g, P (State.mapZone x z g) = P x) (a b : Bool) :
    P (s.airFlag z a b) = P s := by
  unfold State.airFlag
  split
  · split
    · exact h _ _
    split
    · exact h _ _
    · rfl
  · rfl

/-- What a pass books, and what it leaves. -/
structure PassBooked (s : State) (z : Zone) (p : PassInput) (t : State) : Prop where
  air : (t.firing z).air = p.balance p.run ((s.firing z).air.passCount + 1)
  period : (t.firing z).period = (s.firing z).period
  dirty : (t.firing z).dirty = (s.firing z).dirty
  pass : (t.firing z).pass = (s.firing z).pass
  others : ∀ y, y ≠ z → t.firing y = s.firing y
  held : t.cr.held.get z = (p.balance p.run ((s.firing z).air.passCount + 1)).shortfall
  now : t.now = s.now

theorem balanced_booked (s : State) (z : Zone) (p : PassInput) : PassBooked s z p (balanced s z p) := by
  have zone : (balanced s z p).firing z = { s.firing z with
      air := p.balance p.run ((s.firing z).air.passCount + 1)
      unmetClock := unmetJudge (s.firing z).air.demandUnmet
        (p.balance p.run ((s.firing z).air.passCount + 1)).demandUnmet s.now (s.firing z).unmetClock } :=
    (airFlag_leaves (fun x => x.firing z) (fun _ _ => rfl) _ _).trans (State.mapFiring_firing_same _ _ _)
  refine ⟨?_, ?_, ?_, ?_, fun y hy => ?_, upd_get_same _ _ _, airFlag_leaves State.now (fun _ _ => rfl) _ _⟩
  · rw [zone]
  · rw [zone]
  · rw [zone]
  · rw [zone]
  · exact (airFlag_leaves (fun x => x.firing y) (fun _ _ => rfl) _ _).trans (State.mapFiring_firing_other _ _ (Ne.symm hy))

theorem booked_chans (s : State) (z : Zone) (p : PassInput) : (booked s z p).ce = s.ce ∧ (booked s z p).config = s.config
    ∧ (booked s z p).now = s.now := by
  have plant := booked_plant s z p
  exact ⟨(ce_of_plant plant).trans (airFlag_leaves State.ce (fun _ _ => rfl) _ _),
    (config_of_plant plant).trans (airFlag_leaves State.config (fun _ _ => rfl) _ _),
    (now_of_plant plant).trans (airFlag_leaves State.now (fun _ _ => rfl) _ _)⟩

theorem applyPass_booked (s : State) (z : Zone) (p : PassInput) : PassBooked s z p (s.applyPass z p) := by
  have plant := booked_plant s z p
  obtain ⟨air, period, dirty, pass, others, held, now⟩ := balanced_booked s z p
  have firing : ∀ y, (s.applyPass z p).firing y = (balanced s z p).firing y := fun y =>
    (deliverAll_leaves (fun x => x.firing y) (fun _ _ _ m => m.firing y) _ _).trans (firing_of_plant plant y)
  have cooler : (s.applyPass z p).cr = (balanced s z p).cr :=
    (deliverAll_leaves State.cr (fun _ _ _ m => ChanMoves.cr m) _ _).trans (cr_of_plant plant)
  have moment : (s.applyPass z p).now = (balanced s z p).now :=
    (deliverAll_leaves State.now (fun _ _ _ m => ChanMoves.now m) _ _).trans (now_of_plant plant)
  refine ⟨?_, ?_, ?_, ?_, fun y hy => (firing y).trans (others y hy), ?_, moment.trans now⟩
  · rw [firing, air]
  · rw [firing, period]
  · rw [firing, dirty]
  · rw [firing, pass]
  · rw [cooler, held]

/-- The state of a completed pass, before one that is owed starts. -/
def completed (s : State) (z : Zone) (p : PassInput) : State := (s.mapFiring z fun x => { x with pass := none }).applyPass z p

theorem completed_booked (s : State) (z : Zone) (p : PassInput) : ((completed s z p).firing z).pass = none
    ∧ ((completed s z p).firing z).period = (s.firing z).period ∧ ((completed s z p).firing z).dirty = (s.firing z).dirty
    ∧ ((completed s z p).firing z).air = p.balance p.run ((s.firing z).air.passCount + 1)
    ∧ (completed s z p).cr.held.get z = (p.balance p.run ((s.firing z).air.passCount + 1)).shortfall
    ∧ (∀ y, y ≠ z → (completed s z p).firing y = s.firing y) ∧ (completed s z p).now = s.now := by
  obtain ⟨air, period, dirty, pass, others, held, now⟩ := applyPass_booked (s.mapFiring z fun x => { x with pass := none }) z p
  rw [State.mapFiring_firing_same] at air period dirty pass held
  exact ⟨pass, period, dirty, air, held, fun y hy => (others y hy).trans (State.mapFiring_firing_other _ _ (Ne.symm hy)), now⟩

theorem completePass_of (pass : (s.firing z).pass = some ⟨p, false⟩) (lit : (s.zone z).state = .lit) :
    s.completePass z = if ((completed s z p).firing z).dirty
      then ((completed s z p).mapFiring z fun x => { x with dirty := false }).startPass z else completed s z p := by
  unfold State.completePass
  rw [pass]
  dsimp only
  rw [if_neg (by simp [lit])]
  rfl

theorem completePass_lost {lost : Bool} (pass : (s.firing z).pass = some ⟨p, lost⟩)
    (h : lost = true ∨ (s.zone z).state ≠ .lit) :
    s.completePass z = s.mapFiring z fun x => { x with pass := none, dirty := false } := by
  unfold State.completePass
  rw [pass]
  dsimp only
  rw [if_pos (by simpa using h)]
  exact mapFiring_twice s z _ _

end

/-- A pass reads nothing of FA's records of the zones. -/
theorem passInput_mapFiring (s : State) (y z : Zone) (f : Firing → Firing) :
    (s.mapFiring y f).passInput z = s.passInput z := by
  have supply : (s.mapFiring y f).supply z = s.supply z := by
    unfold State.supply
    rfl
  unfold State.passInput
  rw [supply]
  rfl

theorem startPass_eq (s : State) (z : Zone) : s.startPass z = s.mapFiring z fun x => { x with
    pass := some ⟨s.passInput z, false⟩
    period := some (s.now + 125000) } := rfl

/-- A pass starts in a zone without one, and is owed in a zone with one. -/
theorem passPeriod_due {s : State} {z : Zone} {d : Nat} (period : (s.firing z).period = some d) (due : d ≤ s.now)
    (passable : s.passable z = true) :
    ((s.firing z).pass = none → exec (.passPeriod z) s = .next (s.mapFiring z fun x => { x with
      pass := some ⟨s.passInput z, false⟩
      period := some (s.now + 125000) }))
    ∧ ((s.firing z).pass ≠ none → exec (.passPeriod z) s = .next (s.mapFiring z fun x => { x with
      period := none
      dirty := true })) := by
  have stopped : (s.mapFiring z fun x => { x with period := none }).firing z = { s.firing z with period := none } :=
    State.mapFiring_firing_same _ _ _
  have acts : exec (.passPeriod z) s = .next ((s.mapFiring z fun x => { x with period := none }).triggerPass z) :=
    guarded_acts rfl (by rw [period]; exact (due_some s d).mpr due)
  have trigger : ∀ t : State, t.passable z = true → t.triggerPass z = match (t.firing z).pass with
      | none => t.startPass z
      | some _ => t.mapFiring z fun x => { x with dirty := true } := fun t ht => if_pos ht
  rw [trigger (s.mapFiring z fun x => { x with period := none }) passable, stopped] at acts
  refine ⟨fun free => ?_, fun busy => ?_⟩
  · dsimp only at acts
    rw [free] at acts
    dsimp only at acts
    rw [startPass_eq, passInput_mapFiring, mapFiring_twice, State.mapFiring_now] at acts
    exact acts
  · obtain ⟨q, hq⟩ := Option.ne_none_iff_exists'.mp busy
    dsimp only at acts
    rw [hq] at acts
    exact acts.trans (congrArg _ (mapFiring_twice s z _ _))

/-- FA's record of a zone as an owed pass starts. -/
def startedRec (x : Firing) (input : PassInput) (next : Nat) : Firing :=
  { x with
    dirty := false
    pass := some ⟨input, false⟩
    period := some next }

theorem startedRec_air (x : Firing) (input : PassInput) (next : Nat) : (startedRec x input next).air = x.air := rfl

/-- What the start of a pass that is owed makes of FA. -/
structure OwedStarted (t : State) (z : Zone) (u : State) : Prop where
  pass : (u.firing z).pass = some ⟨t.passInput z, false⟩
  period : (u.firing z).period = some (t.now + 125000)
  dirty : (u.firing z).dirty = false
  air : (u.firing z).air = (t.firing z).air
  others : ∀ y, y ≠ z → u.firing y = t.firing y
  input : u.passInput z = t.passInput z
  cr : u.cr = t.cr
  ce : u.ce = t.ce

theorem owedPass_started (t : State) (z : Zone) :
    OwedStarted t z ((t.mapFiring z fun x => { x with dirty := false }).startPass z) := by
  have started := startPass_eq (t.mapFiring z fun x => { x with dirty := false }) z
  rw [passInput_mapFiring, mapFiring_twice, State.mapFiring_now] at started
  rw [started]
  have zone := State.mapFiring_firing_same (s := t) z fun x => startedRec x (t.passInput z) (t.now + 125000)
  refine ⟨?_, ?_, ?_, ?_, fun y hy => State.mapFiring_firing_other _ _ (Ne.symm hy), passInput_mapFiring _ _ _ _, rfl, rfl⟩
  · exact (congrArg Firing.pass zone).trans rfl
  · exact (congrArg Firing.period zone).trans rfl
  · exact (congrArg Firing.dirty zone).trans rfl
  · exact (congrArg Firing.air zone).trans (startedRec_air _ _ _)

/-- What the completion of a pass makes of FA, CR and the channels. -/
theorem completePass_made {s : State} {z : Zone} {p : PassInput} (pass : (s.firing z).pass = some ⟨p, false⟩)
    (lit : (s.zone z).state = .lit) :
    ((s.firing z).dirty = false → ((s.completePass z).firing z).pass = none
      ∧ ((s.completePass z).firing z).period = (s.firing z).period)
    ∧ ((s.firing z).dirty = true → ((s.completePass z).firing z).pass = some ⟨(s.completePass z).passInput z, false⟩
      ∧ ((s.completePass z).firing z).period = some (s.now + 125000))
    ∧ ((s.completePass z).firing z).dirty = false
    ∧ ((s.completePass z).firing z).air = p.balance p.run ((s.firing z).air.passCount + 1)
    ∧ (s.completePass z).cr = (completed s z p).cr
    ∧ (∀ y, y ≠ z → (s.completePass z).firing y = s.firing y)
    ∧ (s.completePass z).ce = (completed s z p).ce := by
  obtain ⟨ended, period, dirty, air, -, others, now⟩ := completed_booked s z p
  rw [completePass_of pass lit]
  generalize completed s z p = t at *
  cases owed : (s.firing z).dirty with
  | false =>
    rw [if_neg (by rw [dirty, owed]; decide)]
    exact ⟨fun _ => ⟨ended, period⟩, fun e => (by cases e), dirty.trans owed, air, rfl, others, rfl⟩
  | true =>
    rw [if_pos (by rw [dirty, owed])]
    have started := owedPass_started t z
    generalize (t.mapFiring z fun x => { x with dirty := false }).startPass z = u at *
    refine ⟨fun e => (by cases e), fun _ => ⟨by rw [started.pass, started.input], by rw [started.period, now]⟩, started.dirty,
      started.air.trans air, started.cr, fun y hy => (started.others y hy).trans (others y hy), started.ce⟩

/-- The deliveries of a completed pass find the channels as they stood. -/
theorem completed_chan_idle {s : State} {z : Zone} {p : PassInput} {c : Chan} (h : (s.chan c).state ≠ .running
    ∨ ∀ a ∈ p.run.allocs, s.isOwn a.member.station = true → a.member.chan ≠ c) :
    (completed s z p).chan c = s.chan c := by
  obtain ⟨ce, config, -⟩ := booked_chans (s.mapFiring z fun x => { x with pass := none }) z p
  have chan : (booked (s.mapFiring z fun x => { x with pass := none }) z p).chan c = s.chan c := by
    rw [State.chan, ce]
    rfl
  rw [completed, applyPass_eq]
  generalize booked (s.mapFiring z fun x => { x with pass := none }) z p = t at *
  refine (deliverAll_idle (h.imp (fun idle => by rw [chan]; exact idle) fun other a ha own => ?_)).trans chan
  exact other a ha ((isOwn_of_config (s := s) config _).symm.trans own)

theorem completed_chan_running {s : State} {z : Zone} {p : PassInput} {a : Allocated} {f : FuelCfg}
    (mem : a ∈ p.run.allocs) (own : s.isOwn a.member.station = true) (hf : s.fuel? a.member.chan = some f)
    (running : (s.chan a.member.chan).state = .running)
    (only : ∀ b ∈ p.run.allocs, s.isOwn b.member.station = true → b.member.chan = a.member.chan → b = a) :
    (completed s z p).chan a.member.chan = deliveredRec (s.chan a.member.chan) f a.heat s.now := by
  obtain ⟨ce, config, now⟩ := booked_chans (s.mapFiring z fun x => { x with pass := none }) z p
  have chan : (booked (s.mapFiring z fun x => { x with pass := none }) z p).chan a.member.chan = s.chan a.member.chan := by
    rw [State.chan, ce]
    rfl
  rw [completed, applyPass_eq]
  generalize booked (s.mapFiring z fun x => { x with pass := none }) z p = t at *
  have isOwn := isOwn_of_config (s := s) config
  rw [deliverAll_running mem ((isOwn _).trans own) ((fuel?_of_config (s := s) config _).trans hf)
    (by rw [chan]; exact running) (fun b hb h => only b hb ((isOwn _).symm.trans h)), chan, now]
  rfl

/-- Settles O39: by the period, by a pass that is lost or booked, and by a zone that leaves LIT. -/
theorem passesRun : Obligations.PassesRun := by
  refine ⟨fun s z d period due passable => passPeriod_due period due passable, fun s z p lost => ?_,
    fun s z w serves hw part lit on => ?_, fun s z p pass lit => ?_, fun s z d on clock due => ?_⟩
  · have acts : ∀ q, (s.firing z).pass = some q → exec (.passCompletion z) s = .next (finish s (s.completePass z)) := by
      intro q hq
      change execPassCompletion z s = _
      unfold execPassCompletion
      rw [hq]
    rcases lost with doomed | ⟨pass, out⟩
    · rw [acts _ doomed, completePass_lost doomed (.inl rfl)]
    · rw [acts _ pass, completePass_lost pass (.inr out)]
  · have made := (localTrip_leavesLit on lit .hostTrip none none).answered 10
    have acts : exec (.zoneTrip w) s = .next (finish s ((s.localTrip z .hostTrip none none).ok 10)) := by
      change execZoneTrip w s = _
      rw [execZoneTrip, request_served serves, zoneArg_of hw part]
      exact congrArg _ (if_pos (by rw [lit]; rfl))
    exact ⟨_, acts, made.firing, made.held, made.air, made.demand, made.others⟩
  · have acts : exec (.passCompletion z) s = .next (finish s (s.completePass z)) := by
      change execPassCompletion z s = _
      unfold execPassCompletion
      rw [pass]
    obtain ⟨free, owed, clean, air, cr, others, ce⟩ := completePass_made pass lit
    obtain ⟨-, -, -, -, held, -, -⟩ := completed_booked s z p
    have chan : ∀ c, (s.completePass z).chan c = (completed s z p).chan c := fun c => by rw [State.chan, ce, State.chan]
    refine ⟨_, acts, free, owed, clean, air, by rw [cr, held], others, (State.completePass_moves (e := false) s z).still_false,
      fun a mem own running only f hf => ?_, fun c idle => (chan c).trans (completed_chan_idle idle)⟩
    obtain ⟨alloc, -, -, -, target⟩ := holdRec_fields (s.chan a.member.chan) f
      (clampNat a.heat (s.chan a.member.chan).hmin (s.chan a.member.chan).hmaxEff) s.now running
    rw [chan, completed_chan_running mem own hf running only]
    exact ⟨alloc, fun changed => (target changed).trans (congrArg (feedOf f) alloc.symm)⟩
  · refine ⟨_, guarded_acts rfl ?_, setCond_same (by exact on) _ _ _, State.setCond_plant _ _ _ _⟩
    rw [clock]
    exact (due_some s d).mpr due

end Sys2Proof.Proofs
end

section
/-! PROOF. The bounds of an allocation (O41; 05 section 5.4). -/

namespace Sys2Proof.Proofs
open Sys2Proof.Machine

/-! ### The share of a group (05 R104) -/

section

variable {lambda g : Nat} {group : List Member}

theorem divide_zero (spans : List Nat) : divide 0 spans = spans.map fun _ => 0 := by
  refine List.ext_getElem? fun i => ?_
  rw [divide_getElem?, List.getElem?_map]
  refine congrArg (fun f => Option.map f spans[i]?) (funext fun x => ?_)
  simp

theorem zip_shares_fst (group : List Member) (g : Nat) :
    (group.zip (divide g (group.map Member.span))).map Prod.fst = group := List.map_fst_zip (by simp)

theorem zip_shares_snd (group : List Member) (g : Nat) :
    (group.zip (divide g (group.map Member.span))).map Prod.snd = divide g (group.map Member.span) :=
  List.map_snd_zip (by simp)

theorem zip_shares_zero (group : List Member) :
    group.zip (divide 0 (group.map Member.span)) = group.map fun m => (m, 0) := by
  rw [divide_zero, List.map_map]
  exact (List.map_prod_left_eq_zip (f := fun _ => 0)).symm

theorem groupAllocs_zero (group : List Member) : groupAllocs group 0 = group.map fun m => ⟨m, m.hmin⟩ := by
  rw [groupAllocs, zip_shares_zero, List.map_map]
  rfl

theorem needOf_zero (lambda : Nat) (group : List Member) : needOf lambda group 0 = 0 := by
  rw [needOf, zip_shares_zero, List.map_map, List.sum_eq_zero_iff]
  simp [airOf]

theorem groupAllocs_members (group : List Member) (g : Nat) : (groupAllocs group g).map Allocated.member = group := by
  rw [groupAllocs, List.map_map]
  exact zip_shares_fst group g

/-- The grant of a group is what its members are allocated above Hmin. -/
theorem groupAllocs_granted (h : g ≤ (group.map Member.span).sum) :
    ((groupAllocs group g).map fun a => a.heat - a.member.hmin).sum = g := by
  have shares : ((groupAllocs group g).map fun a => a.heat - a.member.hmin) = divide g (group.map Member.span) := by
    refine Eq.trans ?_ (zip_shares_snd group g)
    rw [groupAllocs, List.map_map]
    exact List.map_congr_left fun x _ => Nat.add_sub_cancel_left x.1.hmin x.2
  rw [shares, divide_sum h]

theorem airOf_add (a b f lambda : Nat) : airOf (a + b) f lambda = airOf a f lambda + airOf b f lambda := by
  simp [airOf, Nat.add_mul]

/-- The air of a member at Hmin. -/
def leastAir (lambda : Nat) (m : Member) : Nat := airOf m.hmin m.airFactor lambda

/-- The air of an allocation. -/
def allocAir (lambda : Nat) (a : Allocated) : Nat := airOf a.heat a.member.airFactor lambda

theorem groupAllocs_air (lambda : Nat) (group : List Member) (g : Nat) :
    ((groupAllocs group g).map (allocAir lambda)).sum = (group.map (leastAir lambda)).sum + needOf lambda group g := by
  have least : (group.map (leastAir lambda)).sum
      = ((group.zip (divide g (group.map Member.span))).map fun x => leastAir lambda x.1).sum := by
    conv_lhs => rw [← zip_shares_fst group g]
    rw [List.map_map]
    rfl
  rw [groupAllocs, List.map_map, needOf, least, ← List.sum_map_add]
  exact congrArg List.sum (List.map_congr_left fun x _ => airOf_add _ _ _ _)

theorem groupAllocs_bounds (h : g ≤ (group.map Member.span).sum) {a : Allocated} (ha : a ∈ groupAllocs group g) :
    a.member ∈ group ∧ a.member.hmin ≤ a.heat ∧ (a.member.hmin ≤ a.member.hmaxEff → a.heat ≤ a.member.hmaxEff) := by
  obtain ⟨⟨m, share⟩, mem, rfl⟩ := List.mem_map.mp ha
  obtain ⟨i, hi⟩ := List.mem_iff_getElem?.mp mem
  obtain ⟨hm, hs⟩ := List.getElem?_zip_eq_some.mp hi
  have le := divide_share_le (x := m.span) h (by rw [List.getElem?_map, hm]; rfl) hs
  refine ⟨List.mem_of_getElem? hm, Nat.le_add_right _ _, fun bound => ?_⟩
  rw [Member.span] at le
  dsimp only at bound ⊢
  omega

end

/-! ### One rank (05 R105, R106) -/

section

variable {lambda : Nat} {members : List Member} {acc : Fill} {rank : Nat}

theorem fitGrant_le (lambda : Nat) (group : List Member) (airLeft g : Nat) : fitGrant lambda group airLeft g ≤ g := by
  induction g with
  | zero => exact Nat.le_refl _
  | succ g ih =>
    rw [fitGrant]
    split
    · exact Nat.le_refl _
    · exact Nat.le_succ_of_le ih

theorem fitGrant_fits (lambda : Nat) (group : List Member) (airLeft g : Nat) :
    needOf lambda group (fitGrant lambda group airLeft g) ≤ airLeft := by
  induction g with
  | zero =>
    rw [fitGrant, needOf_zero]
    exact Nat.zero_le _
  | succ g ih =>
    rw [fitGrant]
    split
    · assumption
    · exact ih

/-- A grant whose air does not fit is scaled down. -/
theorem scaledGrant_le {group : List Member} {airLeft g : Nat} (h : ¬ needOf lambda group g ≤ airLeft) :
    scaledGrant lambda group airLeft g ≤ g := by
  have less : airLeft < needOf lambda group g := Nat.lt_of_not_le h
  refine (fitGrant_le _ _ _ _).trans (Nat.div_le_of_le_mul ?_)
  rw [Nat.mul_comm]
  exact Nat.mul_le_mul_right g less.le

/-- The group of a rank. -/
def rankGroup (members : List Member) (rank : Nat) : List Member := members.filter fun m => m.rank == rank

/-- What one rank is granted, and what is left after it. -/
theorem fillRank_grant (lambda : Nat) (members : List Member) (acc : Fill) (rank : Nat) : ∃ g, g ≤ acc.remaining
    ∧ g ≤ ((rankGroup members rank).map Member.span).sum ∧ needOf lambda (rankGroup members rank) g ≤ acc.airLeft
    ∧ (fillRank lambda members acc rank).remaining = acc.remaining - g
    ∧ (fillRank lambda members acc rank).airLeft = acc.airLeft - needOf lambda (rankGroup members rank) g
    ∧ (fillRank lambda members acc rank).allocs = acc.allocs ++ groupAllocs (rankGroup members rank) g := by
  have made : fillRank lambda members acc rank = if ((rankGroup members rank).map Member.span).sum = 0
      then { acc with allocs := acc.allocs ++ (rankGroup members rank).map fun m => ⟨m, m.hmin⟩ }
      else
        let g := min acc.remaining ((rankGroup members rank).map Member.span).sum
        let fits := decide (needOf lambda (rankGroup members rank) g ≤ acc.airLeft)
        let g' := if fits then g else scaledGrant lambda (rankGroup members rank) acc.airLeft g
        ⟨acc.remaining - g', acc.airLeft - needOf lambda (rankGroup members rank) g', acc.limited || !fits,
          acc.allocs ++ groupAllocs (rankGroup members rank) g'⟩ := rfl
  generalize rankGroup members rank = group at *
  by_cases closed : (group.map Member.span).sum = 0
  · rw [if_pos closed] at made
    rw [made]
    exact ⟨0, Nat.zero_le _, Nat.zero_le _, by rw [needOf_zero]; exact Nat.zero_le _, rfl, by rw [needOf_zero]; rfl,
      by rw [groupAllocs_zero]⟩
  · rw [if_neg closed] at made
    dsimp only at made
    by_cases fits : needOf lambda group (min acc.remaining (group.map Member.span).sum) ≤ acc.airLeft
    · rw [decide_eq_true fits, if_pos rfl] at made
      rw [made]
      exact ⟨_, min_le_left _ _, min_le_right _ _, fits, rfl, rfl, rfl⟩
    · rw [decide_eq_false fits, if_neg (by decide)] at made
      rw [made]
      have le := scaledGrant_le fits
      exact ⟨_, le.trans (min_le_left _ _), le.trans (min_le_right _ _), fitGrant_fits _ _ _ _, rfl, rfl, rfl⟩

/-- What holds of the fill while the ranks are filled: heat and air are given out of what there was. -/
structure FillSound (lambda remaining air : Nat) (acc : Fill) : Prop where
  granted : (acc.allocs.map fun a => a.heat - a.member.hmin).sum + acc.remaining = remaining
  air : (acc.allocs.map (allocAir lambda)).sum + acc.airLeft
    = ((acc.allocs.map Allocated.member).map (leastAir lambda)).sum + air
  bounds : ∀ a ∈ acc.allocs, a.member ∈ members ∧ a.member.hmin ≤ a.heat
    ∧ (a.member.hmin ≤ a.member.hmaxEff → a.heat ≤ a.member.hmaxEff)

theorem fillRank_sound {remaining air : Nat} (h : FillSound (members := members) lambda remaining air acc) (rank : Nat) :
    FillSound (members := members) lambda remaining air (fillRank lambda members acc rank) := by
  obtain ⟨g, left, spans, fits, remaining', air', allocs⟩ := fillRank_grant lambda members acc rank
  obtain ⟨granted, aired, bounds⟩ := h
  have given := groupAllocs_granted spans
  have need := groupAllocs_air lambda (rankGroup members rank) g
  refine ⟨?_, ?_, fun a ha => ?_⟩
  · rw [allocs, remaining', List.map_append, List.sum_append, given]
    omega
  · rw [allocs, air', List.map_append, List.sum_append, need, List.map_append, groupAllocs_members, List.map_append,
      List.sum_append]
    omega
  · rw [allocs] at ha
    rcases List.mem_append.mp ha with ha | ha
    · exact bounds a ha
    · obtain ⟨mem, least, most⟩ := groupAllocs_bounds spans ha
      exact ⟨(List.mem_filter.mp mem).1, least, most⟩

theorem foldl_fillRank_members (lambda : Nat) (members : List Member) (ranks : List Nat) (acc : Fill) :
    (ranks.foldl (fillRank lambda members) acc).allocs.map Allocated.member
      = acc.allocs.map Allocated.member ++ ranks.flatMap (rankGroup members) := by
  induction ranks generalizing acc with
  | nil => simp
  | cons rank ranks ih =>
    obtain ⟨g, -, -, -, -, -, allocs⟩ := fillRank_grant lambda members acc rank
    rw [List.foldl_cons, ih, allocs, List.map_append, groupAllocs_members, List.flatMap_cons, List.append_assoc]

/-- The groups of distinct ranks are parts of the members. -/
theorem rankGroups_sum_le (w : Member → Nat) {ranks : List Nat} (distinct : ranks.Nodup) (members : List Member) :
    ((ranks.flatMap (rankGroup members)).map w).sum ≤ (members.map w).sum := by
  induction ranks generalizing members with
  | nil => exact Nat.zero_le _
  | cons r ranks ih =>
    obtain ⟨fresh, distinct⟩ := List.nodup_cons.mp distinct
    have apart : ranks.flatMap (rankGroup members) = ranks.flatMap (rankGroup (members.filter fun m => !(m.rank == r))) := by
      refine List.flatMap_congr fun q hq => ?_
      have ne : q ≠ r := fun e => fresh (e ▸ hq)
      rw [rankGroup, rankGroup, List.filter_filter]
      refine List.filter_congr fun m _ => ?_
      by_cases h : m.rank = q
      · simp [h, ne]
      · simp [h]
    have parts : ((rankGroup members r).map w).sum + ((members.filter fun m => !(m.rank == r)).map w).sum
        = (members.map w).sum := by
      rw [← List.sum_append, ← List.map_append]
      exact ((List.filter_append_perm (fun m : Member => m.rank == r) members).map w).sum_eq
    have rest := ih distinct (members.filter fun m => !(m.rank == r))
    rw [List.flatMap_cons, List.map_append, List.sum_append, apart]
    omega

theorem fillRanks_sound (lambda : Nat) (members : List Member) (remaining air : Nat) :
    FillSound (members := members) lambda remaining air (fillRanks lambda members remaining air) := by
  have kept : ∀ (ranks : List Nat) (acc : Fill), FillSound (members := members) lambda remaining air acc →
      FillSound (members := members) lambda remaining air (ranks.foldl (fillRank lambda members) acc) := by
    intro ranks
    induction ranks with
    | nil => exact fun _ h => h
    | cons rank ranks ih => exact fun acc h => ih _ (fillRank_sound h rank)
  exact kept _ _ ⟨by simp, by simp, by simp⟩

/-- The air of the ranks is within the minimum air of the members and the air there was. -/
theorem fillRanks_air_le (lambda : Nat) (members : List Member) (remaining air : Nat) :
    ((fillRanks lambda members remaining air).allocs.map (allocAir lambda)).sum
      ≤ (members.map (leastAir lambda)).sum + air := by
  have sound := (fillRanks_sound lambda members remaining air).air
  have parts := rankGroups_sum_le (leastAir lambda) (ranks := [0, 1, 2, 3, 4, 5, 6, 7]) (by decide) members
  rw [fillRanks, foldl_fillRank_members, List.map_nil, List.nil_append] at sound
  rw [fillRanks]
  omega

end

/-! ### The pass (05 R102 to R107) -/

section

variable {p : PassInput} {t : Member}

theorem run_short (h : p.isShort = true) : p.run = ⟨p.allocatable.map fun m => ⟨m, m.hmin⟩, 0, true, false⟩ := if_pos h

/-- The fill of a pass that is not short. -/
def passFill (p : PassInput) : Fill :=
  fillRanks p.lambda p.nonTrim (p.dEff - p.minHeat) (p.supplyMicro - p.minAir)

theorem run_trim (h : p.isShort = false) (trim : p.trim = some t) : p.run = ⟨(passFill p).allocs ++ [⟨t, (p.trimAlloc t).1⟩],
    (passFill p).airLeft, false, (passFill p).limited || (p.trimAlloc t).2⟩ := by
  unfold PassInput.run
  rw [if_neg (by simp [h]), trim]
  rfl

theorem run_untrimmed (h : p.isShort = false) (trim : p.trim = none) :
    p.run = ⟨(passFill p).allocs, (passFill p).airLeft, false, (passFill p).limited⟩ := by
  unfold PassInput.run
  rw [if_neg (by simp [h]), trim]
  rfl

/-- The allocations of a pass to members other than the trim channel are of the fill. -/
theorem run_untrim_sublist (h : p.isShort = false) :
    (p.run.allocs.filter fun a => decide (p.trim ≠ some a.member)).Sublist (passFill p).allocs := by
  cases trim : p.trim with
  | none =>
    rw [run_untrimmed h trim]
    exact List.filter_sublist
  | some t =>
    rw [run_trim h trim, List.filter_append]
    have last : ([⟨t, (p.trimAlloc t).1⟩] : List Allocated).filter (fun a => decide (some t ≠ some a.member)) = [] := by simp
    rw [last, List.append_nil]
    exact List.filter_sublist

theorem nonTrim_sublist (p : PassInput) : p.nonTrim.Sublist p.allocatable := by
  unfold PassInput.nonTrim
  split
  · exact List.filter_sublist
  · exact List.Sublist.refl _

theorem allocatable_of_trim (h : p.trim = some t) : t ∈ p.allocatable := List.mem_of_find?_eq_some h

/-- The minimum air holds that of the non-trim members and of the fixed ones. -/
theorem nonTrim_minAir_le (p : PassInput) : (p.nonTrim.map (leastAir p.lambda)).sum + p.fixedAir ≤ p.minAir :=
  Nat.add_le_add_right (((nonTrim_sublist p).map _).sum_le_sum fun _ _ => Nat.zero_le _) _

theorem clampInt_eq {a b : Nat} (h : a ≤ b) (x : Int) : clampInt x a b = max (a : Int) (min (b : Int) x) := by
  unfold clampInt
  split
  · omega
  · split <;> omega

/-- What the trim channel is allocated. -/
theorem trimAlloc_eq (ordered : t.hmin ≤ t.hmaxEff) {target : Int}
    (ht : target = max (t.hmin : Int) (min (t.hmaxEff : Int)
      ((p.dEff : Int) - ((p.nonTrim ++ p.fixed).map Member.actual).sum))) :
    ((p.trimAlloc t).1 : Int) = (if target ≤ p.trimCap t then target else max (t.hmin : Int) (p.trimCap t))
      ∧ (p.trimCap t < target → (p.trimAlloc t).2 = true) := by
  have aim : ((p.trimTarget t : Nat) : Int) = target := by
    rw [PassInput.trimTarget, clampInt_eq ordered, ← ht]
    exact Int.toNat_of_nonneg (by omega)
  unfold PassInput.trimAlloc
  rw [aim]
  split
  · exact ⟨aim, fun below => by omega⟩
  · exact ⟨Int.toNat_of_nonneg (by omega), fun _ => rfl⟩

theorem trimAlloc_bounds (ordered : t.hmin ≤ t.hmaxEff) :
    t.hmin ≤ (p.trimAlloc t).1 ∧ (p.trimAlloc t).1 ≤ t.hmaxEff := by
  have eq := (trimAlloc_eq (p := p) ordered rfl).1
  split at eq <;> omega

end

/-- Settles O41: the grants and the air by the fill of the ranks, the trim channel by its target and its cap. -/
theorem allocationBounds : Obligations.AllocationBounds := by
  have aired : ∀ p : PassInput, p.isShort = false →
      ((p.run.allocs.filter fun a => decide (p.trim ≠ some a.member)).map (allocAir p.lambda)).sum + p.fixedAir
        ≤ p.supplyMicro := by
    intro p long
    have enough : p.minAir ≤ p.supplyMicro := by simpa [PassInput.isShort] using long
    have fill := fillRanks_air_le p.lambda p.nonTrim (p.dEff - p.minHeat) (p.supplyMicro - p.minAir)
    have part := ((run_untrim_sublist long).map (allocAir p.lambda)).sum_le_sum fun _ _ => Nat.zero_le _
    have least := nonTrim_minAir_le p
    rw [passFill] at part
    omega
  refine ⟨fun p => ?_, aired, fun p long trim => ?_, fun p t others target cap long trim ordered ho ht hc => ?_,
    fun p ordered a ha => ?_⟩
  · cases long : p.isShort with
    | true =>
      rw [run_short long]
      refine le_of_eq_of_le (List.sum_eq_zero_iff.mpr fun n hn => ?_) (Nat.zero_le _)
      obtain ⟨a, ha, rfl⟩ := List.mem_map.mp hn
      obtain ⟨m, -, rfl⟩ := List.mem_map.mp (List.mem_filter.mp ha).1
      exact Nat.sub_self _
    | false =>
      have granted := (fillRanks_sound p.lambda p.nonTrim (p.dEff - p.minHeat) (p.supplyMicro - p.minAir)).granted
      have part := ((run_untrim_sublist long).map fun a => a.heat - a.member.hmin).sum_le_sum fun _ _ => Nat.zero_le _
      rw [passFill] at part
      omega
  · have all := aired p long
    rw [List.filter_eq_self.mpr fun a _ => by simp [trim]] at all
    exact all
  · have same : others = p.nonTrim ++ p.fixed := by
      rw [ho, PassInput.nonTrim, trim]
      refine congrArg (· ++ p.fixed) (List.filter_congr fun m _ => ?_)
      rw [Bool.eq_iff_iff]
      simp [Prod.ext_iff]
    rw [same] at ht hc
    obtain ⟨heat, limited⟩ := trimAlloc_eq ordered ht
    have capped : p.trimCap t = cap := hc.symm
    rw [run_trim long trim, ← capped]
    exact ⟨_, List.mem_append_right _ (List.mem_singleton_self _), rfl, heat, fun below => by
      rw [limited below, Bool.or_true]⟩
  · cases long : p.isShort with
    | true =>
      rw [run_short long] at ha
      obtain ⟨m, hm, rfl⟩ := List.mem_map.mp ha
      exact ⟨hm, Nat.le_refl _, ordered m hm⟩
    | false =>
      have filled : ∀ b ∈ (passFill p).allocs, b.member ∈ p.allocatable ∧ b.member.hmin ≤ b.heat
          ∧ b.heat ≤ b.member.hmaxEff := fun b hb => by
        obtain ⟨mem, least, most⟩ := (fillRanks_sound _ _ _ _).bounds b hb
        have mem' := (nonTrim_sublist p).subset mem
        exact ⟨mem', least, most (ordered _ mem')⟩
      cases trim : p.trim with
      | none =>
        rw [run_untrimmed long trim] at ha
        exact filled a ha
      | some t =>
        rw [run_trim long trim] at ha
        rcases List.mem_append.mp ha with ha | ha
        · exact filled a ha
        · obtain rfl := List.mem_singleton.mp ha
          have mem := allocatable_of_trim trim
          exact ⟨mem, trimAlloc_bounds (ordered t mem)⟩

end Sys2Proof.Proofs
end

section
/-! PROOF. What a write of a condition makes of the own alarm list (O44; 07 sections 7.2 to 7.6). -/

namespace Sys2Proof.Proofs
open Sys2Proof.Machine

/-! ### The write of a condition -/

section

variable {s : State} {id : AlarmId}

/-- The state with a condition's bit and value written. -/
def risen (s : State) (id : AlarmId) (v : Option Nat) : State := s.mapAlarm id fun a => { a with cond := true, condValue := v }

/-- The state with a condition's bit taken away. -/
def fallen (s : State) (id : AlarmId) : State := s.mapAlarm id fun a => { a with cond := false }

theorem setCond_rise (on : s.configured = true) (off : s.cond id = false) (v : Option Nat) :
    s.setCond id true v = fullNotice s ((risen s id v).condRise id) := by
  unfold State.setCond
  rw [if_neg (by simp [on, off]), if_pos rfl]
  rfl

theorem setCond_fall (on : s.configured = true) (set : s.cond id = true) (v : Option Nat) :
    s.setCond id false v = fullNotice s ((fallen s id).condFall id) := by
  unfold State.setCond
  rw [if_neg (by simp [on, set]), if_neg (by decide)]
  rfl

theorem fullNotice_al (b t : State) : (fullNotice b t).al = t.al := by
  unfold fullNotice
  split <;> rfl

theorem fullNotice_alarm (b t : State) (j : AlarmId) : (fullNotice b t).alarm j = t.alarm j := by
  rw [State.alarm, fullNotice_al, State.alarm]

theorem listFull_of_waiting {j : AlarmId} (h : (s.alarm j).waiting = true) : s.listFull = true :=
  List.any_eq_true.mpr ⟨s.alarm j, Vector.mem_toList_iff.mpr (Vector.getElem_mem j.isLt), h⟩

/-! ### Notices (07 R147) -/

theorem raiseAlarm_notices (s : State) (id : AlarmId) : (s.raiseAlarm id).sp.notices.alarmChanged = true
    ∧ (alarmPriority id = 1 → (s.raiseAlarm id).sp.notices.p1Raised = true) := by
  rw [raiseAlarm_eq]
  split
  · exact ⟨rfl, fun _ => rfl⟩
  · rename_i low
    exact ⟨rfl, fun top => absurd top low⟩

theorem fullNotice_notices (b : State) {t : State} : (t.sp.notices.alarmChanged = true →
      (fullNotice b t).sp.notices.alarmChanged = true)
    ∧ (t.sp.notices.p1Raised = true → (fullNotice b t).sp.notices.p1Raised = true) := by
  unfold fullNotice
  split
  · exact ⟨id, id⟩
  · exact ⟨fun _ => rfl, id⟩

/-! ### A raise (07 R134) -/

/-- The list and the counter after a raise: the entry stands at the tail with a sequence that no other entry holds. -/
theorem raiseAlarm_made (ids : (s.al.list.map AlarmEntry.id).Nodup) (low : lowOf s.al.list ≤ 27) (id : AlarmId)
    {l : List AlarmEntry} (hl : others s id = l) : ∃ seq, seq ∉ l.map AlarmEntry.seq
      ∧ (s.al.counter + 1 ∉ l.map AlarmEntry.seq → seq = s.al.counter + 1)
      ∧ (s.raiseAlarm id).al.list
        = l ++ [⟨id, .activeUnack, seq, s.stamp, none, (s.alarm id).condValue.map fun n => min n 65535, none⟩]
      ∧ (s.raiseAlarm id).al.counter = seq ∧ seq = raiseSeq s id := by
  subst hl
  exact ⟨raiseSeq s id, raiseSeq_free ids low id, fun free => freeSeq_first free, raiseAlarm_list s id,
    raiseAlarm_counter s id, rfl⟩

theorem lastSeq_of_quiet {a b : AlarmRec} (h : quiet a = quiet b) : a.lastSeq = b.lastSeq :=
  show (quiet a).lastSeq = (quiet b).lastSeq by rw [h]

theorem shiftRaises_of_quiet {a b : AlarmRec} (h : quiet a = quiet b) : a.shiftRaises = b.shiftRaises :=
  show (quiet a).shiftRaises = (quiet b).shiftRaises by rw [h]

theorem raiseAlarm_rec (s : State) (id : AlarmId) : ((s.raiseAlarm id).alarm id).lastSeq = some (raiseSeq s id)
    ∧ ((s.raiseAlarm id).alarm id).shiftRaises = min ((s.alarm id).shiftRaises + 1) 255
    ∧ ((s.raiseAlarm id).alarm id).waiting = false := by
  have own := raiseAlarm_quiet s id id
  rw [if_pos rfl] at own
  exact ⟨lastSeq_of_quiet (b := raisedRec s id) own, shiftRaises_of_quiet (b := raisedRec s id) own,
    waiting_of_quiet (b := raisedRec s id) own⟩

theorem raiseAlarm_waiting_other {j : AlarmId} (h : j ≠ id) : ((s.raiseAlarm id).alarm j).waiting = (s.alarm j).waiting :=
  waiting_of_quiet (by rw [raiseAlarm_quiet, if_neg h])

/-! ### The entry to displace (07 R143) -/

theorem find?_head {p : AlarmEntry → Bool} {a b : List AlarmEntry} {d : AlarmEntry} (hd : p d = true)
    (before : ∀ x ∈ a, p x = false) : (a ++ d :: b).find? p = some d :=
  List.find?_eq_some_iff_append.mpr ⟨hd, a, b, rfl, fun x hx => by simp [before x hx]⟩

theorem find?_nowhere {p : AlarmEntry → Bool} {a b : List AlarmEntry} {d : AlarmEntry} (hd : p d = false)
    (before : ∀ x ∈ a, p x = false) (after : ∀ x ∈ b, p x = false) : (a ++ d :: b).find? p = none := by
  rw [List.find?_eq_none]
  intro x hx
  rcases List.mem_append.mp hx with hx | hx
  · simp [before x hx]
  · rcases List.mem_cons.mp hx with rfl | hx
    · simp [hd]
    · simp [after x hx]

/-- The candidates of 07 R143 are those of a rank below 3. -/
def candidate (st : AlarmState) (p : Nat) (e : AlarmEntry) : Bool := e.state == st && alarmPriority e.id == p

theorem rank_zero_iff (e : AlarmEntry) (p : Nat) : e.displaceRank p = 0 ↔ candidate .clearedUnack 3 e = true := by
  unfold AlarmEntry.displaceRank candidate
  split
  · rename_i h
    simp [h]
  · rename_i h
    split
    · simpa using h
    · split <;> simpa using h

theorem rank_one_iff (e : AlarmEntry) (p : Nat) :
    e.displaceRank p = 1 ↔ candidate .clearedUnack 2 e = true ∧ p = 2 := by
  unfold AlarmEntry.displaceRank candidate
  split
  · rename_i h
    simp [h]
  · split
    · rename_i h
      simp [h]
    · rename_i h
      split <;> simpa [and_assoc] using h

theorem rank_two_iff (e : AlarmEntry) (p : Nat) : e.displaceRank p = 2 ↔ candidate .activeAcked 3 e = true := by
  unfold AlarmEntry.displaceRank candidate
  split
  · rename_i h
    simp [h]
  · split
    · rename_i h
      simp [h]
    · split
      · rename_i h
        simp [h]
      · rename_i h
        simpa using h

theorem displaceable_eq (al : AlarmList) (p : Nat) : al.displaceable p = match al.list.find? (candidate .clearedUnack 3),
    (if p = 2 then al.list.find? (candidate .clearedUnack 2) else none), al.list.find? (candidate .activeAcked 3) with
  | some e, _, _ => some e
  | none, some e, _ => some e
  | none, none, r => r := rfl

theorem not_candidate {st : AlarmState} {q : Nat} {e : AlarmEntry} (h : ¬ candidate st q e = true) : candidate st q e = false :=
  Bool.eq_false_iff.mpr h

/-- The first entry of the lowest rank is displaced. -/
theorem displaceable_first {al : AlarmList} {p : Nat} {a b : List AlarmEntry} {d : AlarmEntry} (hl : al.list = a ++ d :: b)
    (low : d.displaceRank p < 3) (before : ∀ x ∈ a, d.displaceRank p < x.displaceRank p)
    (after : ∀ x ∈ b, d.displaceRank p ≤ x.displaceRank p) : al.displaceable p = some d := by
  have zero := fun x => rank_zero_iff x p
  have one := fun x => rank_one_iff x p
  have two := fun x => rank_two_iff x p
  rw [displaceable_eq, hl]
  have cases : d.displaceRank p = 0 ∨ d.displaceRank p = 1 ∨ d.displaceRank p = 2 := by omega
  rcases cases with rank | rank | rank
  · have first : (a ++ d :: b).find? (candidate .clearedUnack 3) = some d := find?_head ((zero d).mp rank) fun x hx =>
      not_candidate fun e => by have := before x hx; have := (zero x).mpr e; omega
    rw [first]
  · have none : (a ++ d :: b).find? (candidate .clearedUnack 3) = none := find?_nowhere
      (not_candidate fun e => by have := (zero d).mpr e; omega)
      (fun x hx => not_candidate fun e => by have := before x hx; have := (zero x).mpr e; omega)
      (fun x hx => not_candidate fun e => by have := after x hx; have := (zero x).mpr e; omega)
    obtain ⟨hd, two⟩ := (one d).mp rank
    have first : (a ++ d :: b).find? (candidate .clearedUnack 2) = some d := find?_head hd fun x hx =>
      not_candidate fun e => by have := before x hx; have := (one x).mpr ⟨e, two⟩; omega
    rw [none, if_pos two, first]
  · have none : (a ++ d :: b).find? (candidate .clearedUnack 3) = none := find?_nowhere
      (not_candidate fun e => by have := (zero d).mpr e; omega)
      (fun x hx => not_candidate fun e => by have := before x hx; have := (zero x).mpr e; omega)
      (fun x hx => not_candidate fun e => by have := after x hx; have := (zero x).mpr e; omega)
    have none' : (if p = 2 then (a ++ d :: b).find? (candidate .clearedUnack 2) else Option.none) = Option.none := by
      split
      · rename_i two
        exact find?_nowhere (not_candidate fun e => by have := (one d).mpr ⟨e, two⟩; omega)
          (fun x hx => not_candidate fun e => by have := before x hx; have := (one x).mpr ⟨e, two⟩; omega)
          (fun x hx => not_candidate fun e => by have := after x hx; have := (one x).mpr ⟨e, two⟩; omega)
      · rfl
    have first : (a ++ d :: b).find? (candidate .activeAcked 3) = some d := find?_head ((two d).mp rank) fun x hx =>
      not_candidate fun e => by have := before x hx; have := (two x).mpr e; omega
    rw [none, none', first]

/-- Without an entry of a rank below 3 none is displaced. -/
theorem displaceable_none {al : AlarmList} {p : Nat} (h : ∀ x ∈ al.list, x.displaceRank p = 3) :
    al.displaceable p = none := by
  have none : ∀ {q : AlarmEntry → Bool} {k : Nat}, k < 3 → (∀ x, q x = true → x.displaceRank p = k) →
      al.list.find? q = Option.none := fun {q k} hk rank => List.find?_eq_none.mpr fun x hx e => by
    have := h x hx
    have := rank x e
    omega
  rw [displaceable_eq, none (k := 0) (by omega) fun x e => (rank_zero_iff x p).mpr e,
    none (k := 2) (by omega) fun x e => (rank_two_iff x p).mpr e]
  split
  · rename_i h
    cases h
  · rename_i x _ found
    split at found
    · rename_i two
      rw [none (k := 1) (by omega) fun x e => (rank_one_iff x p).mpr ⟨e, two⟩] at found
      cases found
    · cases found
  · rfl

end

/-! ### A rise (07 R135, R136, R142, R143) -/

section

variable {s : State} {id : AlarmId} {v : Option Nat}

theorem risen_alarm_same : (risen s id v).alarm id = { s.alarm id with cond := true, condValue := v } :=
  State.mapAlarm_alarm_same _ _ _

theorem risen_alarm_other {j : AlarmId} (h : j ≠ id) : (risen s id v).alarm j = s.alarm j :=
  State.mapAlarm_alarm_other _ _ (Ne.symm h)

theorem condRise_unlisted (h : s.al.entry? id = none) : s.condRise id = s.raiseNew id := by
  unfold State.condRise
  rw [h]

theorem condRise_listed {e : AlarmEntry} (h : s.al.entry? id = some e) :
    s.condRise id = if e.state = .clearedUnack then s.raiseAlarm id else s := by
  unfold State.condRise
  rw [h]
  dsimp only
  cases e.state with
  | clearedUnack => rfl
  | activeUnack => rfl
  | activeAcked => rfl
  | shelved => rfl

theorem raiseNew_room (h : alarmPriority id = 1 ∨ s.al.lowCount < 27) : s.raiseNew id = s.raiseAlarm id := if_pos h

theorem raiseNew_displaces (low : alarmPriority id ≠ 1) (full : s.al.lowCount = 27) {d : AlarmEntry}
    (h : s.al.displaceable (alarmPriority id) = some d) : s.raiseNew id = (s.displace d.id).raiseAlarm id := by
  unfold State.raiseNew
  rw [if_neg (by omega), h]

theorem raiseNew_turned (low : alarmPriority id ≠ 1) (full : s.al.lowCount = 27)
    (h : s.al.displaceable (alarmPriority id) = none) :
    s.raiseNew id = s.mapAlarm id fun a => { a with waiting := true } := by
  unfold State.raiseNew
  rw [if_neg (by omega), h]

/-- A displaced entry leaves the list, and its id is pending if its condition is true. -/
theorem displace_quiet (d j : AlarmId) : quiet ((s.displace d).alarm j)
    = if j = d ∧ s.cond d = true then { quiet (s.alarm j) with waiting := true } else quiet (s.alarm j) := by
  have removed := removeEntry_quiet s d
  have cond : (s.removeEntry d).cond d = s.cond d := cond_of_quiet (removed d)
  unfold State.displace
  dsimp only
  rw [cond]
  split
  · rename_i set
    by_cases h : j = d
    · subst h
      rw [if_pos ⟨rfl, set⟩, State.mapAlarm_alarm_same]
      change { quiet ((s.removeEntry j).alarm j) with waiting := true } = _
      rw [removed]
    · rw [if_neg fun e => h e.1, State.mapAlarm_alarm_other _ _ (Ne.symm h), removed]
  · rename_i set
    rw [if_neg fun e => set e.2, removed]

theorem displace_counter (d : AlarmId) : (s.displace d).al.counter = s.al.counter := by
  have removed : (s.removeEntry d).al.counter = s.al.counter := by
    change (bare (s.removeEntry d)).counter = _
    rw [removeEntry_bare]
    rfl
  unfold State.displace
  dsimp only
  split
  · exact removed
  · exact removed

theorem stamp_displace (d : AlarmId) : (s.displace d).stamp = s.stamp := by
  have plant := State.displace_plant (s := s) d
  change (s.displace d).plant.stamp = s.plant.stamp
  rw [plant]

/-- A rise with a full list: the entry of the lowest rank makes room. -/
theorem rise_displaces (sound : s.AlarmSound) (on : s.configured = true) (off : s.cond id = false)
    (unlisted : s.al.entry? id = none) (low : alarmPriority id ≠ 1) (full : s.al.lowCount = 27) {a b : List AlarmEntry}
    {d : AlarmEntry} (hl : s.al.list = a ++ d :: b) (rank : d.displaceRank (alarmPriority id) < 3)
    (before : ∀ x ∈ a, d.displaceRank (alarmPriority id) < x.displaceRank (alarmPriority id))
    (after : ∀ x ∈ b, d.displaceRank (alarmPriority id) ≤ x.displaceRank (alarmPriority id)) :
    ∃ seq, seq ∉ (a ++ b).map AlarmEntry.seq
      ∧ (s.al.counter + 1 ∉ (a ++ b).map AlarmEntry.seq → seq = s.al.counter + 1)
      ∧ (s.setCond id true v).al.counter = seq
      ∧ (s.setCond id true v).al.list
        = a ++ b ++ [⟨id, .activeUnack, seq, s.stamp, none, v.map fun n => min n 65535, none⟩]
      ∧ ((s.setCond id true v).alarm d.id).waiting = s.cond d.id := by
  obtain ⟨agree, -, -⟩ := (alarmSound_iff s).mp sound
  obtain ⟨places⟩ := ((alarmSound_iff s).mp sound).2.1
  have mem : d ∈ s.al.list := by simp [hl]
  have apart : d.id ≠ id := entry?_none.mp unlisted d mem
  have left : others (risen s id v) d.id = a ++ b := by
    have ids := agree.ids
    rw [others_eq_filter (s := risen s id v) ids]
    change s.al.list.filter _ = _
    rw [hl] at ids ⊢
    rw [List.map_append, List.map_cons, List.nodup_middle, List.nodup_cons] at ids
    have fresh : ∀ x ∈ a ++ b, x.id ≠ d.id := fun x hx e => ids.1 (by
      rw [← List.map_append, ← e]
      exact List.mem_map_of_mem hx)
    rw [List.filter_append, List.filter_cons_of_neg (by simp),
      List.filter_eq_self.mpr fun x hx => by simpa using fresh x (List.mem_append_left _ hx),
      List.filter_eq_self.mpr fun x hx => by simpa using fresh x (List.mem_append_right _ hx)]
  have made : s.setCond id true v = fullNotice s (((risen s id v).displace d.id).raiseAlarm id) := by
    rw [setCond_rise on off, condRise_unlisted (s := risen s id v) unlisted,
      raiseNew_displaces (s := risen s id v) low full (displaceable_first hl rank before after)]
  have list : ((risen s id v).displace d.id).al.list = a ++ b := (displace_list _ _).trans left
  have rest : others ((risen s id v).displace d.id) id = a ++ b := by
    rw [others_unlisted (entry?_none.mpr fun x hx => ?_), list]
    rw [list] at hx
    exact entry?_none.mp unlisted x (by rw [hl]; simpa [or_left_comm] using Or.inr (List.mem_append.mp hx))
  have sub : (a ++ b).Sublist s.al.list := by rw [hl]; exact (List.Sublist.refl a).append (List.sublist_cons_self d b)
  obtain ⟨seq, free, next, list', counter, -⟩ := raiseAlarm_made (s := (risen s id v).displace d.id)
    (by rw [list]; exact agree.ids.sublist (sub.map _)) (by rw [list]; exact (sub.countP_le).trans places) id rest
  have value : (((risen s id v).displace d.id).alarm id).condValue = v := by
    have own := displace_quiet (s := risen s id v) d.id id
    rw [if_neg fun e => apart e.1.symm, risen_alarm_same] at own
    exact (condValue_of_quiet own).trans rfl
  rw [displace_counter] at next
  rw [value, stamp_displace] at list'
  refine ⟨seq, free, next, ?_, ?_, ?_⟩
  · rw [made, fullNotice_al, counter]
  · rw [made, fullNotice_al, list']
    rfl
  · rw [made, fullNotice_alarm, raiseAlarm_waiting_other apart]
    have own := displace_quiet (s := risen s id v) d.id d.id
    have idle : (s.alarm d.id).waiting = false := by
      have := agree.pending d.id trivial
      rw [entry?_of_mem agree.ids mem] at this
      simpa using this
    have cond : (risen s id v).cond d.id = s.cond d.id := by rw [State.cond, risen_alarm_other apart, State.cond]
    rw [cond, risen_alarm_other apart] at own
    cases set : s.cond d.id with
    | true =>
      rw [if_pos ⟨rfl, set⟩] at own
      exact (waiting_of_quiet (b := { s.alarm d.id with waiting := true }) own).trans rfl
    | false =>
      rw [if_neg fun e => by simp [set] at e] at own
      exact (waiting_of_quiet own).trans idle

/-- A rise with a full list that has nothing to displace. -/
theorem rise_turned (on : s.configured = true) (off : s.cond id = false) (unlisted : s.al.entry? id = none)
    (low : alarmPriority id ≠ 1) (full : s.al.lowCount = 27)
    (h : ∀ x ∈ s.al.list, x.displaceRank (alarmPriority id) = 3) : (s.setCond id true v).al.list = s.al.list
      ∧ (s.setCond id true v).al.counter = s.al.counter ∧ ((s.setCond id true v).alarm id).waiting = true
      ∧ (s.setCond id true v).listFull = true := by
  have made : s.setCond id true v = fullNotice s ((risen s id v).mapAlarm id fun a => { a with waiting := true }) := by
    rw [setCond_rise on off, condRise_unlisted (s := risen s id v) unlisted,
      raiseNew_turned (s := risen s id v) low full (displaceable_none h)]
  have waits : ((s.setCond id true v).alarm id).waiting = true := by
    rw [made, fullNotice_alarm, State.mapAlarm_alarm_same]
  refine ⟨?_, ?_, waits, listFull_of_waiting waits⟩
  · rw [made, fullNotice_al]
    rfl
  · rw [made, fullNotice_al]
    rfl

/-- A rise of a CLEARED_UNACK entry raises it again. -/
theorem rise_again (sound : s.AlarmSound) (on : s.configured = true) (off : s.cond id = false) {e : AlarmEntry}
    (listed : s.al.entry? id = some e) (cleared : e.state = .clearedUnack) :
    ∃ seq, (s.setCond id true v).al.counter = seq
      ∧ seq ∉ (s.al.list.filter fun x => decide (x.id ≠ id)).map AlarmEntry.seq
      ∧ (s.al.counter + 1 ∉ (s.al.list.filter fun x => decide (x.id ≠ id)).map AlarmEntry.seq → seq = s.al.counter + 1)
      ∧ (s.setCond id true v).al.list = (s.al.list.filter fun x => decide (x.id ≠ id))
        ++ [⟨id, .activeUnack, seq, s.stamp, none, v.map fun n => min n 65535, none⟩] := by
  obtain ⟨agree, ⟨low, -⟩, -⟩ := (alarmSound_iff s).mp sound
  have made : s.setCond id true v = fullNotice s ((risen s id v).raiseAlarm id) := by
    rw [setCond_rise on off, condRise_listed (s := risen s id v) listed, if_pos cleared]
  obtain ⟨seq, free, next, list, counter, -⟩ := raiseAlarm_made (s := risen s id v) agree.ids low id
    (others_eq_filter (s := risen s id v) agree.ids)
  rw [risen_alarm_same] at list
  rw [made, fullNotice_al]
  exact ⟨seq, counter, free, next, list⟩

theorem rise_shelved (on : s.configured = true) (off : s.cond id = false) {e : AlarmEntry}
    (listed : s.al.entry? id = some e) (shelved : e.state = .shelved) :
    (s.setCond id true v).al = { s.al with recs := (s.setCond id true v).al.recs } := by
  have made : s.setCond id true v = fullNotice s (risen s id v) := by
    rw [setCond_rise on off, condRise_listed (s := risen s id v) listed, if_neg (by rw [shelved]; decide)]
  rw [made, fullNotice_al]
  rfl

/-! ### A fall (07 R136, R142, R144) -/

theorem fallen_alarm_same : (fallen s id).alarm id = { s.alarm id with cond := false } := State.mapAlarm_alarm_same _ _ _

theorem fallen_waiting (j : AlarmId) : ((fallen s id).alarm j).waiting = (s.alarm j).waiting := by
  by_cases h : j = id
  · rw [h, fallen_alarm_same]
  · rw [fallen, State.mapAlarm_alarm_other _ _ (Ne.symm h)]

theorem condFall_unlisted (h : s.al.entry? id = none) :
    s.condFall id = s.mapAlarm id fun a => { a with waiting := false } := by
  unfold State.condFall
  rw [h]

theorem condFall_listed {e : AlarmEntry} (h : s.al.entry? id = some e) : s.condFall id = match e.state with
    | .activeUnack => (s.mapEntry id fun x => { x with state := .clearedUnack, clearTime := some s.stamp }).publishAlarm id
    | .activeAcked => (s.removeEntry id).refill
    | .clearedUnack => s
    | .shelved => s := by
  unfold State.condFall
  rw [h] <;> rfl

theorem publishAlarm_list (s : State) (id : AlarmId) : (s.publishAlarm id).al.list = s.al.list :=
  list_of_bare (publishAlarm_bare s id)

/-- Without a free place, or without a pending id, there is nothing to raise. -/
theorem refill_idle (h : s.al.lowCount = 27 ∨ s.pendingIds = []) : s.refill = s := by
  unfold State.refill
  rcases h with h | h
  · rw [h, Nat.sub_self, List.take_zero, List.foldl_nil]
  · rw [h, List.take_nil, List.foldl_nil]

theorem pendingIds_nil (h : ∀ j, (s.alarm j).waiting = false) : s.pendingIds = [] := by
  simp [State.pendingIds, h]

/-- The order in which pending ids are raised (07 R144). -/
def Precedes (a b : AlarmId) : Prop := alarmPriority a < alarmPriority b ∨ (alarmPriority a = alarmPriority b ∧ a < b)

theorem pendingIds_ordered (s : State) : s.pendingIds.Pairwise Precedes := by
  have part : ∀ p : Nat, (allAlarms.filter fun id => (s.alarm id).waiting && alarmPriority id == p).Pairwise Precedes :=
    fun p => by
      have ordered : (allAlarms.filter fun id => (s.alarm id).waiting && alarmPriority id == p).Pairwise (· < ·) :=
        (List.pairwise_lt_finRange 114).filter _
      refine ordered.imp_of_mem fun {a b} ha hb lt => .inr ⟨?_, lt⟩
      simp only [List.mem_filter, Bool.and_eq_true, beq_iff_eq] at ha hb
      rw [ha.2.2, hb.2.2]
  refine List.pairwise_append.mpr ⟨part 2, part 3, fun a ha b hb => .inl ?_⟩
  simp only [List.mem_filter, Bool.and_eq_true, beq_iff_eq] at ha hb
  omega

/-- The first of the pending ids is the one that precedes the others. -/
theorem pendingIds_take (low : ∀ j, (s.alarm j).waiting = true → alarmPriority j ≠ 1) {p : AlarmId}
    (waits : (s.alarm p).waiting = true) (first : ∀ q, (s.alarm q).waiting = true → q ≠ p → Precedes p q) :
    s.pendingIds.take 1 = [p] := by
  have mem := (mem_pendingIds low).mpr waits
  have ordered := pendingIds_ordered s
  have waiting := fun q => mem_pendingIds (s := s) (id := q) low
  generalize s.pendingIds = l at *
  cases l with
  | nil => cases mem
  | cons q l =>
    have same : q = p := by
      by_contra ne
      have before := first q ((waiting q).mp List.mem_cons_self) ne
      have behind := (List.pairwise_cons.mp ordered).1 p ((List.mem_cons.mp mem).resolve_left (Ne.symm ne))
      simp only [Precedes, Fin.lt_def] at before behind
      omega
    rw [same]
    rfl

/-- A fall of an ACTIVE_ACKED entry that frees no place, or none that is waited for. -/
theorem fall_removes (sound : s.AlarmSound) (on : s.configured = true) (set : s.cond id = true) {e : AlarmEntry}
    (listed : s.al.entry? id = some e) (acked : e.state = .activeAcked)
    (h : alarmPriority id = 1 ∨ ∀ q, (s.alarm q).waiting = false) :
    (s.setCond id false v).al.list = s.al.list.filter fun x => decide (x.id ≠ id) := by
  obtain ⟨agree, ⟨low, full⟩, -⟩ := (alarmSound_iff s).mp sound
  have made : s.setCond id false v = fullNotice s ((fallen s id).removeEntry id).refill := by
    rw [setCond_fall on set, condFall_listed (s := fallen s id) listed, acked]
  have list : ((fallen s id).removeEntry id).al.list = s.al.list.filter fun x => decide (x.id ≠ id) :=
    (removeEntry_list _ _).trans (others_eq_filter (s := fallen s id) agree.ids)
  have waiting : ∀ j, (((fallen s id).removeEntry id).alarm j).waiting = (s.alarm j).waiting := fun j =>
    (waiting_of_quiet (removeEntry_quiet _ id j)).trans (fallen_waiting j)
  have idle : ((fallen s id).removeEntry id).al.lowCount = 27 ∨ ((fallen s id).removeEntry id).pendingIds = [] := by
    by_cases none : ∀ q, (s.alarm q).waiting = false
    · exact .inr (pendingIds_nil fun j => (waiting j).trans (none j))
    · obtain ⟨q, hq⟩ := not_forall.mp none
      have all := full q (by simpa using hq)
      refine .inl ?_
      rw [lowCount_eq, removeEntry_list, lowOf_others_top (h.resolve_right none)]
      exact all
  rw [made, refill_idle idle, fullNotice_al, list]

/-- A fall of an ACTIVE_ACKED entry that frees a place raises the first pending id. -/
theorem fall_refills (sound : s.AlarmSound) (on : s.configured = true) (set : s.cond id = true) {e : AlarmEntry}
    (listed : s.al.entry? id = some e) (acked : e.state = .activeAcked) (low : alarmPriority id ≠ 1) {p : AlarmId}
    (waits : (s.alarm p).waiting = true) (first : ∀ q, (s.alarm q).waiting = true → q ≠ p → Precedes p q) :
    ∃ seq, (s.setCond id false v).al.list = (s.al.list.filter fun x => decide (x.id ≠ id))
        ++ [⟨p, .activeUnack, seq, s.stamp, none, (s.alarm p).condValue.map fun n => min n 65535, none⟩]
      ∧ seq ∉ (s.al.list.filter fun x => decide (x.id ≠ id)).map AlarmEntry.seq
      ∧ (s.setCond id false v).al.counter = seq ∧ ((s.setCond id false v).alarm p).waiting = false
      ∧ ∀ q, q ≠ p → ((s.setCond id false v).alarm q).waiting = (s.alarm q).waiting := by
  obtain ⟨agree, ⟨most, full⟩, -⟩ := (alarmSound_iff s).mp sound
  have list : ((fallen s id).removeEntry id).al.list = s.al.list.filter fun x => decide (x.id ≠ id) :=
    (removeEntry_list _ _).trans (others_eq_filter (s := fallen s id) agree.ids)
  have waiting : ∀ j, (((fallen s id).removeEntry id).alarm j).waiting = (s.alarm j).waiting := fun j =>
    (waiting_of_quiet (removeEntry_quiet _ id j)).trans (fallen_waiting j)
  have pending := (agree.pending p trivial).mp waits
  have apart : p ≠ id := fun h => by rw [h, listed] at pending; cases pending.2
  have room : ((fallen s id).removeEntry id).al.lowCount = 26 := by
    have less := lowOf_others_listed (s := fallen s id) listed low
    have all := full p waits
    rw [lowCount_eq, removeEntry_list]
    change _ = lowOf s.al.list at less
    omega
  have refill : ((fallen s id).removeEntry id).refill = ((fallen s id).removeEntry id).raiseAlarm p := by
    unfold State.refill
    rw [room, pendingIds_take (fun j hj => agree.pendingLow j ((waiting j).symm.trans hj)) ((waiting p).trans waits)
      fun q hq => first q ((waiting q).symm.trans hq)]
    rfl
  have made : s.setCond id false v = fullNotice s (((fallen s id).removeEntry id).raiseAlarm p) := by
    rw [setCond_fall on set, condFall_listed (s := fallen s id) listed, acked]
    exact congrArg _ refill
  have unlisted : ((fallen s id).removeEntry id).al.entry? p = none := by
    rw [entry?_none, list]
    exact fun x hx => entry?_none.mp pending.2 x (List.mem_filter.mp hx).1
  have value : (((fallen s id).removeEntry id).alarm p).condValue = (s.alarm p).condValue :=
    (condValue_of_quiet (removeEntry_quiet _ id p)).trans
      (congrArg AlarmRec.condValue (State.mapAlarm_alarm_other _ _ (Ne.symm apart)))
  have stamp : ((fallen s id).removeEntry id).stamp = s.stamp := by
    have plant := State.removeEntry_plant (s := fallen s id) id
    change ((fallen s id).removeEntry id).plant.stamp = (fallen s id).plant.stamp
    rw [plant]
  obtain ⟨seq, free, -, list', counter, -⟩ := raiseAlarm_made (s := (fallen s id).removeEntry id)
    (by rw [list]; exact agree.ids.sublist (List.filter_sublist.map _)) (by rw [lowCount_eq] at room; omega) p
    ((others_unlisted unlisted).trans list)
  obtain ⟨-, -, raised⟩ := raiseAlarm_rec ((fallen s id).removeEntry id) p
  rw [value, stamp] at list'
  rw [made, fullNotice_al]
  refine ⟨seq, list', free, counter, ?_, fun q hq => ?_⟩
  · rw [fullNotice_alarm, raised]
  · rw [fullNotice_alarm, raiseAlarm_waiting_other hq, waiting]

end

/-- Settles O44: a rise by the place there is for its entry, a fall by the state of its entry. -/
theorem alarmRaised : Obligations.AlarmRaised := by
  refine ⟨fun s id v sound on off unlisted room => ?_, fun s id v u sound on off hu => ⟨fun unlisted low full => ?_,
    fun e listed => ?_, ?_⟩,
    fun s id v u sound on set hu => ⟨?_, ?_, ?_⟩⟩
  · obtain ⟨agree, ⟨low, -⟩, -⟩ := (alarmSound_iff s).mp sound
    have made : s.setCond id true v = fullNotice s ((risen s id v).raiseAlarm id) := by
      rw [setCond_rise on off, condRise_unlisted (s := risen s id v) unlisted,
        raiseNew_room (s := risen s id v) room]
    obtain ⟨seq, free, next, list, counter, hseq⟩ := raiseAlarm_made (s := risen s id v) agree.ids low id
      (others_unlisted unlisted)
    obtain ⟨lastSeq, raises, -⟩ := raiseAlarm_rec (risen s id v) id
    rw [risen_alarm_same] at list raises
    obtain ⟨changed, top⟩ := raiseAlarm_notices (risen s id v) id
    have notices := fullNotice_notices s (t := (risen s id v).raiseAlarm id)
    have cond := setCond_same on id true v
    have plant := State.setCond_plant s id true v
    rw [made] at cond plant ⊢
    rw [fullNotice_al, fullNotice_alarm]
    exact ⟨seq, free, next, list, counter, cond, by rw [lastSeq, hseq], raises, notices.1 changed,
      fun h => notices.2 (top h), plant⟩
  · rw [hu]
    exact ⟨fun a b d hl rank before after => rise_displaces sound on off unlisted low full hl rank before after,
      fun none => rise_turned on off unlisted low full none⟩
  · rw [hu]
    exact ⟨fun cleared => rise_again sound on off listed cleared, fun shelved => rise_shelved on off listed shelved⟩
  · rw [hu]
    exact ⟨setCond_same on _ _ _, fun q hq => setCond_cond_other _ hq _ _, State.setCond_plant _ _ _ _⟩
  · intro unlisted
    have made : u = fullNotice s ((fallen s id).mapAlarm id fun a => { a with waiting := false }) := by
      rw [hu, setCond_fall on set, condFall_unlisted (s := fallen s id) unlisted]
    rw [made, fullNotice_al, fullNotice_alarm, State.mapAlarm_alarm_same]
    exact ⟨rfl, rfl⟩
  · intro e listed
    have made : u = fullNotice s ((fallen s id).condFall id) := by rw [hu, setCond_fall on set]
    have fall := condFall_listed (s := fallen s id) listed
    refine ⟨fun unack => ?_, fun acked => ⟨fun h => ?_, fun p low waits first => ?_⟩, fun shelved => ?_⟩
    · rw [unack] at fall
      rw [made, fullNotice_al, fall]
      exact publishAlarm_list _ _
    · rw [hu]
      exact fall_removes sound on set listed acked h
    · rw [hu]
      exact fall_refills sound on set listed acked low waits first
    · rw [shelved] at fall
      rw [made, fullNotice_al, fall]
      rfl
  · rw [hu]
    exact ⟨setCond_same on _ _ _, fun q hq => setCond_cond_other _ hq _ _, State.setCond_plant _ _ _ _⟩

end Sys2Proof.Proofs
end

section
/-! PROOF. Acknowledging and shelving (O45, O46; 07 sections 7.4 and 7.5, 08 section 8.5). -/

namespace Sys2Proof.Proofs
open Sys2Proof.Machine

/-! ### What the refill of the places leaves (07 R144) -/

section

variable {s : State} {id : AlarmId}

theorem mem_raiseAlarm {x : AlarmEntry} {q : AlarmId} (hx : x ∈ s.al.list) (h : x.id ≠ q) :
    x ∈ (s.raiseAlarm q).al.list := by
  rw [raiseAlarm_list]
  exact List.mem_append_left _ ((List.mem_eraseP_of_neg (by simpa using h)).mpr hx)

theorem raiseAlarm_unlisted {q : AlarmId} (h : s.al.entry? id = none) (ne : id ≠ q) :
    (s.raiseAlarm q).al.entry? id = none := by
  rw [entry?_none] at h ⊢
  rw [raiseAlarm_list]
  intro x hx
  rcases List.mem_append.mp hx with hx | hx
  · exact h x (List.mem_of_mem_eraseP hx)
  · obtain rfl := List.mem_singleton.mp hx
    exact Ne.symm ne

theorem foldl_raiseAlarm_keeps {x : AlarmEntry} {l : List AlarmId} (hx : x ∈ s.al.list) (h : x.id ∉ l) :
    x ∈ (l.foldl State.raiseAlarm s).al.list := by
  induction l generalizing s with
  | nil => exact hx
  | cons q l ih =>
    obtain ⟨ne, out⟩ := not_or.mp (mt List.mem_cons.mpr h)
    exact ih (mem_raiseAlarm hx ne) out

theorem foldl_raiseAlarm_unlisted {l : List AlarmId} (h : s.al.entry? id = none) (out : id ∉ l) :
    (l.foldl State.raiseAlarm s).al.entry? id = none := by
  induction l generalizing s with
  | nil => exact h
  | cons q l ih =>
    obtain ⟨ne, out⟩ := not_or.mp (mt List.mem_cons.mpr out)
    exact ih (raiseAlarm_unlisted h ne) out

theorem not_mem_pendingIds {n : Nat} (h : (s.alarm id).waiting = false) : id ∉ s.pendingIds.take n := by
  intro mem
  have mem := List.mem_of_mem_take mem
  simp [State.pendingIds, h] at mem

theorem refill_keeps {x : AlarmEntry} (hx : x ∈ s.al.list) (h : (s.alarm x.id).waiting = false) : x ∈ s.refill.al.list :=
  foldl_raiseAlarm_keeps hx (not_mem_pendingIds h)

theorem refill_unlisted (unlisted : s.al.entry? id = none) (h : (s.alarm id).waiting = false) :
    s.refill.al.entry? id = none := foldl_raiseAlarm_unlisted unlisted (not_mem_pendingIds h)

/-- The removal of an entry, with the refill of its place, takes the id off the list and keeps the others. -/
theorem removeEntry_refill_made (agree : ListAgrees (fun _ => True) s) {e : AlarmEntry} (listed : s.al.entry? id = some e) :
    (s.removeEntry id).refill.al.entry? id = none
      ∧ ∀ x ∈ s.al.list, x.id ≠ id → x ∈ (s.removeEntry id).refill.al.list := by
  have waiting : ∀ j, ((s.removeEntry id).alarm j).waiting = (s.alarm j).waiting := fun j =>
    waiting_of_quiet (removeEntry_quiet s id j)
  obtain ⟨mem, rfl⟩ := entry?_some listed
  refine ⟨refill_unlisted (removeEntry_unlisted agree.ids) ((waiting _).trans (idle_of_listed agree listed)),
    fun x hx ne => refill_keeps ?_ ((waiting _).trans (idle_of_listed agree (entry?_of_mem agree.ids hx)))⟩
  rw [removeEntry_list]
  exact (mem_others agree.ids).mpr ⟨hx, ne⟩

/-! ### An acknowledgement of the own list (07 R138, R139) -/

theorem ackOwn_acks (s : State) (id : AlarmId) {n : Nat} (h : n = id.val) (seq : Word) :
    s.acks id seq (s.ackOwn n seq).1 (s.ackOwn n seq).2 := by
  unfold State.acks State.ackOwn
  rw [alarmIdOf_val h]
  dsimp only
  cases listed : s.al.entry? id with
  | none => exact ⟨rfl, rfl⟩
  | some e =>
    dsimp only
    refine ⟨fun other => ?_, fun same => ?_⟩
    · rw [if_pos other]
      exact ⟨rfl, rfl⟩
    · rw [if_neg (not_not.mpr same)]
      cases e.state with
      | activeUnack => exact ⟨rfl, by simp, publishAlarm_list _ _⟩
      | clearedUnack =>
        refine ⟨rfl, by simp, fun sound => ?_⟩
        rw [fullNotice_al]
        exact removeEntry_refill_made ((alarmSound_iff s).mp sound).1 listed
      | activeAcked => exact ⟨rfl, rfl⟩
      | shelved => exact ⟨rfl, rfl⟩

end

/-! ### An acknowledgement of another station's alarm (08 R159, R160) -/

section

variable {s : State} {n : Station} {id : AlarmId}

/-- The status of the answer to an outcome. -/
def answerOf (r : Option Reason) : Status :=
  match r with
  | none => .ok
  | some r => .refused r

theorem replyOr_buffer (s : State) (code : Nat) (r : Option Reason) :
    (s.replyOr code r).sp.buffer = .ready ⟨b8 code, answerOf r, 0, []⟩ := by
  cases r <;> rfl

theorem replyOr_li (s : State) (code : Nat) (r : Option Reason) : (s.replyOr code r).li = s.li := by
  cases r <;> rfl

theorem answerOf_ite (p : Prop) [Decidable p] (x : Reason) :
    answerOf (if p then some x else none) = if p then .refused x else .ok := by
  split <;> rfl

theorem ackRemote_lost (seq : Word) (h : (s.peer n).fresh = .absent ∨ (s.peer n).fresh = .expired) :
    s.ackRemote n id seq = (s, some .originLost) :=
  if_pos (by rcases h with h | h <;> rw [h] <;> rfl)

theorem ackRemote_heard (seq : Word) (h : (s.peer n).fresh = .fresh ∨ (s.peer n).fresh = .stale) :
    s.ackRemote n id seq = match s.fv.mirror? n id with
      | none => (s, some .stale)
      | some m =>
        if m.seq ≠ seq then (s, some .stale)
        else match m.state with
          | .shelved => (s, some .state)
          | .activeAcked => (s, none)
          | .activeUnack => ((s.offer .ack (ackWords n id seq) 0 0).1,
              if (s.offer .ack (ackWords n id seq) 0 0).2 = .refused then some .queueFull else none)
          | .clearedUnack => ((s.offer .ack (ackWords n id seq) 0 0).1,
              if (s.offer .ack (ackWords n id seq) 0 0).2 = .refused then some .queueFull else none) := by
  have heard : ¬ (!((s.peer n).fresh == .fresh || (s.peer n).fresh == .stale)) = true := by
    rcases h with h | h <;> rw [h] <;> decide
  unfold State.ackRemote
  rw [if_neg heard] <;> rfl

end

/-- Settles O45: by the station that is named, the alarm, and the state of its entry or mirror. -/
theorem alarmsAcknowledged : Obligations.AlarmsAcknowledged := by
  have acts : ∀ (s : State) (o w seq : Word), s.serves 11 [o, w, seq] → exec (.ackAlarm o w seq) s
      = .next (finish s ((s.ackJudge o w seq).1.replyOr 11 (s.ackJudge o w seq).2)) := fun s o w seq serves =>
    congrArg Host.Outcome.next (request_served serves fun s =>
      finish s ((s.ackJudge o w seq).1.replyOr 11 (s.ackJudge o w seq).2))
  have taken : ∀ (s : State) (f : RxFrame), s.heads .ack f → ∀ w seq, f.payload = [w, seq] →
      exec .ackTaken s = .next (finish s (s.popRx.ackOwn (loByte w).toNat seq).1) := fun s f head w seq payload => by
    change execAckTaken s = _
    rw [execAckTaken, rxHead_of_heads head]
    dsimp only
    rw [payload]
  refine ⟨fun s o w seq serves => ⟨fun unknown => ?_, fun n hn => ⟨fun above => ?_, fun own id hid => ?_⟩⟩,
    fun s f head => ⟨fun bad => ?_, fun w seq payload => ⟨fun above => ?_, fun id hid => ?_⟩⟩,
    fun s o w seq n id serves hn other hid => ?_⟩
  · have judge : s.ackJudge o w seq = (s, some .badArgument) := by
      unfold State.ackJudge
      rw [unknown]
    rw [acts s o w seq serves, judge]
    rfl
  · have judge : s.ackJudge o w seq = (s, some .badArgument) := by
      unfold State.ackJudge State.ackOwn
      rw [hn, alarmIdOf_above above]
      exact ite_self _
    rw [acts s o w seq serves, judge]
    rfl
  · have judge : s.ackJudge o w seq = s.ackOwn w.toNat seq := by
      unfold State.ackJudge
      rw [hn]
      exact if_pos own
    rw [acts s o w seq serves, judge]
    exact ⟨_, _, ackOwn_acks s id hid seq, rfl⟩
  · change execAckTaken s = _
    rw [execAckTaken, rxHead_of_heads head]
    dsimp only
    split
    · rename_i payload
      exact absurd (by rw [payload]; rfl) bad
    · rfl
  · rw [taken s f head w seq payload]
    unfold State.ackOwn
    rw [alarmIdOf_above above]
    rfl
  · exact ⟨_, _, ackOwn_acks s.popRx id hid seq, taken s f head w seq payload⟩
  · have judge : s.ackJudge o w seq = s.ackRemote n id seq := by
      unfold State.ackJudge
      rw [hn, alarmIdOf_val hid]
      exact if_neg (by simp [other])
    refine ⟨_, answerOf (s.ackRemote n id seq).2, by rw [acts s o w seq serves, judge], replyOr_buffer _ _ _, ?_⟩
    rw [replyOr_li]
    refine ⟨fun lost => ?_, fun heard => ?_⟩
    · rw [ackRemote_lost seq lost]
      exact ⟨rfl, rfl⟩
    · rw [ackRemote_heard seq heard]
      refine ⟨fun none => ?_, fun m held => ⟨fun other => ?_, fun same shelved => ?_, fun same acked => ?_,
        fun same open_ => ?_⟩⟩
      · rw [none]
        exact ⟨rfl, rfl⟩
      · rw [held]
        dsimp only
        rw [if_pos other]
        exact ⟨rfl, rfl⟩
      · rw [held]
        dsimp only
        rw [if_neg (not_not.mpr same), shelved]
        exact ⟨rfl, rfl⟩
      · rw [held]
        dsimp only
        rw [if_neg (not_not.mpr same), acked]
        exact ⟨rfl, rfl⟩
      · rw [held]
        dsimp only
        rw [if_neg (not_not.mpr same)]
        rcases open_ with h | h <;> rw [h] <;> exact ⟨rfl, answerOf_ite _ _⟩

/-! ### Shelving (07 R140, R141) -/

section

variable {s : State} {id : AlarmId}

theorem clampMinutes_eq (m : Nat) : clampNat m 1 480 = min 480 (max 1 m) := by
  unfold clampNat
  split
  · omega
  · split <;> omega

theorem shelveEntry_list (m : Nat) : (s.shelveEntry id m).al.list = s.al.list.map fun x =>
    if x.id = id then { x with state := .shelved, shelveEnd := some (s.now + 250000 * (60 * m)) } else x := by
  have span : seconds (60 * m) = 250000 * (60 * m) := by
    unfold seconds
    omega
  rw [State.shelveEntry, publishAlarm_list, ← span]
  rfl

theorem reply_plant (s : State) (code : Nat) (st : Status) (v : Word) (d : List Word) :
    (s.reply code st v d).plant = s.plant.reply code st v d := rfl

/-- A raise enters its entry at the tail, where it is found. -/
theorem raiseAlarm_entry (s : State) (id : AlarmId) (ids : (s.al.list.map AlarmEntry.id).Nodup) :
    (s.raiseAlarm id).al.entry? id = some (s.raisedEntry id (raiseSeq s id))
      ∧ (s.raiseAlarm id).al.list.getLast? = some (s.raisedEntry id (raiseSeq s id)) := by
  have rest : (others s id).find? (fun e => e.id == id) = none := by
    rw [others_eq_filter ids, List.find?_eq_none]
    intro x hx
    simpa using (List.mem_filter.mp hx).2
  rw [AlarmList.entry?, raiseAlarm_list, List.find?_append, rest]
  exact ⟨by simp [State.raisedEntry], List.getLast?_concat⟩

theorem foldl_raiseAlarm_lastSeq {l : List AlarmId} (out : id ∉ l) :
    ((l.foldl State.raiseAlarm s).alarm id).lastSeq = (s.alarm id).lastSeq := by
  induction l generalizing s with
  | nil => rfl
  | cons q l ih =>
    obtain ⟨ne, out⟩ := not_or.mp (mt List.mem_cons.mpr out)
    exact (ih out).trans (lastSeq_of_quiet (by rw [raiseAlarm_quiet, if_neg ne]))

/-- What the end of a shelve makes of the list: the entry raised again, or removed. -/
structure ShelveEnded (s : State) (id : AlarmId) (u : State) : Prop where
  raised : s.cond id = true → ∃ e', u.al.entry? id = some e' ∧ e'.state = .activeUnack ∧ u.al.list.getLast? = some e'
    ∧ e'.shelveEnd = none
  removed : s.cond id = false → u.al.entry? id = none ∧ (u.alarm id).lastSeq = (s.alarm id).lastSeq

theorem endShelve_made (sound : s.AlarmSound) {e : AlarmEntry} (listed : s.al.entry? id = some e) :
    ShelveEnded s id (s.endShelve id) := by
  have agree := ((alarmSound_iff s).mp sound).1
  unfold State.endShelve
  refine ⟨fun set => ?_, fun off => ?_⟩
  · rw [if_pos set]
    obtain ⟨entry, last⟩ := raiseAlarm_entry s id agree.ids
    exact ⟨_, entry, rfl, last, rfl⟩
  · rw [if_neg (by simp [off]), fullNotice_alarm, fullNotice_al]
    have idle := idle_of_listed agree listed
    obtain ⟨-, rfl⟩ := entry?_some listed
    have waiting : ((s.removeEntry e.id).alarm e.id).waiting = false :=
      (waiting_of_quiet (removeEntry_quiet s e.id e.id)).trans idle
    exact ⟨(removeEntry_refill_made agree listed).1, (foldl_raiseAlarm_lastSeq (not_mem_pendingIds waiting)).trans
      (lastSeq_of_quiet (removeEntry_quiet s e.id e.id))⟩

theorem ShelveEnded.answered {u : State} (h : ShelveEnded s id u) (code : Nat) : ShelveEnded s id (u.ok code) :=
  ⟨h.raised, h.removed⟩

end

/-- Settles O46: by the alarm that is named and the state of its entry. -/
theorem shelving : Obligations.Shelving := by
  refine ⟨fun s w m serves => ⟨fun above => ?_, fun id hid => ⟨fun top => ?_, fun low none => ?_, fun low listed => ?_⟩⟩,
    fun s w serves => ⟨fun above => ?_, fun id hid shown => ?_⟩, fun s id e x sound on listed shelved hx => ?_⟩
  · change execShelve w m s = _
    rw [execShelve, request_served serves, alarmIdOf_above above]
  · change execShelve w m s = _
    rw [execShelve, request_served serves, alarmIdOf_val hid]
    exact congrArg _ (if_pos top)
  · change execShelve w m s = _
    rw [execShelve, request_served serves, alarmIdOf_val hid]
    dsimp only
    rw [if_neg low, none]
  · obtain ⟨e, he⟩ := Option.ne_none_iff_exists'.mp listed
    have status : (if clampNat m.toNat 1 480 = m.toNat then Status.ok else .clamped)
        = if 1 ≤ m.toNat ∧ m.toNat ≤ 480 then .ok else .clamped := if_congr (by rw [clampMinutes_eq]; omega) rfl rfl
    have acts : exec (.shelve w m) s = .next (finish s ((s.shelveEntry id (min 480 (max 1 m.toNat))).reply 12
        (if 1 ≤ m.toNat ∧ m.toNat ≤ 480 then .ok else .clamped) (w16 (min 480 (max 1 m.toNat))) [])) := by
      rw [← status, ← clampMinutes_eq]
      change execShelve w m s = _
      rw [execShelve, request_served serves, alarmIdOf_val hid]
      dsimp only
      rw [if_neg low, he]
    refine ⟨_, acts, shelveEntry_list _, rfl, State.still_of_plant ?_⟩
    rw [reply_plant, State.shelveEntry_plant, ← reply_plant]
  · change execUnshelve w s = _
    rw [execUnshelve, request_served serves, alarmIdOf_above above]
  · change execUnshelve w s = _
    rw [execUnshelve, request_served serves, alarmIdOf_val hid]
    dsimp only
    cases he : s.al.entry? id with
    | none => rfl
    | some e => exact congrArg _ (if_neg (shown e he))
  · have made := endShelve_made sound listed
    rcases hx with ⟨rfl, d, hd, due⟩ | ⟨w, rfl, hw, serves⟩
    · have acts : exec (.shelveExpiry id) s = .next (finish s (s.endShelve id)) := by
        change execShelveExpiry id s = _
        unfold execShelveExpiry
        rw [listed]
        exact congrArg _ (if_pos ⟨shelved, by rw [hd]; exact (due_some s d).mpr due⟩)
      exact ⟨_, acts, made.raised, made.removed, fun ⟨w, h⟩ => (by cases h)⟩
    · have acts : exec (.unshelve w) s = .next (finish s ((s.endShelve id).ok 13)) := by
        change execUnshelve w s = _
        rw [execUnshelve, request_served serves, alarmIdOf_val hw]
        dsimp only
        rw [listed]
        exact congrArg _ (if_pos shelved)
      have answered := made.answered 13
      exact ⟨_, acts, answered.raised, answered.removed, fun _ => rfl⟩

end Sys2Proof.Proofs
end

section
/-! PROOF. ALERT frames in the floor alarm view (O47; 08 section 8.2). -/

namespace Sys2Proof.Proofs
open Sys2Proof.Machine

section

variable {s : State} {n : Station} {id : AlarmId} {st : AlarmState} {seq : Word} {time : Stamp}

theorem setView_li (s : State) (v : List Mirror) (full : Bool) : (s.setView v full).li = s.li := by
  unfold State.setView
  dsimp only
  split <;> rfl

theorem takeReport_li : (s.takeReport n id st seq time).li = s.li := by
  unfold State.takeReport State.mapMirror State.insertMirror
  split
  · split
    · exact setView_li _ _ _
    split <;> exact setView_li _ _ _
  · exact setView_li _ _ _
  · exact setView_li _ _ _
  · exact setView_li _ _ _
  · rfl

theorem takeRemoved_li : (s.takeRemoved n id seq).li = s.li := by
  unfold State.takeRemoved
  split
  · rfl
  split
  · exact setView_li _ _ _
  · rfl

theorem serialNewer_irrefl (x : Word) : serialNewer x x = false := by
  simp [serialNewer]

/-! ### A new mirror (08 R153) -/

theorem takeReport_new (none : s.fv.mirror? n id = none) : s.takeReport n id st seq time
    = s.insertMirror ⟨n, id, st, seq, time, true, decide ((s.peer n).fresh = .expired)⟩ := by
  unfold State.takeReport
  rw [none]
  rfl

theorem insertMirror_room (room : s.fv.view.length < 64) (m : Mirror) : (s.insertMirror m).fv.view = s.fv.view ++ [m] := by
  rw [State.insertMirror, if_pos room, setView_fv]

/-- A full view gives the place of its oldest mirror of lower priority. -/
theorem insertMirror_evicts (full : 64 ≤ s.fv.view.length) {m x : Mirror} {a b : List Mirror} (hv : s.fv.view = a ++ x :: b)
    (lower : alarmPriority m.id < alarmPriority x.id) (before : ∀ y ∈ a, alarmPriority y.id ≤ alarmPriority m.id) :
    (s.insertMirror m).fv.view = a ++ b ++ [m] ∧ (s.insertMirror m).fv.full = s.fv.full := by
  have found : s.fv.view.findIdx? (fun x => decide (alarmPriority m.id < alarmPriority x.id)) = some a.length := by
    have none : a.findIdx? (fun x => decide (alarmPriority m.id < alarmPriority x.id)) = none :=
      List.findIdx?_eq_none_iff.mpr fun y hy => decide_eq_false (Nat.not_lt.mpr (before y hy))
    rw [hv, List.findIdx?_append, none, List.findIdx?_cons, if_pos (decide_eq_true lower)]
    simp
  have erased : s.fv.view.eraseIdx a.length = a ++ b := by
    rw [hv, List.eraseIdx_append_of_length_le (Nat.le_refl _), Nat.sub_self, List.eraseIdx_cons_zero]
  have kept : 64 ≤ (a ++ b ++ [m]).length := by
    rw [hv] at full
    simp only [List.length_append, List.length_cons, List.length_nil] at full ⊢
    omega
  rw [State.insertMirror, if_neg (by omega), found]
  dsimp only
  rw [erased, setView_fv]
  exact ⟨rfl, by rw [decide_eq_true kept, Bool.and_true]⟩

/-- A full view without such a mirror turns the report away. -/
theorem insertMirror_turns (full : 64 ≤ s.fv.view.length) {m : Mirror}
    (h : ∀ y ∈ s.fv.view, alarmPriority y.id ≤ alarmPriority m.id) :
    (s.insertMirror m).fv.view = s.fv.view ∧ (s.insertMirror m).fv.full = true := by
  have none : s.fv.view.findIdx? (fun x => decide (alarmPriority m.id < alarmPriority x.id)) = none :=
    List.findIdx?_eq_none_iff.mpr fun y hy => decide_eq_false (Nat.not_lt.mpr (h y hy))
  rw [State.insertMirror, if_neg (by omega), none]
  dsimp only
  rw [setView_fv]
  exact ⟨rfl, by rw [decide_eq_true full]; rfl⟩

/-! ### A mirror that is held (08 R151, R152) -/

/-- The mirror of an origin and id after a change of it in its position. -/
theorem mapMirror_mirror? {x : Mirror} (held : s.fv.mirror? n id = some x) {f : Mirror → Mirror}
    (ho : ∀ m, (f m).origin = m.origin) (hi : ∀ m, (f m).id = m.id) :
    (s.mapMirror n id f).fv.mirror? n id = some (f x) := by
  have key : ((fun m : Mirror => m.origin == n && m.id == id) ∘ fun m => if m.origin = n ∧ m.id = id then f m else m)
      = fun m => m.origin == n && m.id == id := funext fun m => by
    dsimp only [Function.comp]
    split
    · rw [ho, hi]
    · rfl
  have found : x.origin = n ∧ x.id = id := by simpa using List.find?_some held
  rw [State.mapMirror, setView_fv, FloorView.mirror?, List.find?_map, key]
  change Option.map _ (s.fv.mirror? n id) = _
  rw [held, Option.map_some, if_pos found]

/-- A report of a mirror that is held: newer, current, behind or older. -/
theorem takeReport_held {x : Mirror} (held : s.fv.mirror? n id = some x) :
    ∃ y, (s.takeReport n id st seq time).fv.mirror? n id = some y
      ∧ (serialNewer seq x.seq = true → y.seq = seq ∧ y.state = st ∧ y.raiseTime = time)
      ∧ (seq = x.seq → x.state.stage ≤ st.stage → y.seq = x.seq ∧ y.state = st)
      ∧ (seq = x.seq → st.stage < x.state.stage → y.seq = x.seq ∧ y.state = x.state)
      ∧ (seq ≠ x.seq → serialNewer seq x.seq = false → y = x) := by
  have changed := fun f ho hi => mapMirror_mirror? held (f := f) ho hi
  have judged : judgeReport (s.fv.mirror? n id) seq st = if seq = x.seq then
      (if x.state.stage ≤ st.stage then .current else .behind) else if serialNewer seq x.seq then .newer else .older := by
    rw [held]
    rfl
  unfold State.takeReport
  rw [judged]
  by_cases same : seq = x.seq
  · have not : serialNewer seq x.seq = false := by rw [same, serialNewer_irrefl]
    rw [if_pos same]
    by_cases stage : x.state.stage ≤ st.stage
    · rw [if_pos stage]
      refine ⟨_, changed _ (fun _ => rfl) fun _ => rfl, fun e => ?_, fun _ _ => ⟨rfl, rfl⟩, fun _ lt => ?_,
        fun ne => absurd same ne⟩
      · rw [not] at e
        cases e
      · omega
    · rw [if_neg stage]
      refine ⟨_, changed _ (fun _ => rfl) fun _ => rfl, fun e => ?_, fun _ le => absurd le stage, fun _ _ => ⟨rfl, rfl⟩,
        fun ne => absurd same ne⟩
      rw [not] at e
      cases e
  · rw [if_neg same]
    by_cases newer : serialNewer seq x.seq = true
    · rw [if_pos newer]
      refine ⟨_, changed _ (fun _ => rfl) fun _ => rfl, fun _ => ⟨rfl, rfl, rfl⟩, fun e => absurd e same,
        fun e => absurd e same, fun _ no => ?_⟩
      rw [newer] at no
      cases no
    · rw [if_neg newer]
      exact ⟨x, held, fun e => absurd e newer, fun e => absurd e same, fun e => absurd e same, fun _ _ => rfl⟩

theorem takeRemoved_held {x : Mirror} (held : s.fv.mirror? n id = some x) :
    (seq = x.seq ∨ serialNewer seq x.seq = true → (s.takeRemoved n id seq).fv.mirror? n id = none)
      ∧ (seq ≠ x.seq → serialNewer seq x.seq = false → (s.takeRemoved n id seq).fv = s.fv) := by
  unfold State.takeRemoved
  rw [held]
  dsimp only
  refine ⟨fun goes => ?_, fun ne older => ?_⟩
  · rw [if_pos goes, setView_fv, FloorView.mirror?, List.find?_eq_none]
    intro m hm
    rw [Bool.eq_false_of_not_eq_true' (List.mem_filter.mp hm).2]
    decide
  · rw [if_neg (by simp [ne, older])]

end

/-- Settles O47: by what the ALERT reports, and by the mirror that is held. -/
theorem alertsMirrored : Obligations.AlertsMirrored := by
  intro s f head
  refine ⟨fun bad => ?_, fun m parsed => ⟨fun out => ?_, fun priority known => ?_⟩⟩
  · change execAlertTaken s = _
    rw [execAlertTaken, rxHead_of_heads head]
    dsimp only
    rw [bad]
    rfl
  · change execAlertTaken s = _
    rw [execAlertTaken, rxHead_of_heads head]
    dsimp only
    rw [parsed]
    exact congrArg _ (if_pos out)
  · have acts : exec .alertTaken s = .next (match m.state with
        | none => s.popRx.takeRemoved f.origin m.id m.seq
        | some st => s.popRx.takeReport f.origin m.id st m.seq m.time) := by
      change execAlertTaken s = _
      rw [execAlertTaken, rxHead_of_heads head]
      dsimp only
      rw [parsed]
      exact congrArg _ (if_neg fun e => e.elim (fun ne => ne priority) known)
    refine ⟨_, acts, ?_, fun st hst none room => ?_, fun st hst none full => ⟨fun a b x hv lower before => ?_, fun h => ?_⟩,
      fun st x hst held _ => ?_, fun x hst held => ?_⟩
    · cases m.state with
      | none => exact takeRemoved_li
      | some st => exact takeReport_li
    · rw [hst]
      dsimp only
      rw [takeReport_new (s := s.popRx) none]
      exact insertMirror_room (s := s.popRx) room _
    · rw [hst]
      dsimp only
      rw [takeReport_new (s := s.popRx) none]
      exact insertMirror_evicts (s := s.popRx) full hv lower before
    · rw [hst]
      dsimp only
      rw [takeReport_new (s := s.popRx) none]
      exact insertMirror_turns (s := s.popRx) full h
    · rw [hst]
      exact takeReport_held (s := s.popRx) held
    · rw [hst]
      exact takeRemoved_held (s := s.popRx) held

end Sys2Proof.Proofs
end

section
/-! PROOF. O8: a collision ends the send (01 R5 to R8, R11, R13). -/

namespace Sys2Proof.Proofs
open Sys2Proof.Machine

section
variable {s : State} {a b c d : List TxFrame} {f g x : TxFrame} {n : Nat}

/-! ### The frame in send, and the newer frame of its key (01 R11) -/

theorem find_inSend (sends : f.inSend = true) (waits : ∀ g ∈ a ++ b, g.inSend = false) :
    (a ++ f :: b).find? TxFrame.inSend = some f := by
  have before : a.find? TxFrame.inSend = none :=
    List.find?_eq_none.mpr fun g hg => by simp [waits g (List.mem_append_left b hg)]
  rw [List.find?_append, before, Option.none_or, List.find?_cons_of_pos sends]

theorem filter_waiting (sends : f.inSend = true) (waits : ∀ g ∈ a ++ b, g.inSend = false) :
    ((a ++ f :: b).filter fun g => !g.inSend) = a ++ b := by
  rw [List.filter_append, List.filter_cons_of_neg (by simp [sends]), ← List.filter_append]
  exact List.filter_eq_self.mpr fun g hg => by simp [waits g hg]

theorem collidedCount_eq (f : TxFrame) :
    collidedCount f = if f.cls = .trip then min (f.collisions + 1) 255 else f.collisions + 1 := by
  unfold collidedCount
  cases f.cls <;> rfl

theorem newerFrame_absent {q : List TxFrame}
    (older : ∀ g ∈ q, ¬ ((f.cls = .alert ∨ f.cls = .demand) ∧ matchesKey f.cls f.payload g = true)) :
    newerFrame f q = none := by
  unfold newerFrame
  split
  next kind =>
    refine List.findIdx?_eq_none_iff.mpr fun g hg => ?_
    have other : matchesKey f.cls f.payload g = false := Bool.eq_false_iff.mpr fun key => older g hg ⟨kind, key⟩
    rw [other, Bool.and_false]
  next => rfl

theorem newerFrame_first (kind : f.cls = .alert ∨ f.cls = .demand) (key : matchesKey f.cls f.payload g = true)
    (before : ∀ x ∈ c, matchesKey f.cls f.payload x = false) (waits : g.inSend = false) :
    newerFrame f (c ++ g :: d) = some c.length := by
  have skip : (c.findIdx? fun g => !g.inSend && matchesKey f.cls f.payload g) = none :=
    List.findIdx?_eq_none_iff.mpr fun x hx => by rw [before x hx, Bool.and_false]
  unfold newerFrame
  rw [if_pos kind, List.findIdx?_append, skip, List.findIdx?_cons, waits, key]
  simp

/-- The collided frame, waiting again with its count raised. -/
def stopped (f : TxFrame) : TxFrame := { f with inSend := false, collisions := collidedCount f }

/-- The newer frame of the key with the count of the collided one. -/
def heir (f g : TxFrame) : TxFrame := { g with collisions := collidedCount f }

theorem collideQueue_stays (sends : f.inSend = true) (waits : ∀ g ∈ a ++ b, g.inSend = false)
    (older : ∀ g ∈ a ++ b, ¬ ((f.cls = .alert ∨ f.cls = .demand) ∧ matchesKey f.cls f.payload g = true)) :
    collideQueue f (a ++ f :: b) = (a ++ stopped f :: b, stopped f) := by
  have rest : ∀ l : List TxFrame, (∀ g ∈ l, g.inSend = false) →
      (l.map fun g => if g.inSend = true then { g with inSend := false, collisions := collidedCount f } else g) = l :=
    fun l h => (List.map_congr_left fun g hg => by rw [h g hg]; rfl).trans (List.map_id l)
  unfold collideQueue
  dsimp only
  rw [filter_waiting sends waits, newerFrame_absent older]
  dsimp only
  rw [List.map_append, List.map_cons, if_pos sends, rest a fun g hg => waits g (List.mem_append_left b hg),
    rest b fun g hg => waits g (List.mem_append_right a hg)]
  rfl

theorem collideQueue_passes (sends : f.inSend = true) (waits : ∀ g ∈ a ++ b, g.inSend = false)
    (kind : f.cls = .alert ∨ f.cls = .demand) (place : a ++ b = c ++ g :: d)
    (key : matchesKey f.cls f.payload g = true) (before : ∀ x ∈ c, matchesKey f.cls f.payload x = false) :
    collideQueue f (a ++ f :: b) = (c ++ heir f g :: d, heir f g) := by
  unfold collideQueue
  dsimp only
  rw [filter_waiting sends waits, place,
    newerFrame_first kind key before (waits g (place ▸ List.mem_append_right c (List.mem_cons_self ..)))]
  dsimp only
  rw [List.getElem?_append_right (Nat.le_refl _), Nat.sub_self, List.getElem?_cons_zero]
  dsimp only
  rw [List.set_append_right _ _ (Nat.le_refl _), Nat.sub_self, List.set_cons_zero]
  rfl

/-- The frame `x` carries the count of the collided frame `f`, and `f`'s class and key. -/
structure Carries (f x : TxFrame) : Prop where
  cls : x.cls = f.cls
  count : x.collisions = collidedCount f
  key : f.cls = .alert ∨ f.cls = .demand → hiByte (x.payload.headD 0) = hiByte (f.payload.headD 0)
  close : f.cls = .shift → x.closeId = f.closeId

theorem carries_heir (kind : f.cls = .alert ∨ f.cls = .demand) (key : matchesKey f.cls f.payload g = true) :
    Carries f (heir f g) := by
  unfold matchesKey at key
  rw [Bool.and_eq_true, beq_iff_eq] at key
  obtain ⟨cls, same⟩ := key
  refine ⟨cls, rfl, fun _ => ?_, fun shift => ?_⟩
  · rcases kind with k | k <;> rw [k] at same <;> exact (beq_iff_eq.mp same).symm
  · rcases kind with k | k <;> rw [k] at shift <;> cases shift

/-- Either no waiting frame is newer, or a first one is. -/
theorem newer_or_not (f : TxFrame) (q : List TxFrame) :
    (∀ g ∈ q, ¬ ((f.cls = .alert ∨ f.cls = .demand) ∧ matchesKey f.cls f.payload g = true))
    ∨ ((f.cls = .alert ∨ f.cls = .demand) ∧ ∃ c g d, q = c ++ g :: d ∧ matchesKey f.cls f.payload g = true
      ∧ ∀ x ∈ c, matchesKey f.cls f.payload x = false) := by
  by_cases kind : f.cls = .alert ∨ f.cls = .demand
  · cases found : q.find? (matchesKey f.cls f.payload) with
    | none => exact .inl fun g hg h => List.find?_eq_none.mp found g hg h.2
    | some g =>
      obtain ⟨key, c, d, split, before⟩ := List.find?_eq_some_iff_append.mp found
      exact .inr ⟨kind, c, g, d, split, key, fun x hx => by simpa using before x hx⟩
  · exact .inl fun _ _ h => kind h.1

theorem collideQueue_carries (sends : f.inSend = true) (waits : ∀ g ∈ a ++ b, g.inSend = false) :
    Carries f (collideQueue f (a ++ f :: b)).2 := by
  rcases newer_or_not f (a ++ b) with older | ⟨kind, c, g, d, split, key, before⟩
  · rw [collideQueue_stays sends waits older]
    exact ⟨rfl, rfl, fun _ => rfl, fun _ => rfl⟩
  · rw [collideQueue_passes sends waits kind split key before]
    exact carries_heir kind key

/-! ### The state after a collision (01 R5 to R8) -/

/-- LI after a collision that leaves the queue `q`, with `x` the frame that carries the count. -/
def collidedLi (s : State) (q : List TxFrame) (x : TxFrame) : LineIf :=
  { s.li with
    tx := if x.cls ≠ .trip ∧ 8 ≤ x.collisions then q.erase x else q
    collisions := s.li.collisions + 1
    quietSince := some (s.now + 2)
    discards := if x.cls ≠ .trip ∧ 8 ≤ x.collisions then s.li.discards + 1 else s.li.discards
    discardTimes := if x.cls ≠ .trip ∧ 8 ≤ x.collisions then (s.now :: s.li.discardTimes).take 4 else s.li.discardTimes
    lastDegrading := if 8 ≤ x.collisions then some s.now else s.li.lastDegrading }

/-- The state after a collision, before LINE_DEGRADED is written. -/
def collided (s : State) (q : List TxFrame) (x : TxFrame) : State :=
  if x.cls ≠ .trip ∧ 8 ≤ x.collisions then ({ s with li := collidedLi s q x } : State).loseFrame x
  else { s with li := collidedLi s q x }

theorem collided_li (s : State) (q : List TxFrame) (x : TxFrame) : (collided s q x).li = collidedLi s q x := by
  unfold collided
  split
  · rw [loseFrame_li]
  · rfl

theorem collided_plant (s : State) (q : List TxFrame) (x : TxFrame) :
    (collided s q x).plant = ({ s with li := collidedLi s q x } : State).plant := by
  unfold collided
  split
  · rw [State.loseFrame_plant]
  · rfl

theorem collided_cond (s : State) (q : List TxFrame) (x : TxFrame) (id : AlarmId) :
    (collided s q x).cond id = s.cond id := by
  unfold collided
  split
  · exact State.cond_of_conds (State.loseFrame_conds _ _) id
  · rfl

/-- The fourth discard lies within the last 10 s. -/
theorem fourDiscards_iff (li : LineIf) (now : Nat) (times : List Nat) (h : li.discardTimes = (now :: times).take 4) :
    li.fourDiscards now = true ↔ ∃ t, times[2]? = some t ∧ now ≤ t + 2500000 := by
  unfold LineIf.fourDiscards
  rw [h]
  match times with
  | [] | [_] | [_, _] => simp
  | _ :: _ :: t :: _ => simp [seconds]

theorem collide_eq (s : State) (f : TxFrame) {q : List TxFrame} {x : TxFrame} (h : collideQueue f s.li.tx = (q, x)) :
    (8 ≤ x.collisions → (x.cls = .trip ∨ ∃ t, s.li.discardTimes[2]? = some t ∧ s.now ≤ t + 2500000) →
      s.collide f = (collided s q x).setCond idLineDegraded true none)
    ∧ (¬ (8 ≤ x.collisions ∧ (x.cls = .trip ∨ ∃ t, s.li.discardTimes[2]? = some t ∧ s.now ≤ t + 2500000)) →
      s.collide f = collided s q x) := by
  unfold State.collide
  dsimp only
  rw [h]
  dsimp only
  by_cases many : 8 ≤ x.collisions
  case neg =>
    have few : ¬ (x.cls ≠ .trip ∧ 8 ≤ x.collisions) := fun h => many h.2
    refine ⟨fun h => absurd h many, fun _ => ?_⟩
    unfold collided collidedLi
    simp only [if_neg many, if_neg few, ite_self]
    rfl
  case pos =>
    by_cases trip : x.cls = .trip
    · have kept : ¬ (x.cls ≠ .trip ∧ 8 ≤ x.collisions) := fun h => h.1 trip
      refine ⟨fun _ _ => ?_, fun h => absurd ⟨many, .inl trip⟩ h⟩
      unfold collided collidedLi
      simp only [if_pos trip, if_pos many, if_neg kept]
      rfl
    · have lost : x.cls ≠ .trip ∧ 8 ≤ x.collisions := ⟨trip, many⟩
      rw [if_neg trip, if_pos many]
      have made : ((s.mapLi fun li => { li with
            tx := q
            collisions := li.collisions + 1
            quietSince := some (s.now + 2) }).mapLi fun li =>
          ({ li with tx := li.tx.erase x } : LineIf).discard s.now).loseFrame x = collided s q x := by
        unfold collided collidedLi
        simp only [if_pos lost, if_pos many]
        rfl
      rw [made]
      have four := fourDiscards_iff (collided s q x).li s.now s.li.discardTimes (by
        rw [collided_li]
        exact if_pos lost)
      refine ⟨fun _ h => if_pos (four.mpr (h.resolve_left trip)), fun h => if_neg fun e => h ⟨many, .inr (four.mp e)⟩⟩

/-! ### The owner of a discarded frame (01 R13) -/

theorem loseFrame_alert {id : AlarmId} (cls : x.cls = .alert) (key : alarmIdOf (hiByte (x.payload.headD 0)).toNat = some id) :
    ((s.loseFrame x).alarm id).announce = true := by
  unfold State.loseFrame
  rw [cls]
  dsimp only
  rw [key]
  dsimp only
  rw [State.mapAlarm_alarm_same]

theorem loseFrame_demand {z : Zone} (cls : x.cls = .demand) (key : zoneOf (hiByte (x.payload.headD 0)).toNat = some z) :
    ((s.loseFrame x).demand z).unannounced = true := by
  unfold State.loseFrame
  rw [cls]
  dsimp only
  rw [key]
  dsimp only
  rw [State.mapDemand_demand_same]

theorem loseFrame_shift (cls : x.cls = .shift) :
    ∀ r ∈ (s.loseFrame x).sr.ring, r.closeId = x.closeId → r.unannounced = true := by
  unfold State.loseFrame
  rw [cls]
  intro r hr same
  obtain ⟨y, -, rfl⟩ := List.mem_map.mp hr
  by_cases h : y.closeId = x.closeId
  · rw [if_pos h]
  · rw [if_neg h] at same
    exact absurd same h

theorem collided_lost (trip : x.cls ≠ .trip) (many : 8 ≤ x.collisions) (q : List TxFrame) :
    collided s q x = ({ s with li := collidedLi s q x } : State).loseFrame x := if_pos ⟨trip, many⟩

end

/-- Settles O8, by the frame that carries the count: the collided one or the first newer one of its key. -/
theorem collisionEndsSend : Obligations.CollisionEndsSend := by
  unfold Obligations.CollisionEndsSend
  intro s a b f n tx sends waits count
  have count' : n = collidedCount f := count.trans (collidedCount_eq f).symm
  have carried := collideQueue_carries sends waits
  rw [← tx] at carried
  generalize out : collideQueue f s.li.tx = r at carried
  obtain ⟨q, x⟩ := r
  obtain ⟨cls, raised, key, close⟩ := carried
  dsimp only at cls raised key close
  rw [← count'] at raised
  have written := collide_eq s f out
  rw [raised, cls] at written
  obtain ⟨degrades, keeps⟩ := written
  have runs : exec .collision s = .next (finish s (s.collide f)) := by
    show Host.Outcome.next _ = _
    rw [tx, find_inSend sends waits]
  have li := collided_li s q x
  have lost := collided_lost (s := s) (x := x) (q := q)
  rw [raised, cls] at lost
  refine ⟨collided s q x, s.collide f, runs, ?still, ?stays, ?passes, ?marks, collided_cond s q x, degrades, keeps, ?degraded⟩
  case still =>
    refine State.still_of_plant ((collided_plant s q x).trans ?_)
    unfold collidedLi
    rw [raised, cls]
    rfl
  case stays =>
    intro older
    have e := collideQueue_stays sends waits older
    rw [← tx, out] at e
    obtain ⟨rfl, rfl⟩ := Prod.mk.inj e
    rw [li]
    unfold collidedLi stopped
    rw [← count']
  case passes =>
    intro c d g kind split match' before
    have e := collideQueue_passes sends waits kind split match' before
    rw [← tx, out] at e
    obtain ⟨rfl, rfl⟩ := Prod.mk.inj e
    have trip : f.cls ≠ .trip := by rcases kind with k | k <;> rw [k] <;> decide
    have fresh : heir f g ∉ c := fun h => Bool.eq_false_iff.mp (before _ h) match'
    rw [li]
    show (if (heir f g).cls ≠ .trip ∧ 8 ≤ (heir f g).collisions then _ else _) = _
    rw [cls, raised, List.erase_append_right _ fresh, List.erase_cons_head, if_congr (and_iff_right trip) rfl rfl]
    unfold heir
    rw [← count']
  case marks =>
    intro many
    refine ⟨fun kind id hid => ?_, fun kind z hz => ?_, fun kind => ?_⟩
    · rw [lost (by rw [kind]; decide) many]
      exact loseFrame_alert (cls.trans kind) (by rw [key (.inl kind)]; exact hid)
    · rw [lost (by rw [kind]; decide) many]
      exact loseFrame_demand (cls.trans kind) (by rw [key (.inr kind)]; exact hz)
    · rw [lost (by rw [kind]; decide) many, ← close kind]
      exact loseFrame_shift (cls.trans kind)
  case degraded =>
    intro made on
    rw [made]
    have config : (collided s q x).config = s.config :=
      config_of_plant (s := { s with li := collidedLi s q x }) (collided_plant s q x)
    exact setCond_same ((congrArg Option.isSome config).trans on) _ _ _

end Sys2Proof.Proofs
end

section
/-! PROOF. O9: a transmit completion (01 R5, R18; 02 R25; 05 R92; 07 R146; 09 R178). -/

namespace Sys2Proof.Proofs
open Sys2Proof.Machine

section
variable {s v : State} {a b : List TxFrame} {f : TxFrame}

/-! ### LI's account of the completion (01 R5; 02 R25) -/

/-- LI after the completion of a send, with `q` left waiting. -/
def completedLi (s : State) (q : List TxFrame) : LineIf :=
  { s.li with
    tx := q
    sent := s.li.sent + 1
    completionTime := s.now
    acceptedMark := false
    quietSince := some (s.now + 2) }

/-- PT after the completion of the frame: a SNAP publishes its resume index. -/
def completedPt (s : State) (f : TxFrame) : PeerTable :=
  { s.pt with
    rollIndex := if f.cls = .snap then (if f.resume < s.al.list.length then f.resume else 0) else s.pt.rollIndex }

theorem completeSend_eq (tx : s.li.tx = a ++ f :: b) (sends : f.inSend = true) (waits : ∀ g ∈ a ++ b, g.inSend = false) :
    s.completeSend f = { s with li := completedLi s (a ++ b), pt := completedPt s f } := by
  have queue : (s.li.tx.filter fun g => !g.inSend) = a ++ b := by rw [tx, filter_waiting sends waits]
  unfold State.completeSend completedLi completedPt
  rw [← queue]
  dsimp only
  split
  · rfl
  · rfl

/-! ### What the retries leave -/

theorem foldl_rests {α : Type} {op : State → α → State} {l : List α} (h : ∀ x ∈ l, op s x = s) : l.foldl op s = s := by
  induction l with
  | nil => rfl
  | cons x l ih =>
    rw [List.foldl_cons, h x (List.mem_cons_self ..)]
    exact ih fun y hy => h y (List.mem_cons_of_mem x hy)

theorem announce_pt (s : State) (id : AlarmId) : (s.announce id).pt = s.pt := offer_pt ..

theorem offerShift_pt (s : State) (r : ShiftRecord) : (s.offerShift r).pt = s.pt := offer_pt ..

theorem retryDemand_kept (s : State) (z : Zone) : (s.retryDemand z).plant = s.plant ∧ (s.retryDemand z).pt = s.pt := by
  have clear : ∀ x : State, (x.mapDemand z fun d => { d with unannounced := false }).plant = x.plant :=
    fun x => State.mapDemand_mark_plant x z _
  unfold State.retryDemand
  split
  next d _ known =>
    split
    · rw [offerDemand_of known]
      exact ⟨(State.mapDemand_mark_plant _ z _).trans (State.offer_plant _ (by decide) _ _ _), offer_pt ..⟩
    · exact ⟨clear s, rfl⟩
  · exact ⟨clear s, rfl⟩
  · exact ⟨rfl, rfl⟩

/-- The three retries of a completion (01 R5). -/
def retried (s : State) : State := s.retryAlerts.retryDemands.retryShifts

theorem retried_plant (s : State) : (retried s).plant = s.plant :=
  (foldl_leaves State.plant _ offerShift_plant _ _).trans
    ((foldl_leaves State.plant _ (fun x z => (retryDemand_kept x z).1) _ _).trans
      (foldl_leaves State.plant _ (fun x id => x.announce_plant id) _ _))

theorem retried_pt (s : State) : (retried s).pt = s.pt :=
  (foldl_leaves State.pt _ offerShift_pt _ _).trans
    ((foldl_leaves State.pt _ (fun x z => (retryDemand_kept x z).2) _ _).trans
      (foldl_leaves State.pt _ announce_pt _ _))

/-! ### Retries without a mark -/

theorem retryAlerts_idle (none : ∀ id, (s.alarm id).announce = false) : s.retryAlerts = s := by
  have empty : (allAlarms.filter fun id => (s.alarm id).announce) = [] :=
    List.filter_eq_nil_iff.mpr fun id _ => by rw [none id]; decide
  rw [State.retryAlerts, empty, List.foldl_nil]

theorem retryDemand_idle {z : Zone} (none : (s.demand z).unannounced = false) : s.retryDemand z = s := by
  unfold State.retryDemand
  rw [none]

theorem retryDemands_idle (none : ∀ z, (s.demand z).unannounced = false) : s.retryDemands = s :=
  foldl_idle _ s (fun z => retryDemand_idle (none z)) _

theorem retryShifts_idle (none : ∀ r ∈ s.sr.ring, r.unannounced = false) : s.retryShifts = s := by
  have empty : s.sr.ring.reverse.filter ShiftRecord.unannounced = [] :=
    List.filter_eq_nil_iff.mpr fun r hr => by rw [none r (List.mem_reverse.mp hr)]; decide
  rw [State.retryShifts, empty, List.foldl_nil]

/-! ### Retries of one mark, with a free place -/

theorem retryAlerts_one {id : AlarmId} (one : ∀ i, (s.alarm i).announce = decide (i = id)) :
    s.retryAlerts = s.announce id := by
  have only : (allAlarms.filter fun i => (s.alarm i).announce) = [id] := by
    rw [List.filter_congr fun i _ => one i]
    show allAlarms.filter (· == id) = [id]
    have once : allAlarms.count id = 1 := List.count_eq_one_of_mem (List.nodup_finRange 114) (List.mem_finRange id)
    rw [List.filter_beq, once, List.replicate_one]
  rw [State.retryAlerts, only]
  rfl

theorem announce_joins {id : AlarmId} (mode : s.pt.mode ≠ .unconfigured) (room : s.li.tx.length < 12)
    (fresh : s.li.tx.any (matchesKey .alert (s.alertMsg id).words) = false) :
    s.announce id = (s.enqueueNew (s.newFrame .alert (s.alertMsg id).words 0 0)).mapAlarm id
      fun a => { a with announce := false } := by
  rw [State.announce, offer_joins mode fresh room]
  rfl

theorem retryDemands_one {z : Zone} (one : ∀ y, (s.demand y).unannounced = decide (y = z))
    (cleared : ((s.retryDemand z).demand z).unannounced = false)
    (others : ∀ y, y ≠ z → (s.retryDemand z).demand y = s.demand y) : s.retryDemands = s.retryDemand z := by
  obtain ⟨before, after, split⟩ := List.append_of_mem (mem_allZones z)
  have distinct : (before ++ z :: after).Nodup := split ▸ (by decide : allZones.Nodup)
  have out : z ∉ before := fun h => (List.nodup_append.mp distinct).2.2 z h z (List.mem_cons_self ..) rfl
  have first : before.foldl State.retryDemand s = s := foldl_rests fun y hy => retryDemand_idle <| by
    rw [one y]
    exact decide_eq_false fun h => out (h ▸ hy)
  have last : after.foldl State.retryDemand (s.retryDemand z) = s.retryDemand z := foldl_rests fun y _ => retryDemand_idle <| by
    by_cases h : y = z
    · exact h ▸ cleared
    · rw [others y h, one y]
      exact decide_eq_false h
  rw [State.retryDemands, split, List.foldl_append, first, List.foldl_cons, last]

theorem retryDemand_own {z : Zone} {d : Demand} (marked : (s.demand z).unannounced = true)
    (known : (s.demand z).known = some d) (own : d.setter = s.ownStation) (mode : s.pt.mode ≠ .unconfigured)
    (room : s.li.tx.length < 12) (fresh : s.li.tx.any (matchesKey .demand (demandWords z d)) = false) :
    s.retryDemand z = (s.enqueueNew (s.newFrame .demand (demandWords z d) 0 0)).mapDemand z
      fun x => { x with unannounced := false } := by
  unfold State.retryDemand
  rw [marked, known]
  dsimp only
  rw [if_pos own, offerDemand_of known, offer_joins mode fresh room]
  rfl

theorem retryDemand_foreign {z : Zone} {d : Demand} (marked : (s.demand z).unannounced = true)
    (known : (s.demand z).known = some d) (foreign : d.setter ≠ s.ownStation) :
    s.retryDemand z = s.mapDemand z fun x => { x with unannounced := false } := by
  unfold State.retryDemand
  rw [marked, known]
  exact if_neg foreign

theorem retryShifts_one {r : ShiftRecord} (one : s.sr.ring.filter ShiftRecord.unannounced = [r]) :
    s.retryShifts = s.offerShift r := by
  rw [State.retryShifts, List.filter_reverse, one]
  rfl

theorem offerShift_joins (mode : s.pt.mode ≠ .unconfigured) (room : s.li.tx.length < 12) (r : ShiftRecord) :
    s.offerShift r = (s.enqueueNew (s.newFrame .shift (r.msg s.ownStation).words 0 r.closeId)).mapSr fun sr => { sr with
      ring := sr.ring.map fun x => if x.closeId = r.closeId then { x with unannounced := false } else x } := by
  have fresh : s.li.tx.any (matchesKey .shift (r.msg s.ownStation).words) = false :=
    List.any_eq_false.mpr fun g _ h => by simp [matchesKey, sameKey] at h
  rw [State.offerShift, offer_joins mode fresh room]
  rfl

theorem retried_idle (alarms : ∀ id, (v.alarm id).announce = false) (demands : ∀ z, (v.demand z).unannounced = false)
    (shifts : ∀ r ∈ v.sr.ring, r.unannounced = false) : retried v = v := by
  rw [retried, retryAlerts_idle alarms, retryDemands_idle demands, retryShifts_idle shifts]

theorem retried_alert {id : AlarmId} (one : ∀ i, (v.alarm i).announce = decide (i = id))
    (demands : ∀ z, (v.demand z).unannounced = false) (shifts : ∀ r ∈ v.sr.ring, r.unannounced = false)
    (mode : v.pt.mode ≠ .unconfigured) (room : v.li.tx.length < 12)
    (fresh : ∀ g ∈ v.li.tx, matchesKey .alert (v.alertMsg id).words g = false) :
    (retried v).li.tx = insertFrame (v.newFrame .alert (v.alertMsg id).words 0 0) v.li.tx
      ∧ ((retried v).alarm id).announce = false := by
  have free : v.li.tx.any (matchesKey .alert (v.alertMsg id).words) = false :=
    List.any_eq_false.mpr fun g hg => by rw [fresh g hg]; decide
  have offered := announce_joins mode room free
  have made : retried v = v.announce id := by
    rw [retried, retryAlerts_one one, retryDemands_idle (by rw [offered]; exact demands),
      retryShifts_idle (by rw [offered]; exact shifts)]
  rw [made, offered, State.mapAlarm_alarm_same]
  exact ⟨rfl, rfl⟩

theorem retried_demand {z : Zone} {d : Demand} (alarms : ∀ id, (v.alarm id).announce = false)
    (one : ∀ y, (v.demand y).unannounced = decide (y = z)) (shifts : ∀ r ∈ v.sr.ring, r.unannounced = false)
    (known : (v.demand z).known = some d) (mode : v.pt.mode ≠ .unconfigured) (room : v.li.tx.length < 12)
    (fresh : ∀ g ∈ v.li.tx, matchesKey .demand (demandWords z d) g = false) :
    ((retried v).demand z).unannounced = false
      ∧ (retried v).li.tx = if d.setter = v.ownStation then insertFrame (v.newFrame .demand (demandWords z d) 0 0) v.li.tx
        else v.li.tx := by
  have marked : (v.demand z).unannounced = true := (one z).trans (decide_eq_true rfl)
  have free : v.li.tx.any (matchesKey .demand (demandWords z d)) = false :=
    List.any_eq_false.mpr fun g hg => by rw [fresh g hg]; decide
  have offered : ∃ x : State, v.retryDemand z = x.mapDemand z (fun y => { y with unannounced := false })
      ∧ x.fa = v.fa ∧ x.sr = v.sr
      ∧ x.li.tx = if d.setter = v.ownStation then insertFrame (v.newFrame .demand (demandWords z d) 0 0) v.li.tx
        else v.li.tx := by
    by_cases own : d.setter = v.ownStation
    · exact ⟨_, retryDemand_own marked known own mode room free, rfl, rfl, (if_pos own).symm⟩
    · exact ⟨v, retryDemand_foreign marked known own, rfl, rfl, (if_neg own).symm⟩
  obtain ⟨x, offered, fa, sr, tx⟩ := offered
  have cleared : ((v.retryDemand z).demand z).unannounced = false := by rw [offered, State.mapDemand_demand_same]
  have others : ∀ y, y ≠ z → (v.retryDemand z).demand y = v.demand y := fun y h => by
    rw [offered, State.mapDemand_demand_other _ _ (Ne.symm h), State.demand, fa]
    rfl
  have made : retried v = v.retryDemand z := by
    rw [retried, retryAlerts_idle alarms, retryDemands_one one cleared others,
      retryShifts_idle (by rw [offered]; exact sr ▸ shifts)]
  rw [made]
  refine ⟨cleared, ?_⟩
  rw [offered, State.mapDemand_li, tx]

theorem retried_shift {r : ShiftRecord} (alarms : ∀ id, (v.alarm id).announce = false)
    (demands : ∀ z, (v.demand z).unannounced = false) (one : v.sr.ring.filter ShiftRecord.unannounced = [r])
    (mode : v.pt.mode ≠ .unconfigured) (room : v.li.tx.length < 12) :
    (retried v).li.tx = insertFrame (v.newFrame .shift (r.msg v.ownStation).words 0 r.closeId) v.li.tx
      ∧ ∀ x ∈ (retried v).sr.ring, x.closeId = r.closeId → x.unannounced = false := by
  have made : retried v = v.offerShift r := by
    rw [retried, retryAlerts_idle alarms, retryDemands_idle demands, retryShifts_one one]
  rw [made, offerShift_joins mode room r]
  refine ⟨rfl, fun x hx same => ?_⟩
  obtain ⟨y, -, rfl⟩ := List.mem_map.mp hx
  by_cases h : y.closeId = r.closeId
  · rw [if_pos h]
  · rw [if_neg h] at same
    exact absurd same h

/-! ### The whole completion -/

theorem completion_runs (tx : s.li.tx = a ++ f :: b) (sends : f.inSend = true) (waits : ∀ g ∈ a ++ b, g.inSend = false) :
    exec .transmitCompletion s
      = .next (finish s (retried { s with li := completedLi s (a ++ b), pt := completedPt s f }).judgeContact) := by
  have runs : exec .transmitCompletion s = .next (finish s (retried (s.completeSend f)).judgeContact) := by
    show Host.Outcome.next _ = _
    rw [tx, find_inSend sends waits]
    rfl
  rw [runs, completeSend_eq tx sends waits]

theorem still_withMode {t : State} (h : s.still = t.still) (m : Mode) :
    ({ s with pt := { s.pt with mode := m } } : State).still = ({ t with pt := { t.pt with mode := m } } : State).still :=
  congrArg (fun x : State => { x with pt := { x.pt with mode := m } }) h

/-- After a completion the own sends do not isolate the station: the peers alone decide (01 R18). -/
theorem retried_isolation (same : v.plant = s.plant) (completed : s.li.completionTime = s.now) :
    v.isolation = true ↔ s.expectsPeers = true ∧ s.li.rxTime + 750000 ≤ s.now := by
  have now : v.now = s.now := now_of_plant same
  have completion : v.li.completionTime = s.li.completionTime := congrArg (fun x => x.li.completionTime) same
  have rx : v.li.rxTime = s.li.rxTime := congrArg (fun x => x.li.rxTime) same
  have expects : v.expectsPeers = s.expectsPeers := congrArg (fun x => x.expectsPeers) same
  rw [isolation_iff, now, completion, completed, rx, expects]
  exact or_iff_right fun h => by omega

end

/-- Settles O9: the retries offer what is marked, and the peers alone decide the isolation. -/
theorem completionLeavesQueue : Obligations.CompletionLeavesQueue := by
  unfold Obligations.CompletionLeavesQueue
  intro s a b f tx sends waits
  refine ⟨_, completion_runs tx sends waits, ?_⟩
  generalize hv : ({ s with li := completedLi s (a ++ b), pt := completedPt s f } : State) = v
  have isolation := retried_isolation (v := retried v) (s := v) (retried_plant v) (by rw [← hv]; rfl)
  have mode : (retried v).pt.mode = s.pt.mode := (congrArg PeerTable.mode (retried_pt v)).trans (by rw [← hv]; rfl)
  have still : (retried v).still = ({ s with
      li := { s.li with
        sent := s.li.sent + 1
        completionTime := s.now
        quietSince := some (s.now + 2) } } : State).still := by
    refine State.still_of_plant ((retried_plant v).trans ?_)
    rw [← hv]
    rfl
  have expects : v.expectsPeers = s.expectsPeers := by rw [← hv]; rfl
  have received : v.li.rxTime = s.li.rxTime ∧ v.now = s.now := by rw [← hv]; exact ⟨rfl, rfl⟩
  rw [expects, received.1, received.2] at isolation
  by_cases ends : s.pt.mode = .isolated ∧ ¬ (s.expectsPeers = true ∧ s.li.rxTime + 750000 ≤ s.now)
  case pos =>
    have contact : (retried v).judgeContact = (retried v).exitIsolated :=
      if_pos ⟨mode.trans ends.1, Bool.not_eq_true _ ▸ fun h => ends.2 (isolation.mp h)⟩
    rw [contact, if_pos ends]
    refine ⟨?_, fun goes => absurd ends.1 goes⟩
    exact (exitIsolated_still _).trans (still_withMode still .normal)
  case neg =>
    have contact : (retried v).judgeContact = retried v := State.judgeContact_still_of_not _ fun h =>
      ends ⟨mode.symm.trans h.1, fun cut => by rw [isolation.mpr cut] at h; cases h.2⟩
    rw [contact, if_neg ends]
    refine ⟨still, fun goes => ⟨(ce_of_plant (retried_plant v)).trans (by rw [← hv]),
      (zs_of_plant (retried_plant v)).trans (by rw [← hv]),
      (congrArg PeerTable.rollIndex (retried_pt v)).trans (by rw [← hv]; rfl), fun alarms demands shifts => ?_,
      fun configured room => ⟨fun id one demands shifts fresh => ?_,
        fun z d alarms one shifts known fresh => ?_, fun r alarms demands one => ?_⟩⟩⟩
    · rw [retried_idle (v := v) (by rw [← hv]; exact alarms) (by rw [← hv]; exact demands) (by rw [← hv]; exact shifts), ← hv]
      exact ⟨rfl, rfl, rfl, rfl, rfl, rfl⟩
    · subst hv
      exact retried_alert one demands shifts configured room fresh
    · subst hv
      exact retried_demand alarms one shifts known configured room fresh
    · subst hv
      exact retried_shift alarms demands one configured room

end Sys2Proof.Proofs
end

section
/-! PROOF. O20: the end of the listen settles the zones (02 R35; 04 R80, R82, R84, R85, R87). -/

namespace Sys2Proof.Proofs
open Sys2Proof.Machine

/-! ### What a change elsewhere leaves of a zone and of the figures that a trip of it takes -/

section
variable {s t u : State} {z y : Zone} {c : Chan}

/-- Two states that agree in a zone, its channels and what its trip snapshot takes (04 R85). -/
structure ZoneFed (z : Zone) (s t : State) : Prop where
  alike : ZoneAlike z s t
  firing : t.firing z = s.firing z
  dEff : (t.demand z).dEff = (s.demand z).dEff

theorem ZoneFed.refl : ZoneFed z s s := ⟨.refl, rfl, rfl⟩

theorem ZoneFed.trans (a : ZoneFed z s t) (b : ZoneFed z t u) : ZoneFed z s u :=
  ⟨a.alike.trans b.alike, b.firing.trans a.firing, b.dEff.trans a.dEff⟩

theorem dEff_of_plant (h : t.plant = s.plant) (z : Zone) : (t.demand z).dEff = (s.demand z).dEff :=
  (unmarked_fields (demand_of_still (State.still_of_plant h) z)).2.1

theorem ChanMoves.dEff (m : ChanMoves c s t) (z : Zone) : (t.demand z).dEff = (s.demand z).dEff := by
  refine m.leaves (fun x => (x.demand z).dEff) fun a b hm => ?_
  cases hm with
  | cond id v x _ => exact dEff_of_plant (State.setCond_plant _ _ _ _) z
  | _ => rfl

theorem ZoneWork.dEff (h : ZoneWork y s t) (z : Zone) : (t.demand z).dEff = (s.demand z).dEff := by
  cases h with
  | record g => rfl
  | hand h =>
    cases h with
    | cond id v x _ => exact dEff_of_plant (State.setCond_plant _ _ _ _) z
    | _ => rfl
  | flicker v => exact dEff_of_plant (State.setCond_plant _ _ _ _) z
  | chan own h => exact ChanMoves.dEff (.single h) z

theorem ZoneWork.firing_other (h : ZoneWork y s t) (hy : y ≠ z) : t.firing z = s.firing z := by
  cases h with
  | record g => rfl
  | hand h => exact ZoneHands.firing_other (.single h) (Ne.symm hy)
  | flicker v => exact firing_of_plant (State.setCond_plant _ _ _ _) z
  | chan own h => exact ChanMoves.firing (.single h) z

/-- Work on another zone. -/
theorem ZoneWorks.fed (hy : y ≠ z) (m : ZoneWorks y s t) : ZoneFed z s t :=
  ⟨m.alike hy, m.leaves (fun x => x.firing z) fun _ _ h => h.firing_other hy,
    m.leaves (fun x => (x.demand z).dEff) fun _ _ h => h.dEff z⟩

/-- A change of a channel that is no fuel channel of the zone. -/
theorem ChanMoves.fed (m : ChanMoves c s t) (other : s.ownFuel z c = false)
    (flicker : idFlameUnstable z ∉ stateIds c) : ZoneFed z s t := by
  refine ⟨⟨m.zone z, m.surround, fun d hd => m.chan_other fun e => ?_, m.cond_other flicker⟩, m.firing z, m.dEff z⟩
  rw [e, other] at hd
  cases hd

/-- An operation for each zone of a list that the zone is not in. -/
theorem foldl_fed_absent {op : State → Zone → State} (apart : ∀ x y, y ≠ z → ZoneFed z x (op x y)) {l : List Zone}
    (out : z ∉ l) (s : State) : ZoneFed z s (l.foldl op s) := by
  induction l generalizing s with
  | nil => exact .refl
  | cons y l ih =>
    obtain ⟨ne, out⟩ := not_or.mp (mt List.mem_cons.mpr out)
    exact (apart s y (Ne.symm ne)).trans (ih out _)

/-- An operation for each zone in turn: the zone's own acts on a state that agrees with the first. -/
theorem foldl_fed {op : State → Zone → State} (apart : ∀ x y, y ≠ z → ZoneFed z x (op x y)) {l : List Zone}
    (distinct : l.Nodup) (mem : z ∈ l) (s : State) :
    ∃ t, ZoneFed z s t ∧ ZoneFed z (op t z) (l.foldl op s) := by
  obtain ⟨before, after, rfl⟩ := List.append_of_mem mem
  have apart' := List.nodup_append.mp distinct
  have outBefore : z ∉ before := fun h => apart'.2.2 z h z (List.mem_cons_self ..) rfl
  have outAfter : z ∉ after := (List.nodup_cons.mp apart'.2.1).1
  rw [List.foldl_append, List.foldl_cons]
  exact ⟨_, foldl_fed_absent apart outBefore s, foldl_fed_absent apart outAfter _⟩

/-! ### The channels at the end of the listen (06 R127) -/

theorem listenFan_chanMoves (s : State) (c : Chan) : ChanMoves c s (s.listenFan c) := by
  unfold State.listenFan
  split
  · split
    · exact takeBase_chanMoves _ c _
    · exact .refl
  · exact .refl

theorem listenFan_fed (s : State) (c : Chan) : ZoneFed z s (s.listenFan c) := by
  cases own : s.ownFuel z c with
  | false => exact (listenFan_chanMoves s c).fed own ((flameUnstable_apart z z).2.2 c)
  | true =>
    obtain ⟨f, fuel, -⟩ := fuel?_of_own own
    have idle : s.listenFan c = s := by
      unfold State.listenFan
      rw [show s.fan? c = none by rw [State.fan?, (fuel?_some fuel).1]]
    rw [idle]
    exact .refl

theorem listenFans_fed (s : State) : ZoneFed z s (allChans.foldl State.listenFan s) := by
  have each : ∀ (l : List Chan) (x : State), ZoneFed z x (l.foldl State.listenFan x) := by
    intro l
    induction l with
    | nil => exact fun _ => .refl
    | cons c l ih => exact fun x => (listenFan_fed x c).trans (ih _)
  exact each _ s

/-! ### One zone at the end of the listen (04 R87) -/

/-- The zone's record as the settling begins: the merged epoch, and the view judged anew. -/
def mergedRec (s : State) (z : Zone) (r : ZoneRec) : ZoneRec :=
  { r with epoch := mergeEpochs r.epoch (s.listenEpochs z), view := s.flameView z }

/-- The state as the settling of the zone begins. -/
def listenMerged (s : State) (z : Zone) : State := s.mapZone z (mergedRec s z)

theorem settleZone_noted {n : Station} (noted : s.notedPeer z = some n) : s.settleZone z
    = (listenMerged s z).peerTrip z (s.peerEntry n none none ((mergeEpochs (s.zone z).epoch (s.listenEpochs z)).getD 0)) := by
  unfold State.settleZone
  rw [noted]
  rfl

theorem settleZone_quiet (noted : s.notedPeer z = none) : s.settleZone z
    = if s.esd = true then listenMerged s z
      else if s.peerReports z .lit = true ∧ s.flameView z = true then (listenMerged s z).setZone z .lit
      else if s.peerReports z .ready = true then (listenMerged s z).setZone z .ready
      else listenMerged s z := by
  have view : ((listenMerged s z).zone z).view = s.flameView z := by
    unfold listenMerged
    rw [State.mapZone_zone_same]
    rfl
  rw [← view]
  unfold State.settleZone
  rw [noted]
  rfl

theorem settleZone_works (s : State) (z : Zone) : ZoneWorks z s (s.settleZone z) := by
  have merged : ZoneWorks z s (listenMerged s z) := .single (.record _ _)
  cases noted : s.notedPeer z with
  | some n =>
    rw [settleZone_noted noted]
    exact (merged.trans (tripSteps_works _ z _)).trans (setZone_works _ z _)
  | none =>
    rw [settleZone_quiet noted]
    split
    · exact merged
    split
    · exact merged.trans (setZone_works _ z _)
    split
    · exact merged.trans (setZone_works _ z _)
    · exact merged

theorem settleZone_trips (s : State) (z : Zone) : tripFrames (s.settleZone z) = tripFrames s := by
  cases noted : s.notedPeer z with
  | some n =>
    rw [settleZone_noted noted, peerTrip_trips]
    rfl
  | none =>
    rw [settleZone_quiet noted]
    split
    · rfl
    split
    · exact setZone_trips
    split
    · exact setZone_trips
    · rfl

/-! ### What the peers report (04 R87) -/

/-- The test of `notedPeer` on one peer. -/
def notes (s : State) (z : Zone) (n : Station) : Bool :=
  (s.peer n).fresh == .fresh && !((s.peer n).mode == some .starting) &&
    match (s.peer n).block? z with
    | some b => b.state == .tripped && (match b.epoch with
        | some e => newerEpoch (s.zone z).epoch e
        | none => false)
    | none => false

theorem notedPeer_eq (s : State) (z : Zone) : s.notedPeer z = allStations.find? (notes s z) := rfl

theorem newerEpoch_iff (held : Option Word) (e : Word) :
    newerEpoch held e = true ↔ ∀ h, held = some h → serialNewer e h = true := by
  refine ⟨fun newer h eq => ?_, newerEpoch_of⟩
  rw [eq] at newer
  exact newer

theorem notes_iff (s : State) (z : Zone) (n : Station) : notes s z n = true ↔ s.reportsTrip z n := by
  unfold notes State.reportsTrip
  rw [Bool.and_eq_true, Bool.and_eq_true, beq_iff_eq, Bool.not_eq_true', beq_eq_false_iff_ne, and_assoc]
  refine and_congr_right' (and_congr_right' ?_)
  cases block : (s.peer n).block? z with
  | none => exact ⟨fun h => (by cases h), fun ⟨b, e, h, _⟩ => (by cases h)⟩
  | some b =>
    dsimp only
    rw [Bool.and_eq_true, beq_iff_eq]
    constructor
    · rintro ⟨state, newer⟩
      cases epoch : b.epoch with
      | none => rw [epoch] at newer; cases newer
      | some e =>
        rw [epoch] at newer
        exact ⟨b, e, rfl, state, epoch, (newerEpoch_iff _ _).mp newer⟩
    · rintro ⟨b', e, same, state, epoch, newer⟩
      cases same
      rw [epoch]
      exact ⟨state, newerEpoch_of newer⟩

theorem mem_allStations (n : Station) : n ∈ allStations := by revert n; decide

theorem notedPeer_none (quiet : ∀ n, ¬ s.reportsTrip z n) : s.notedPeer z = none :=
  List.find?_eq_none.mpr fun n _ h => quiet n ((notes_iff s z n).mp h)

theorem notedPeer_first {n : Station} (reports : s.reportsTrip z n) (first : ∀ m, m < n → ¬ s.reportsTrip z m) :
    s.notedPeer z = some n := by
  have ordered : allStations.Pairwise (· < ·) := by decide
  obtain ⟨before, after, split⟩ := List.append_of_mem (mem_allStations n)
  rw [split] at ordered
  have lower : ∀ m ∈ before, m < n := fun m hm =>
    (List.pairwise_append.mp ordered).2.2 m hm n (List.mem_cons_self ..)
  rw [notedPeer_eq, List.find?_eq_some_iff_append]
  refine ⟨(notes_iff s z n).mpr reports, before, after, split, fun m hm => ?_⟩
  have silent : ¬ notes s z m = true := fun h => first m (lower m hm) ((notes_iff s z m).mp h)
  rw [Bool.eq_false_iff.mpr silent]
  rfl

theorem ZoneAlike.notedPeer (a : ZoneAlike z s t) : t.notedPeer z = s.notedPeer z := by
  simp only [State.notedPeer, peer_of_surround a.around, a.zone]

theorem ZoneAlike.listenEpochs (a : ZoneAlike z s t) : t.listenEpochs z = s.listenEpochs z := by
  simp only [State.listenEpochs, peer_of_surround a.around]

theorem ZoneAlike.mergedRec (a : ZoneAlike z s t) (r : ZoneRec) : mergedRec t z r = mergedRec s z r := by
  unfold Proofs.mergedRec
  rw [a.listenEpochs, flameView_of_surround a.around]

/-- An epoch heard is merged. -/
theorem mergeEpochs_some (held : Option Word) {l : List Word} (h : held ≠ none ∨ l ≠ []) :
    mergeEpochs held l ≠ none := by
  induction l generalizing held with
  | nil => exact h.resolve_right fun ne => ne rfl
  | cons e l ih =>
    refine ih _ (.inl ?_)
    cases held with
    | none => simp [newerEpoch]
    | some x =>
      dsimp only
      split
      · exact Option.some_ne_none _
      · exact Option.some_ne_none _

theorem listenEpochs_ne_nil {n : Station} (reports : s.reportsTrip z n) : s.listenEpochs z ≠ [] := by
  obtain ⟨fresh, mode, b, e, block, -, epoch, -⟩ := reports
  refine List.ne_nil_of_mem (a := e) (List.mem_filterMap.mpr ⟨n, mem_allStations n, ?_⟩)
  dsimp only
  rw [if_pos ⟨fresh, mode⟩, block]
  exact epoch

/-- A DARK zone that no peer reports TRIPPED is adopted, or stays (04 R87). -/
theorem settleZone_adopts (noted : s.notedPeer z = none) (dark : (s.zone z).state = .dark) :
    ((s.settleZone z).zone z).state = (if s.esd = true then .dark
        else if s.peerReports z .lit = true ∧ s.flameView z = true then .lit
        else if s.peerReports z .ready = true then .ready
        else .dark)
      ∧ ((s.settleZone z).zone z).epoch = mergeEpochs (s.zone z).epoch (s.listenEpochs z)
      ∧ ((s.settleZone z).zone z).firstOut = (s.zone z).firstOut
      ∧ ((s.settleZone z).zone z).snapshot = (s.zone z).snapshot := by
  have merged : (listenMerged s z).zone z = mergedRec s z (s.zone z) := State.mapZone_zone_same _ _ _
  have state : ((listenMerged s z).zone z).state = .dark := by rw [merged]; exact dark
  rw [settleZone_quiet noted]
  split
  · rw [merged]
    exact ⟨dark, rfl, rfl, rfl⟩
  split
  · rw [setZone_zone_same (by rw [state]; decide), merged]
    exact ⟨rfl, rfl, rfl, rfl⟩
  split
  · rw [setZone_zone_same (by rw [state]; decide), merged]
    exact ⟨rfl, rfl, rfl, rfl⟩
  · rw [merged]
    exact ⟨dark, rfl, rfl, rfl⟩

/-- The entry of the peer trip at the end of the listen (log 21). -/
def listenEntry (s : State) (z : Zone) (n : Station) : CauseEntry :=
  s.peerEntry n none none ((mergeEpochs (s.zone z).epoch (s.listenEpochs z)).getD 0)

/-- A zone that a peer reports TRIPPED is tripped by it. -/
theorem settleZone_trips_made {n : Station} (noted : s.notedPeer z = some n) (dark : (s.zone z).state = .dark) :
    TripMade (listenMerged s z) z (listenEntry s z n) (s.settleZone z) := by
  rw [settleZone_noted noted]
  refine peerTrip_made ?_ _
  rw [listenMerged, State.mapZone_zone_same]
  show (s.zone z).state ≠ .tripped
  rw [dark]
  decide

theorem listenMerged_snapshot (s : State) (z : Zone) (e : CauseEntry) :
    (listenMerged s z).tripSnapshot z e = s.tripSnapshot z e := rfl

/-- What the trip snapshot takes is among what agrees. -/
theorem ZoneFed.tripSnapshot (a : ZoneFed z s t) (e : CauseEntry) : t.tripSnapshot z e = s.tripSnapshot z e := by
  unfold State.tripSnapshot
  rw [show t.stamp = s.stamp from congrArg Surround.stamp a.alike.around, a.dEff, a.firing,
    ownFuels_of_config a.alike.config]
  congr 1
  refine List.map_congr_left fun c hc => ?_
  rw [a.alike.chan c (mem_ownFuels_iff.mp hc)]

/-! ### The end of the listen -/

/-- The station is NORMAL. -/
def nowNormal (s : State) : State := { s with pt := { s.pt with mode := .normal } }

/-- The zones and fans after the end of the listen. -/
def listenSettled (s : State) : State :=
  allChans.foldl State.listenFan ((allZones.filter s.participates).foldl State.settleZone (nowNormal s))

theorem exec_listenEnd (mode : s.pt.mode = .starting) (late : s.pt.startTime + 500000 ≤ s.now) :
    exec .listenEnd s = .next (finish s (listenSettled s)) :=
  guarded_acts rfl ⟨mode, (passed_iff _ _ _).mpr late⟩

theorem listenSettled_still (s : State) : (listenSettled s).still = (nowNormal s).still := by
  have zones : Moves true (nowNormal s) ((allZones.filter s.participates).foldl State.settleZone (nowNormal s)) :=
    settleZones_moves rfl fun z hz => (List.mem_filter.mp hz).2
  exact (Moves.foldl (e := true) _ listenFan_moves _ _).still.trans zones.still

theorem listenSettled_trips (s : State) : tripFrames (listenSettled s) = tripFrames s :=
  (foldl_leaves tripFrames _ (fun x c => (listenFan_chanMoves x c).trips) _ _).trans
    (foldl_leaves tripFrames _ settleZone_trips _ _)

theorem listenSettled_absent (part : s.participates z = false) : (listenSettled s).zone z = s.zone z := by
  have out : z ∉ allZones.filter s.participates := fun h => by
    rw [(List.mem_filter.mp h).2] at part
    cases part
  exact ((foldl_fed_absent (fun x y hy => (settleZone_works x y).fed hy) out (nowNormal s)).trans
    (listenFans_fed _)).alike.zone

/-- A participating zone is settled on a state that agrees with the one at the end of the listen. -/
theorem listenSettled_zone (part : s.participates z = true) :
    ∃ t, ZoneFed z (nowNormal s) t ∧ ZoneFed z (t.settleZone z) (listenSettled s) := by
  obtain ⟨t, before, after⟩ := foldl_fed (z := z) (fun x y hy => (settleZone_works x y).fed hy)
    (List.Nodup.filter _ (by decide : allZones.Nodup)) (List.mem_filter.mpr ⟨mem_allZones z, part⟩) (nowNormal s)
  exact ⟨t, before, after.trans (listenFans_fed _)⟩

theorem mergeEpochs_eq (held : Option Word) (l : List Word) : mergeEpochs held l = l.foldl (fun acc e => match acc with
    | none => some e
    | some h => if serialNewer e h = true then some e else some h) held := by
  unfold mergeEpochs
  congr 1
  funext acc e
  cases acc with
  | none => rfl
  | some h => rfl

/-- A participating DARK zone that a peer reports TRIPPED, after the end of the listen. -/
theorem listenSettled_tripped {n : Station} (part : s.participates z = true) (dark : (s.zone z).state = .dark)
    (noted : s.notedPeer z = some n) :
    ((listenSettled s).zone z).state = .tripped
      ∧ ((listenSettled s).zone z).tripHold = .running (s.now + 250000 * s.zoneParam z ZoneCfg.tripHold)
      ∧ ((listenSettled s).zone z).epoch = some (listenEntry s z n).epoch
      ∧ ((listenSettled s).zone z).firstOut = some (addCause (s.zone z).firstOut (listenEntry s z n))
      ∧ ((listenSettled s).zone z).snapshot = some (s.tripSnapshot z (listenEntry s z n))
      ∧ ∀ c, s.ownFuel z c = true → ((listenSettled s).chan c).shutReleased = false
        ∧ (TripCause.zoneTrip.reaches (s.chan c).state = true →
          ((listenSettled s).chan c).state = .tripped ∧ ((listenSettled s).chan c).cause = some .zoneTrip) := by
  obtain ⟨t, before, after⟩ := listenSettled_zone part
  have zone : t.zone z = s.zone z := before.alike.zone
  have config : t.config = s.config := before.alike.config
  have own : ∀ c, t.ownFuel z c = s.ownFuel z c := ownFuel_of_config config z
  have now : t.now = s.now := congrArg Surround.now before.alike.around
  have stamp : t.stamp = s.stamp := congrArg Surround.stamp before.alike.around
  have epochs : t.listenEpochs z = s.listenEpochs z := before.alike.listenEpochs
  have entry : listenEntry t z n = listenEntry s z n := by
    unfold listenEntry State.peerEntry
    rw [zone, epochs, stamp]
  have hold : t.zoneParam z ZoneCfg.tripHold = s.zoneParam z ZoneCfg.tripHold := by
    rw [State.zoneParam, State.zoneCfg?, config]
    rfl
  have snapshot : t.tripSnapshot z (listenEntry s z n) = s.tripSnapshot z (listenEntry s z n) := before.tripSnapshot _
  obtain ⟨made, -, shut, reached, -⟩ := settleZone_trips_made (s := t) (before.alike.notedPeer.trans noted)
    (by rw [zone]; exact dark)
  obtain ⟨state, epoch, holds, firstOut, snap⟩ := trippedZone_fields (listenMerged t z) z (listenEntry t z n)
  rw [entry] at made state epoch holds firstOut snap
  have merged : ((listenMerged t z).zone z).firstOut = (s.zone z).firstOut := by
    rw [listenMerged, State.mapZone_zone_same, zone]
    rfl
  rw [after.alike.zone, made, state, epoch, holds, firstOut, snap, listenMerged_snapshot, snapshot, merged]
  refine ⟨rfl, ?_, rfl, rfl, rfl, fun c hc => ?_⟩
  · rw [← now, ← hold]
    rfl
  · have still : ∀ d, (listenMerged t z).chan d = t.chan d := fun _ => rfl
    have kept : t.chan c = s.chan c := before.alike.chan c hc
    have here : (listenSettled s).chan c = (t.settleZone z).chan c := after.alike.chan c <| by
      rw [ownFuel_of_config (settleZone_works t z).config, own]
      exact hc
    have mine : (listenMerged t z).ownFuel z c = true := (own c).trans hc
    rw [here]
    exact ⟨shut c mine, fun reach => reached c mine (by rw [still, kept]; exact reach)⟩

/-- The merged epoch of a zone that a peer reports TRIPPED is one. -/
theorem listenEntry_epoch {n : Station} (reports : s.reportsTrip z n) :
    mergeEpochs (s.zone z).epoch (s.listenEpochs z) = some (listenEntry s z n).epoch := by
  have merged := mergeEpochs_some (s.zone z).epoch (.inr (listenEpochs_ne_nil reports))
  show _ = some ((mergeEpochs (s.zone z).epoch (s.listenEpochs z)).getD 0)
  cases h : mergeEpochs (s.zone z).epoch (s.listenEpochs z) with
  | none => exact absurd h merged
  | some e => rfl

/-- A participating DARK zone that no peer reports TRIPPED, after the end of the listen. -/
theorem listenSettled_quiet (part : s.participates z = true) (dark : (s.zone z).state = .dark)
    (noted : s.notedPeer z = none) :
    ((listenSettled s).zone z).state = (if s.esd = true then .dark
        else if s.peerReports z .lit = true ∧ s.flameView z = true then .lit
        else if s.peerReports z .ready = true then .ready
        else .dark)
      ∧ ((listenSettled s).zone z).epoch = mergeEpochs (s.zone z).epoch (s.listenEpochs z)
      ∧ ((listenSettled s).zone z).firstOut = (s.zone z).firstOut
      ∧ ((listenSettled s).zone z).snapshot = (s.zone z).snapshot := by
  obtain ⟨t, before, after⟩ := listenSettled_zone part
  have around := before.alike.around
  have zone : t.zone z = s.zone z := before.alike.zone
  have esd : t.esd = s.esd := congrArg Surround.esd around
  have lit : t.peerReports z .lit = s.peerReports z .lit := peerReports_of_surround around z _
  have ready : t.peerReports z .ready = s.peerReports z .ready := peerReports_of_surround around z _
  have view : t.flameView z = s.flameView z := flameView_of_surround around z
  have epochs : t.listenEpochs z = s.listenEpochs z := before.alike.listenEpochs
  have adopts := settleZone_adopts (s := t) (before.alike.notedPeer.trans noted) (by rw [zone]; exact dark)
  rw [esd, lit, ready, view, epochs, zone] at adopts
  rw [after.alike.zone]
  exact adopts

theorem listenSettled_epoch (part : s.participates z = true) (dark : (s.zone z).state = .dark) :
    ((listenSettled s).zone z).epoch = mergeEpochs (s.zone z).epoch (s.listenEpochs z) := by
  cases noted : s.notedPeer z with
  | none => exact (listenSettled_quiet part dark noted).2.1
  | some n =>
    obtain ⟨-, -, epoch, -⟩ := listenSettled_tripped part dark noted
    have reports := (notes_iff s z n).mp (List.find?_some noted)
    rw [epoch, listenEntry_epoch reports]

end

/-- Settles O20: each participating zone is settled for itself, by what the peers report of it. -/
theorem listenEnds : Obligations.ListenEnds := by
  unfold Obligations.ListenEnds
  intro s mode
  split
  case isFalse early => exact guarded_idle rfl fun h => early ((passed_iff _ _ _).mp h.2)
  case isTrue late =>
    refine ⟨listenSettled s, exec_listenEnd mode late, listenSettled_still s, listenSettled_trips s,
      fun z part => listenSettled_absent part, fun z part dark => ?_⟩
    refine ⟨(listenSettled_epoch part dark).trans (mergeEpochs_eq _ _), fun quiet => ?_, fun n reports first => ?_⟩
    · obtain ⟨state, -, firstOut, snapshot⟩ := listenSettled_quiet part dark (notedPeer_none quiet)
      exact ⟨state, firstOut, snapshot⟩
    · obtain ⟨state, hold, epoch, firstOut, snapshot, chans⟩ :=
        listenSettled_tripped part dark (notedPeer_first reports first)
      refine ⟨state, hold, ⟨_, listenEntry s z n, epoch, rfl, firstOut.trans ?_, snapshot⟩, chans⟩
      cases (s.zone z).firstOut with
      | none => rfl
      | some fo => rfl

end Sys2Proof.Proofs
end

section
/-! PROOF. The roll-call part of a SNAP in the floor alarm view (08 R155, R156, R158), for O17. -/

namespace Sys2Proof.Proofs
open Sys2Proof.Machine

section
variable {s : State} {n : Station} {r : RollCall} {listed index : Nat} {e : RollEntry} {id : AlarmId} {st : AlarmState}

/-! ### The consistency of the part (08 R155 step 2) -/

theorem rollReport_some (code : alarmIdOf e.id = some id) (state : alarmStateOf e.state = some st)
    (priority : e.priority = alarmPriority id) : rollReport e = some (id, st) := by
  unfold rollReport
  rw [code, state]
  exact if_pos priority.symm

theorem rollReport_none (bad : ∀ id st, alarmIdOf e.id = some id → alarmStateOf e.state = some st →
    e.priority ≠ alarmPriority id) : rollReport e = none := by
  unfold rollReport
  split
  next id st code state => exact if_neg fun same => bad id st code state same.symm
  next => rfl

theorem rollConsistent_bad {entry : Option RollEntry} (bad : (entry = none ∧ listed ≠ 0)
      ∨ ∃ e, entry = some e ∧ (listed ≤ index ∨ ∀ id st, alarmIdOf e.id = some id → alarmStateOf e.state = some st →
        e.priority ≠ alarmPriority id)) : rollConsistent listed index entry = none := by
  rcases bad with ⟨rfl, some⟩ | ⟨e, rfl, out | codes⟩
  · exact if_neg some
  · exact if_neg (Nat.not_lt.mpr out)
  · unfold rollConsistent
    dsimp only
    rw [rollReport_none codes, Option.map_none, ite_self]

theorem rollConsistent_entry (inside : index < listed) (code : alarmIdOf e.id = some id)
    (state : alarmStateOf e.state = some st) (priority : e.priority = alarmPriority id) :
    rollConsistent listed index (some e) = some (some (id, st, e)) := by
  unfold rollConsistent
  dsimp only
  rw [if_pos inside, rollReport_some code state priority]
  rfl

/-! ### The pass step (08 R155 step 3, R156) -/

theorem mapRoll_view (s : State) (n : Station) (f : RollCall → RollCall) : (s.mapRoll n f).fv.view = s.fv.view := rfl
theorem mapRoll_full (s : State) (n : Station) (f : RollCall → RollCall) : (s.mapRoll n f).fv.full = s.fv.full := rfl
theorem mapRoll_rollCall_same (s : State) (n : Station) (f : RollCall → RollCall) :
    (s.mapRoll n f).rollCall n = f (s.rollCall n) := upd_get_same _ _ _
theorem mapRoll_rollCall_other (s : State) {n k : Station} (h : k ≠ n) (f : RollCall → RollCall) :
    (s.mapRoll n f).rollCall k = s.rollCall k := upd_get_other _ _ (Ne.symm h)

theorem setView_rollCall (s : State) (v : List Mirror) (full : Bool) (k : Station) :
    (s.setView v full).rollCall k = s.rollCall k := by
  rw [State.rollCall, setView_fv, State.rollCall]

/-- The view after the end of a pass of a FRESH origin: a whole pass drops the unseen mirrors and clears ORIGIN_LOST. -/
def passedView (n : Station) (whole : Bool) (v : List Mirror) : List Mirror :=
  (v.filter fun x => decide (x.origin ≠ n) || x.seen || !whole).map fun x =>
    if x.origin = n then { x with seen := false, lost := x.lost && !whole } else x

theorem endPass_view (fresh : (s.peer n).fresh = .fresh) :
    (s.endPass n).fv = { s.fv with
      view := passedView n (s.rollCall n).whole s.fv.view
      full := s.fv.full && decide (64 ≤ (passedView n (s.rollCall n).whole s.fv.view).length) } := by
  have kept : (if (s.rollCall n).whole = true then s.fv.view.filter (fun m => !(m.origin == n) || m.seen) else s.fv.view)
      = s.fv.view.filter fun x => decide (x.origin ≠ n) || x.seen || !(s.rollCall n).whole := by
    cases (s.rollCall n).whole with
    | true =>
      rw [if_pos rfl]
      refine List.filter_congr fun x _ => ?_
      rw [Bool.not_true, Bool.or_false, decide_not]
      rfl
    | false =>
      rw [if_neg (by decide)]
      exact (List.filter_eq_self.mpr fun x _ => by rw [Bool.not_false, Bool.or_true]).symm
  unfold State.endPass
  dsimp only
  rw [kept, fresh, setView_fv]
  simp only [beq_self_eq_true, Bool.and_true]
  rfl

/-- Whether the part ends the pass that is open. -/
def wraps (r : RollCall) (index : Nat) : Prop := r.opened = true ∧ r.prevLast = true ∧ index = 0

/-- The roll call after the pass step. -/
def steppedRoll (r : RollCall) (index : Nat) : RollCall :=
  { r with
    opened := true
    whole := if r.opened = false ∨ (r.prevLast = true ∧ index = 0) then decide (index = 0)
      else r.whole && decide (index ≤ r.prevIndex + 1) }

theorem rollPass_wraps (wrapped : wraps (s.rollCall n) index) :
    s.rollPass n index = (s.endPass n).mapRoll n fun r => { r with whole := true } := by
  obtain ⟨opened, last, first⟩ := wrapped
  unfold State.rollPass
  dsimp only
  rw [if_neg (by rw [opened]; decide), if_pos ⟨last, first⟩]

theorem rollPass_goes (on : ¬ wraps (s.rollCall n) index) :
    (s.rollPass n index).fv.view = s.fv.view ∧ (s.rollPass n index).fv.full = s.fv.full := by
  unfold State.rollPass
  dsimp only
  split
  next => exact ⟨rfl, rfl⟩
  next opened =>
    rw [if_neg fun h => on ⟨by simpa using opened, h⟩]
    split
    · exact ⟨rfl, rfl⟩
    · exact ⟨rfl, rfl⟩

theorem rollPass_rollCall (s : State) (n : Station) (index : Nat) :
    (s.rollPass n index).rollCall n = steppedRoll (s.rollCall n) index := by
  unfold steppedRoll
  cases opened : (s.rollCall n).opened with
  | false =>
    have opens : s.rollPass n index = s.mapRoll n fun r => { r with opened := true, whole := decide (index = 0) } := by
      unfold State.rollPass
      dsimp only
      rw [if_pos (by rw [opened]; rfl)]
    rw [opens, mapRoll_rollCall_same, if_pos (.inl rfl)]
  | true =>
    by_cases wrap : (s.rollCall n).prevLast = true ∧ index = 0
    · rw [rollPass_wraps ⟨opened, wrap⟩, mapRoll_rollCall_same, State.endPass, setView_rollCall, if_pos (.inr wrap),
        wrap.2, opened]
      rfl
    · have goes : s.rollPass n index = if (s.rollCall n).prevIndex + 1 < index then
          s.mapRoll n fun r => { r with whole := false } else s := by
        unfold State.rollPass
        dsimp only
        rw [if_neg (by rw [opened]; decide), if_neg wrap]
      rw [if_neg (by simpa using wrap), goes]
      split
      next skips =>
        rw [mapRoll_rollCall_same, decide_eq_false (Nat.not_le.mpr skips), Bool.and_false, opened]
      next follows =>
        rw [decide_eq_true (Nat.not_lt.mp follows), Bool.and_true, ← opened]

theorem rollPass_rollCall_other {k : Station} (h : k ≠ n) : (s.rollPass n index).rollCall k = s.rollCall k := by
  unfold State.rollPass
  dsimp only
  split
  · exact mapRoll_rollCall_other _ h _
  split
  · rw [mapRoll_rollCall_other _ h, State.endPass, setView_rollCall]
  split
  · exact mapRoll_rollCall_other _ h _
  · rfl

theorem setView_peer (s : State) (v : List Mirror) (full : Bool) (k : Station) : (s.setView v full).peer k = s.peer k := by
  unfold State.setView
  dsimp only
  split <;> rfl

theorem rollPass_peer (k : Station) : (s.rollPass n index).peer k = s.peer k := by
  unfold State.rollPass
  dsimp only
  split
  · rfl
  split
  · exact setView_peer _ _ _ k
  split <;> rfl

/-- The view after the pass step (08 R156). -/
def steppedView (n : Station) (r : RollCall) (index : Nat) (v : List Mirror) : List Mirror :=
  if r.opened = true ∧ r.prevLast = true ∧ index = 0 then passedView n r.whole v else v

theorem rollPass_view (fresh : (s.peer n).fresh = .fresh) :
    (s.rollPass n index).fv.view = steppedView n (s.rollCall n) index s.fv.view := by
  unfold steppedView
  by_cases wrap : wraps (s.rollCall n) index
  · rw [if_pos (by exact wrap), rollPass_wraps wrap, mapRoll_view, endPass_view fresh]
  · rw [if_neg (by exact wrap), (rollPass_goes wrap).1]

/-- VIEW_FULL ends with a view of fewer than 64 mirrors that the step made. -/
theorem rollPass_full (fresh : (s.peer n).fresh = .fresh) (room : (s.rollPass n index).fv.view.length < 64)
    (fewer : (s.rollPass n index).fv.view.length < s.fv.view.length ∨ s.fv.full = false) :
    (s.rollPass n index).fv.full = false := by
  by_cases wrap : wraps (s.rollCall n) index
  · rw [rollPass_wraps wrap, mapRoll_view, endPass_view fresh] at room
    rw [rollPass_wraps wrap, mapRoll_full, endPass_view fresh, decide_eq_false (Nat.not_le.mpr room), Bool.and_false]
  · obtain ⟨view, full⟩ := rollPass_goes wrap
    rw [view] at fewer
    rw [full]
    exact fewer.resolve_left (Nat.lt_irrefl _)

/-! ### The entry judged as a report (08 R151, R155 step 4) -/

variable {seq : Word} {time : Stamp}

theorem takeReport_rollCall (k : Station) : (s.takeReport n id st seq time).rollCall k = s.rollCall k := by
  unfold State.takeReport State.mapMirror State.insertMirror
  split
  · split
    · exact setView_rollCall _ _ _ k
    split <;> exact setView_rollCall _ _ _ k
  · exact setView_rollCall _ _ _ k
  · exact setView_rollCall _ _ _ k
  · exact setView_rollCall _ _ _ k
  · rfl

/-- A report leaves VIEW_FULL false in a view that has room. -/
theorem takeReport_full (room : s.fv.view.length < 64) (full : s.fv.full = false) :
    (s.takeReport n id st seq time).fv.full = false := by
  have kept : ∀ v, (s.setView v s.fv.full).fv.full = false := fun v => by rw [setView_fv, full, Bool.false_and]
  unfold State.takeReport State.mapMirror State.insertMirror
  split
  · rw [if_pos room]
    exact kept _
  · exact kept _
  · exact kept _
  · exact kept _
  · exact full

theorem mirror?_absent (absent : ∀ x ∈ s.fv.view, ¬ (x.origin = n ∧ x.id = id)) : s.fv.mirror? n id = none := by
  refine List.find?_eq_none.mpr fun x hx h => absent x hx ?_
  simpa using h

/-- The mirror that a report finds, after the report (08 R151). -/
def reported (x : Mirror) (st : AlarmState) (seq : Word) (time : Stamp) : Mirror :=
  if seq = x.seq then (if x.state.stage ≤ st.stage then { x with state := st, seen := true } else { x with seen := true })
  else if serialNewer seq x.seq = true then { x with state := st, seq := seq, raiseTime := time, seen := true }
  else x

theorem mapMirror_view {a b : List Mirror} {x : Mirror} (view : s.fv.view = a ++ x :: b) (origin : x.origin = n)
    (key : x.id = id) (others : ∀ y ∈ a ++ b, ¬ (y.origin = n ∧ y.id = id)) (f : Mirror → Mirror) :
    (s.mapMirror n id f).fv.view = a ++ f x :: b := by
  have rest : ∀ l : List Mirror, (∀ y ∈ l, ¬ (y.origin = n ∧ y.id = id)) →
      (l.map fun m => if m.origin = n ∧ m.id = id then f m else m) = l := fun l h =>
    (List.map_congr_left fun y hy => if_neg (h y hy)).trans (List.map_id' l)
  rw [State.mapMirror, setView_view, view, List.map_append, List.map_cons, if_pos ⟨origin, key⟩,
    rest a fun y hy => others y (List.mem_append_left b hy), rest b fun y hy => others y (List.mem_append_right a hy)]

theorem takeReport_view {a b : List Mirror} {x : Mirror} (view : s.fv.view = a ++ x :: b) (origin : x.origin = n)
    (key : x.id = id) (others : ∀ y ∈ a ++ b, ¬ (y.origin = n ∧ y.id = id)) :
    (s.takeReport n id st seq time).fv.view = a ++ reported x st seq time :: b := by
  have held : s.fv.mirror? n id = some x := by
    refine List.find?_eq_some_iff_append.mpr ⟨by rw [origin, key]; simp, a, b, view, fun y hy => ?_⟩
    have differs : (y.origin == n && y.id == id) = false :=
      Bool.eq_false_iff.mpr fun h => others y (List.mem_append_left b hy) (by simpa using h)
    rw [differs]
    rfl
  have changed := mapMirror_view view origin key others
  have judged : judgeReport (s.fv.mirror? n id) seq st = if seq = x.seq then
      (if x.state.stage ≤ st.stage then .current else .behind) else if serialNewer seq x.seq then .newer else .older := by
    rw [held]
    rfl
  unfold State.takeReport reported
  rw [judged]
  by_cases same : seq = x.seq
  · rw [if_pos same, if_pos same]
    by_cases stage : x.state.stage ≤ st.stage
    · rw [if_pos stage, if_pos stage]
      exact changed _
    · rw [if_neg stage, if_neg stage]
      exact changed _
  · rw [if_neg same, if_neg same]
    by_cases newer : serialNewer seq x.seq = true
    · rw [if_pos newer, if_pos newer]
      exact changed _
    · rw [if_neg newer, if_neg newer]
      exact view

/-! ### The whole part (08 R155) -/

theorem takeRoll_bad {entry : Option RollEntry} (bad : rollConsistent listed index entry = none) :
    s.takeRoll n listed index entry = s := by
  unfold State.takeRoll
  rw [bad]

/-- The roll call after a consistent part. -/
def partRoll (r : RollCall) (listed index : Nat) : RollCall :=
  { steppedRoll r index with
    prevIndex := index
    prevLast := decide (listed = 0 ∨ index + 1 = listed) }

/-- The figures that the part leaves with the roll call. -/
def partMarked (s : State) (n : Station) (listed index : Nat) : State :=
  s.mapRoll n fun r => { r with
    prevIndex := index
    prevLast := decide (listed = 0) || decide (index + 1 = listed) }

theorem partMarked_rollCall (h : s.rollCall n = steppedRoll r index) :
    (partMarked s n listed index).rollCall n = partRoll r listed index := by
  unfold partMarked partRoll
  rw [mapRoll_rollCall_same, h, Bool.decide_or]

theorem takeRoll_empty : s.takeRoll n 0 index none = partMarked (s.rollPass n index) n 0 index := rfl

theorem takeRoll_entry (consistent : rollConsistent listed index (some e) = some (some (id, st, e))) :
    s.takeRoll n listed index (some e)
      = partMarked ((s.rollPass n index).takeReport n id st e.seq e.time) n listed index := by
  unfold State.takeRoll
  rw [consistent]
  rfl

theorem takeRoll_rollCall_other (entry : Option RollEntry) {k : Station} (h : k ≠ n) :
    (s.takeRoll n listed index entry).rollCall k = s.rollCall k := by
  unfold State.takeRoll
  split
  · rfl
  · dsimp only
    rw [mapRoll_rollCall_other _ h]
    split
    · rw [takeReport_rollCall, rollPass_rollCall_other h]
    · exact rollPass_rollCall_other h

end

end Sys2Proof.Proofs
end

section
/-! PROOF. What a zone block of a SNAP makes of the zone (04 R68 to R70, R80, R83), for O17. -/

namespace Sys2Proof.Proofs
open Sys2Proof.Machine

section
variable {s t : State} {z : Zone} {b : ZoneBlock} {n : Station}

/-! ### The epoch stays as it was examined -/

theorem setZone_epoch (st : ZoneState) : ((s.setZone z st).zone z).epoch = (s.zone z).epoch := by
  by_cases same : (s.zone z).state = st
  · rw [s.setZone_same z st same]
  · rw [setZone_zone_same same]
    rfl

theorem passProof_epoch (c : Chan) (f : FuelCfg) : ((s.passProof z c f).zone z).epoch = (s.zone z).epoch := by
  by_cases ready : (s.zone z).state = .ready
  · have running := (enterRunning_chanMoves s c f).zone z
    have lights := ((issue_chanMoves _ c (.igniter false)).zone z).trans running
    unfold State.passProof
    split
    · rfl
    dsimp only
    split
    · split
      · rw [setZone_epoch, lights]
      · rw [lights]
    · rw [running]
  · rw [passProof_zone_idle ready]

theorem passReleased_epoch : ((s.passReleased z).zone z).epoch = (s.zone z).epoch := by
  refine foldl_leaves (fun x => (x.zone z).epoch) (passOne z) (fun x c => ?_) _ s
  rcases passOne_cases z x c with e | ⟨f, e⟩ <;> rw [e]
  exact passProof_epoch c f

theorem judgeReady_epoch : ((s.judgeReady z).zone z).epoch = (s.zone z).epoch := by
  unfold State.judgeReady
  split
  · exact setZone_epoch _
  · rfl

theorem adoptLit_epoch : ((s.adoptLit z).zone z).epoch = (s.zone z).epoch := by
  unfold State.adoptLit
  split
  · exact setZone_epoch _
  · rfl

theorem adoptReady_epoch : ((s.adoptReady b).zone b.zone).epoch = (s.zone b.zone).epoch := by
  unfold State.adoptReady
  split
  · exact setZone_epoch _
  · rfl

theorem flameGain_epoch : ((s.flameGain z).zone z).epoch = (s.zone z).epoch := by
  by_cases lit : (s.zone z).state = .lit
  · rw [flameGain_lit lit, adoptLit_epoch, judgeReady_epoch, passReleased_epoch, steadied_zone]
  · rw [flameGain_unlit lit, adoptLit_epoch, judgeReady_epoch, passReleased_epoch]

theorem flameLoss_epoch : ((s.flameLoss z).zone z).epoch = (s.zone z).epoch := by
  unfold State.flameLoss
  split
  · split
    · exact setZone_epoch _
    · rw [State.mapZone_zone_same]
  · rfl

theorem judgeView_epoch : ((s.judgeView z).zone z).epoch = (s.zone z).epoch := by
  have seen : ((viewed s z (s.flameView z)).zone z).epoch = (s.zone z).epoch := by rw [viewed_zone]
  unfold State.judgeView
  dsimp only
  split
  · split
    · exact seen
    split
    · exact flameGain_epoch.trans seen
    · exact flameLoss_epoch.trans seen
  · rfl

/-! ### The state as the view is judged again (04 R65, R69, R70) -/

theorem judgeView_same (same : (s.zone z).view = s.flameView z) : s.judgeView z = s :=
  if_neg (by rw [same]; simp)

/-- A change of the view of a participating zone, in a mode that decides. -/
theorem judgeView_changed (part : s.participates z = true) (decides : s.decides = true)
    (differ : (s.zone z).view ≠ s.flameView z) : s.judgeView z
      = if s.flameView z = true then (viewed s z (s.flameView z)).flameGain z
        else (viewed s z (s.flameView z)).flameLoss z := by
  have on : (viewed s z (s.flameView z)).decides = true := decides
  have goes : (s.participates z && !((s.zone z).view == s.flameView z)) = true := by simp [part, differ]
  show (if _ then (if !(viewed s z (s.flameView z)).decides then _ else _) else _) = _
  rw [if_pos goes, on]
  rfl

variable (part : s.participates z = true) (decides : s.decides = true)
include part decides

theorem judgeView_purging (purging : (s.zone z).state = .purging) : ((s.judgeView z).zone z).state = .purging := by
  by_cases same : (s.zone z).view = s.flameView z
  · rw [judgeView_same same]
    exact purging
  have state : ((viewed s z (s.flameView z)).zone z).state = .purging := by rw [viewed_zone]; exact purging
  rw [judgeView_changed part decides same]
  split
  · have passed := passReleased_zone_idle (s := viewed s z (s.flameView z)) (z := z) (by rw [state]; decide)
    rw [flameGain_unlit (by rw [state]; decide), judgeReady_idle (by rw [passed, state]; decide),
      adoptLit_idle (.inl (by rw [passed, state]; decide)), passed]
    exact state
  · rw [State.flameLoss, if_neg (by rw [state]; decide)]
    exact state

/-- A DARK zone that may adopt LIT does so as its view is gained; its view is then the flame view. -/
theorem judgeView_dark (dark : (s.zone z).state = .dark) :
    ((s.judgeView z).zone z).state = (if (s.zone z).view = false ∧ s.flameView z = true ∧ s.peerReports z .lit = true
        ∧ s.esd = false then .lit else .dark) := by
  by_cases same : (s.zone z).view = s.flameView z
  · rw [judgeView_same same, dark, if_neg]
    rintro ⟨blind, sees, -⟩
    rw [← same, blind] at sees
    cases sees
  have state : ((viewed s z (s.flameView z)).zone z).state = .dark := by rw [viewed_zone]; exact dark
  rw [judgeView_changed part decides same]
  cases sees : s.flameView z with
  | true =>
    have blind : (s.zone z).view = false := by
      rw [sees] at same
      exact Bool.eq_false_iff.mpr same
    rw [sees] at state
    rw [if_pos rfl, flameGain_of_dark state (by rw [viewed_zone])]
    exact if_congr ⟨fun h => ⟨blind, rfl, h⟩, fun h => h.2.2⟩ rfl rfl
  | false =>
    rw [sees] at state
    rw [if_neg (by decide), if_neg (by rintro ⟨-, h, -⟩; cases h), State.flameLoss, if_neg (by rw [state]; decide)]
    exact state

/-- A READY zone with a channel that runs is LIT once its view is judged. -/
theorem judgeView_ready (ready : (s.zone z).state = .ready) (sees : s.flameView z = true) (runs : s.zoneRuns z = true) :
    (((s.judgeView z).judgeReady z).zone z).state = .lit := by
  by_cases same : (s.zone z).view = s.flameView z
  · rw [judgeView_same same, State.judgeReady, if_pos ⟨ready, same.trans sees, runs⟩, State.setZone_state, if_pos rfl]
  have state : ((viewed s z true).zone z).state = .ready := by rw [viewed_zone]; exact ready
  have lit := ((flameGain_of_ready state (by rw [viewed_zone])).1).mpr (.inl runs)
  rw [judgeView_changed part decides same, sees, if_pos rfl, judgeReady_idle (by rw [lit]; decide)]
  exact lit

end

/-! ### The trip epoch of a block (04 R80, R83) -/

section
variable {s t : State} {b : ZoneBlock} {n : Station} {e : Word}

theorem takeEpoch_works (s : State) (z : Zone) (e : CauseEntry) : ZoneWorks z s (s.takeEpoch z e) := by
  cases newer : newerEpoch (s.zone z).epoch e.epoch with
  | false =>
    rw [takeEpoch_old newer]
  | true =>
    cases live : (s.zone z).state.trippable with
    | true =>
      rw [takeEpoch_trips newer live]
      exact (tripSteps_works s z e).trans (setZone_works _ z _)
    | false =>
      rw [takeEpoch_keeps newer live]
      exact .single (.record _ _)

theorem examineEpoch_works (s : State) (n : Station) (b : ZoneBlock) : ZoneWorks b.zone s (s.examineEpoch n b) := by
  unfold State.examineEpoch
  split
  · exact .refl
  split
  · exact .single (.record _ _)
  · exact takeEpoch_works s _ _

theorem examineEpoch_unknown (epoch : b.epoch = some e) (unknown : (s.zone b.zone).epoch = none) :
    s.examineEpoch n b = s.mapZone b.zone fun r => { r with epoch := some e } := by
  unfold State.examineEpoch
  rw [epoch]
  exact if_pos unknown

theorem examineEpoch_known {h : Word} (epoch : b.epoch = some e) (known : (s.zone b.zone).epoch = some h) :
    s.examineEpoch n b = s.takeEpoch b.zone (s.peerEntry n none none e) := by
  unfold State.examineEpoch
  rw [epoch]
  exact if_neg (by rw [known]; simp)

theorem examineEpoch_older {h : Word} (epoch : b.epoch = some e) (known : (s.zone b.zone).epoch = some h)
    (older : serialNewer e h = false) : s.examineEpoch n b = s := by
  rw [examineEpoch_known epoch known]
  refine takeEpoch_old ?_
  rw [known]
  exact older

/-- A newer epoch is the zone's, and trips it in PURGING, READY and LIT. -/
theorem examineEpoch_newer {h : Word} (epoch : b.epoch = some e) (known : (s.zone b.zone).epoch = some h)
    (newer : serialNewer e h = true) : ((s.examineEpoch n b).zone b.zone).epoch = some e
      ∧ ((s.zone b.zone).state.trippable = true ∨ (s.zone b.zone).state = .tripped →
        ((s.examineEpoch n b).zone b.zone).state = .tripped) := by
  have acts : newerEpoch (s.zone b.zone).epoch (s.peerEntry n none none e).epoch = true := by
    rw [known]
    exact newer
  rw [examineEpoch_known epoch known]
  cases live : (s.zone b.zone).state.trippable with
  | true =>
    obtain ⟨zone, -⟩ := peerTrip_made (live_of_trippable live) (s.peerEntry n none none e)
    rw [takeEpoch_trips acts live, zone]
    exact ⟨rfl, fun _ => rfl⟩
  | false =>
    rw [takeEpoch_keeps acts live, State.mapZone_zone_same]
    exact ⟨rfl, fun h => h.resolve_left Bool.noConfusion⟩

/-- Where the epoch trips nothing the examination leaves what the further tests read. -/
theorem examineEpoch_calm (calm : ∀ e, b.epoch = some e → ∀ h, (s.zone b.zone).epoch = some h → serialNewer e h = false) :
    ∃ r, s.examineEpoch n b = s.mapZone b.zone fun x => { x with epoch := r } := by
  have same : s = s.mapZone b.zone fun x => { x with epoch := (s.zone b.zone).epoch } := by
    have kept : upd s.zs.zones b.zone { s.zone b.zone with epoch := (s.zone b.zone).epoch } = s.zs.zones :=
      Vector.set_getElem_self _
    exact (congrArg (fun v => { s with zs := { s.zs with zones := v } }) kept).symm
  cases epoch : b.epoch with
  | none =>
    refine ⟨_, Eq.trans ?_ same⟩
    unfold State.examineEpoch
    rw [epoch]
  | some e =>
    cases known : (s.zone b.zone).epoch with
    | none => exact ⟨_, examineEpoch_unknown epoch known⟩
    | some h =>
      rw [known] at same
      exact ⟨_, (examineEpoch_older epoch known (calm e epoch h known)).trans same⟩

/-! ### The whole block -/

/-- The tests of a block behind the examination of its epoch. -/
def blockTests (s : State) (b : ZoneBlock) : State :=
  if b.state = .lit then (((s.judgeView b.zone).judgeReady b.zone).adoptReady b).adoptLit b.zone
  else ((s.judgeView b.zone).judgeReady b.zone).adoptReady b

theorem takeBlock_eq (part : s.participates b.zone = true) (decides : s.decides = true) (starting : Bool) :
    s.takeBlock n starting b = blockTests (if starting = true then s else s.examineEpoch n b) b := by
  unfold State.takeBlock
  rw [decides, part]
  rfl

theorem adoptReady_works (s : State) (b : ZoneBlock) : ZoneWorks b.zone s (s.adoptReady b) := by
  unfold State.adoptReady
  split
  · exact setZone_works _ _ _
  · exact .refl

theorem blockTests_works (s : State) (b : ZoneBlock) : ZoneWorks b.zone s (blockTests s b) := by
  have tests := ((judgeView_works s b.zone).trans (judgeReady_works _ b.zone)).trans (adoptReady_works _ b)
  unfold blockTests
  split
  · exact tests.trans (adoptLit_works _ _)
  · exact tests

theorem takeBlock_works (s : State) (n : Station) (starting : Bool) (b : ZoneBlock) :
    ZoneWorks b.zone s (s.takeBlock n starting b) := by
  cases goes : s.decides && s.participates b.zone with
  | false =>
    have idle : s.takeBlock n starting b = s := if_neg (by rw [goes]; decide)
    rw [idle]
  | true =>
    obtain ⟨decides, part⟩ := Bool.and_eq_true_iff.mp goes
    rw [takeBlock_eq part decides]
    split
    · exact blockTests_works s b
    · exact (examineEpoch_works s n b).trans (blockTests_works _ b)

theorem blockTests_epoch (s : State) (b : ZoneBlock) : ((blockTests s b).zone b.zone).epoch = (s.zone b.zone).epoch := by
  have tests : ((((s.judgeView b.zone).judgeReady b.zone).adoptReady b).zone b.zone).epoch = (s.zone b.zone).epoch := by
    rw [adoptReady_epoch, judgeReady_epoch, judgeView_epoch]
  unfold blockTests
  split
  · rw [adoptLit_epoch, tests]
  · exact tests

theorem adoptReady_idle (h : b.state ≠ .ready ∨ ((s.zone b.zone).state ≠ .dark ∧ (s.zone b.zone).state ≠ .purging)) :
    s.adoptReady b = s :=
  if_neg fun e => h.elim (fun no => no e.1) fun no => e.2.2.elim no.1 no.2

theorem adoptReady_adopts (ready : b.state = .ready) (esd : s.esd = false)
    (adopts : (s.zone b.zone).state = .dark ∨ (s.zone b.zone).state = .purging) :
    ((s.adoptReady b).zone b.zone).state = .ready := by
  rw [State.adoptReady, if_pos ⟨ready, by rw [esd]; rfl, adopts⟩, State.setZone_state, if_pos rfl]

theorem judgeView_esd (s : State) (z : Zone) : (s.judgeView z).esd = s.esd :=
  congrArg Surround.esd (judgeView_works s z).surround

/-- A TRIPPED or LIT zone stays so behind the tests of its view. -/
theorem blockTests_stays {st : ZoneState} (state : (((s.judgeView b.zone).judgeReady b.zone).zone b.zone).state = st)
    (h : st = .tripped ∨ st = .lit) : ((blockTests s b).zone b.zone).state = st := by
  have not : st ≠ .dark ∧ st ≠ .purging := by rcases h with rfl | rfl <;> decide
  have ready : ((s.judgeView b.zone).judgeReady b.zone).adoptReady b = (s.judgeView b.zone).judgeReady b.zone :=
    adoptReady_idle (.inr (by rw [state]; exact not))
  unfold blockTests
  rw [ready, adoptLit_idle (.inl (by rw [state]; exact not.1)), ite_self]
  exact state

theorem blockTests_tripped (tripped : (s.zone b.zone).state = .tripped) : ((blockTests s b).zone b.zone).state = .tripped := by
  have view : ((s.judgeView b.zone).zone b.zone).state = .tripped := (judgeView_rests (.inl tripped)).trans tripped
  refine blockTests_stays ?_ (.inl rfl)
  rw [judgeReady_idle (by rw [view]; decide)]
  exact view

variable (part : s.participates b.zone = true) (decides : s.decides = true) (esd : s.esd = false)
include part decides esd

theorem blockTests_purging (purging : (s.zone b.zone).state = .purging) (ready : b.state = .ready) :
    ((blockTests s b).zone b.zone).state = .ready := by
  have view := judgeView_purging part decides purging
  rw [blockTests, if_neg (by rw [ready]; decide), judgeReady_idle (by rw [view]; decide)]
  exact adoptReady_adopts ready ((judgeView_esd s _).trans esd) (.inr view)

theorem blockTests_readied (dark : (s.zone b.zone).state = .dark) (ready : b.state = .ready)
    (none : s.peerReports b.zone .lit = false) : ((blockTests s b).zone b.zone).state = .ready := by
  have view : ((s.judgeView b.zone).zone b.zone).state = .dark := by
    rw [judgeView_dark part decides dark, if_neg]
    rintro ⟨-, -, lit, -⟩
    rw [none] at lit
    cases lit
  rw [blockTests, if_neg (by rw [ready]; decide), judgeReady_idle (by rw [view]; decide)]
  exact adoptReady_adopts ready ((judgeView_esd s _).trans esd) (.inl view)

theorem blockTests_lit (dark : (s.zone b.zone).state = .dark) (lit : b.state = .lit) (sees : s.flameView b.zone = true)
    (reports : s.peerReports b.zone .lit = true) : ((blockTests s b).zone b.zone).state = .lit := by
  cases view : (s.zone b.zone).view with
  | false =>
    have gained : ((s.judgeView b.zone).zone b.zone).state = .lit := by
      rw [judgeView_dark part decides dark, if_pos ⟨view, sees, reports, esd⟩]
    refine blockTests_stays ?_ (.inr rfl)
    rw [judgeReady_idle (by rw [gained]; decide)]
    exact gained
  | true =>
    rw [blockTests, if_pos lit, judgeView_same (view.trans sees.symm), judgeReady_idle (by rw [dark]; decide),
      adoptReady_idle (.inl (by rw [lit]; decide)), State.adoptLit,
      if_pos ⟨dark, view, reports, by rw [esd]; rfl⟩, State.setZone_state, if_pos rfl]

omit esd in
theorem blockTests_lights (ready : (s.zone b.zone).state = .ready) (sees : s.flameView b.zone = true)
    (runs : s.zoneRuns b.zone = true) : ((blockTests s b).zone b.zone).state = .lit :=
  blockTests_stays (judgeView_ready part decides ready sees runs) (.inr rfl)

end

end Sys2Proof.Proofs
end

section
/-! PROOF. O17: a SNAP is filed and handed over (02 R29, R30; 04 R68 to R70, R80, R83; 05 R94; 08 R155, R156, R158). -/

namespace Sys2Proof.Proofs
open Sys2Proof.Machine

section
variable {s t : State} {n : Station} {seq : Byte} {m : SnapMsg}

/-! ### The checks of the payload (02 R29) -/

theorem parseParts_distinct {present : Bool} {nz nc : Nat} {ws : List Word} {e : Option RollEntry} {bs : List ZoneBlock}
    {ss : List Summary} (h : parseParts present nz nc ws = some (e, bs, ss)) : (bs.map ZoneBlock.zone).Nodup := by
  unfold parseParts at h
  split at h
  next =>
    split at h
    next =>
      split at h
      next =>
        split at h
        next distinct =>
          cases h
          exact distinct.1
        next => cases h
      next => cases h
    next => cases h
  next => cases h

theorem parseSnap_distinct {payload : List Word} (h : parseSnap payload = some m) : (m.zones.map ZoneBlock.zone).Nodup := by
  unfold parseSnap at h
  split at h
  next =>
    split at h
    next =>
      split at h
      next parsed =>
        cases h
        exact parseParts_distinct parsed
      next => cases h
    next => cases h
  next => cases h

/-! ### What the still part and the plant hold -/

theorem peers_of_still (h : t.still = s.still) : t.pt.peers = s.pt.peers := by
  change t.still.pt.peers = s.still.pt.peers
  rw [h]

theorem rx_of_still (h : t.still = s.still) : t.li.rx = s.li.rx := by
  change t.still.li.rx = s.still.li.rx
  rw [h]

/-! ### The stages of the filing -/

/-- The record of the origin is filed (02 R29). -/
def recordFiled (s : State) (n : Station) (seq : Byte) (m : SnapMsg) : State :=
  s.mapPeer n fun r => r.file seq m s.now s.stamp

/-- The record is filed, and the conditions of its peer follow (02 R33). -/
def peerHeard (s : State) (n : Station) (seq : Byte) (m : SnapMsg) : State :=
  State.peerConds (if (s.peer n).restarted seq m.mode = true ∨ (s.peer n).fresh ≠ .fresh then
    (recordFiled s n seq m).notify .peerChange else recordFiled s n seq m) n

/-- A restart has dropped the mirrors of the origin (08 R158). -/
def viewHeard (s : State) (n : Station) (seq : Byte) (m : SnapMsg) : State :=
  if (s.peer n).restarted seq m.mode = true then (peerHeard s n seq m).viewRestart n else peerHeard s n seq m

/-- The roll-call part has been taken (08 R155). -/
def rolled (s : State) (n : Station) (seq : Byte) (m : SnapMsg) : State :=
  (viewHeard s n seq m).takeRoll n m.listed m.index m.entry

/-- The shift number may have been learnt, and the demands are taken (05 R93). -/
def demanded (s : State) (n : Station) (seq : Byte) (m : SnapMsg) : State :=
  m.zones.foldl State.blockDemand ((rolled s n seq m).mapSr fun r => r.learn m.shift m.timeValid)

theorem fileSnap_eq (s : State) (n : Station) (seq : Byte) (m : SnapMsg) : s.fileSnap n seq m
    = m.zones.foldl (fun x b => x.takeBlock n (m.mode == .starting) b) (demanded s n seq m) := rfl

theorem peerHeard_plant (s : State) (n : Station) (seq : Byte) (m : SnapMsg) :
    (peerHeard s n seq m).plant = (recordFiled s n seq m).plant := by
  unfold peerHeard State.peerConds
  rw [State.setCond_plant, State.setCond_plant]
  split
  · rfl
  · rfl

theorem blockDemand_form (s : State) (b : ZoneBlock) : ∃ fa, s.blockDemand b = { s with fa := fa } := by
  unfold State.blockDemand
  split
  · rw [adoptDemand_of]
    split
    · exact ⟨_, rfl⟩
    · exact ⟨_, rfl⟩
  · exact ⟨_, rfl⟩

theorem blockDemands_form (l : List ZoneBlock) (s : State) : ∃ fa, l.foldl State.blockDemand s = { s with fa := fa } := by
  induction l generalizing s with
  | nil => exact ⟨_, rfl⟩
  | cons b l ih =>
    obtain ⟨fa, first⟩ := blockDemand_form s b
    obtain ⟨fa', rest⟩ := ih (s.blockDemand b)
    exact ⟨fa', by rw [List.foldl_cons, rest, first]⟩

theorem viewHeard_form (s : State) (n : Station) (seq : Byte) (m : SnapMsg) :
    ∃ w p, viewHeard s n seq m = { peerHeard s n seq m with fv := w, sp := p } := by
  unfold viewHeard
  split
  · exact viewRestart_form _ n
  · exact ⟨_, _, rfl⟩

/-- What the stages behind the record's write beside it. -/
theorem demanded_form (s : State) (n : Station) (seq : Byte) (m : SnapMsg) : ∃ fa sr sp,
    demanded s n seq m = { peerHeard s n seq m with fv := (rolled s n seq m).fv, fa := fa, sr := sr, sp := sp } := by
  obtain ⟨fa, demands⟩ := blockDemands_form m.zones ((rolled s n seq m).mapSr fun r => r.learn m.shift m.timeValid)
  obtain ⟨w, p, view⟩ := viewHeard_form s n seq m
  obtain ⟨w', p', roll⟩ := takeRoll_form (viewHeard s n seq m) n m.listed m.index m.entry
  have fv : (rolled s n seq m).fv = w' := by rw [rolled, roll]
  refine ⟨fa, (peerHeard s n seq m).sr.learn m.shift m.timeValid, p', ?_⟩
  rw [fv, demanded, demands, rolled, roll, view]
  rfl

theorem fileSnap_still (s : State) (n : Station) (seq : Byte) (m : SnapMsg) :
    (s.fileSnap n seq m).still = (demanded s n seq m).still := by
  rw [fileSnap_eq]
  exact (Moves.foldl (e := true) _ (fun x b => x.takeBlock_moves n _ b) _ _).still

/-- The filing leaves the view as the roll-call part has left it. -/
theorem fileSnap_fv (s : State) (n : Station) (seq : Byte) (m : SnapMsg) :
    (s.fileSnap n seq m).fv = (rolled s n seq m).fv := by
  obtain ⟨fa, sr, sp, form⟩ := demanded_form s n seq m
  rw [fv_of_still (fileSnap_still s n seq m), form]

theorem demanded_peers (s : State) (n : Station) (seq : Byte) (m : SnapMsg) :
    (demanded s n seq m).pt.peers = (recordFiled s n seq m).pt.peers := by
  obtain ⟨fa, sr, sp, form⟩ := demanded_form s n seq m
  rw [form]
  exact peers_of_plant (s := recordFiled s n seq m) (t := peerHeard s n seq m) (peerHeard_plant s n seq m)

theorem fileSnap_peers (s : State) (n : Station) (seq : Byte) (m : SnapMsg) :
    (s.fileSnap n seq m).pt.peers = (recordFiled s n seq m).pt.peers :=
  (peers_of_still (fileSnap_still s n seq m)).trans (demanded_peers s n seq m)

theorem fileSnap_rx (s : State) (n : Station) (seq : Byte) (m : SnapMsg) : (s.fileSnap n seq m).li.rx = s.li.rx := by
  obtain ⟨fa, sr, sp, form⟩ := demanded_form s n seq m
  rw [rx_of_still (fileSnap_still s n seq m), form]
  exact rx_of_still (s := recordFiled s n seq m) (t := peerHeard s n seq m) (State.still_of_plant (peerHeard_plant s n seq m))

/-! ### The view and the roll call (08 R155, R156, R158) -/

theorem restarted_iff (r : PeerRecord) (seq : Byte) (mode : Mode) : r.restarted seq mode = true
    ↔ r.fresh ≠ .absent ∧ ((∃ l, r.lastSeq = some l ∧ serialNewer seq l = false)
      ∨ (mode = .starting ∧ r.mode ≠ some .starting)) := by
  unfold PeerRecord.restarted
  rw [Bool.and_eq_true, Bool.or_eq_true, Bool.and_eq_true, Bool.not_eq_true', Bool.not_eq_true', beq_eq_false_iff_ne,
    beq_eq_false_iff_ne, beq_iff_eq]
  refine and_congr_right' (or_congr_left ?_)
  cases r.lastSeq with
  | none => exact ⟨fun h => (by cases h), fun ⟨l, h, _⟩ => (by cases h)⟩
  | some l => simp

theorem recordFiled_peer_same (s : State) (n : Station) (seq : Byte) (m : SnapMsg) :
    (recordFiled s n seq m).peer n = (s.peer n).file seq m s.now s.stamp := State.mapPeer_peer_same _ _ _

theorem peerHeard_fv (s : State) (n : Station) (seq : Byte) (m : SnapMsg) : (peerHeard s n seq m).fv = s.fv :=
  fv_of_plant (s := recordFiled s n seq m) (peerHeard_plant s n seq m)

theorem peerHeard_peer (s : State) (n k : Station) (seq : Byte) (m : SnapMsg) :
    (peerHeard s n seq m).peer k = (recordFiled s n seq m).peer k := by
  rw [State.peer, peers_of_plant (peerHeard_plant s n seq m), State.peer]

/-- The view, the roll call and the record of the origin as the roll-call part finds them. -/
structure ViewFound (s : State) (n : Station) (restart : Bool) (x : State) : Prop where
  view : x.fv.view = if restart = true then s.fv.view.filter fun y => decide (y.origin ≠ n) else s.fv.view
  roll : x.rollCall n = if restart = true then { s.rollCall n with opened := false } else s.rollCall n
  others : ∀ k, k ≠ n → x.rollCall k = s.rollCall k
  fresh : (x.peer n).fresh = .fresh
  full : x.fv.view.length < 64 → x.fv.view.length < s.fv.view.length → x.fv.full = false

theorem viewHeard_found (s : State) (n : Station) (seq : Byte) (m : SnapMsg) :
    ViewFound s n ((s.peer n).restarted seq m.mode) (viewHeard s n seq m) := by
  have fv := peerHeard_fv s n seq m
  have fresh : ((peerHeard s n seq m).peer n).fresh = .fresh := by
    rw [peerHeard_peer, recordFiled_peer_same]
    rfl
  have roll : ∀ k, (peerHeard s n seq m).rollCall k = s.rollCall k := fun k => by rw [State.rollCall, fv, State.rollCall]
  unfold viewHeard
  cases (s.peer n).restarted seq m.mode with
  | false =>
    refine ⟨by rw [if_neg (by decide), if_neg (by decide), fv], by rw [if_neg (by decide), if_neg (by decide), roll],
      fun k _ => roll k, fresh, fun _ fewer => ?_⟩
    rw [if_neg (by decide), fv] at fewer
    exact absurd fewer (Nat.lt_irrefl _)
  | true =>
    have dropped : (peerHeard s n seq m).fv.view.filter (fun y => !(y.origin == n))
        = s.fv.view.filter fun y => decide (y.origin ≠ n) := by
      rw [fv]
      refine List.filter_congr fun y _ => ?_
      rw [decide_not]
      rfl
    rw [if_pos rfl]
    unfold State.viewRestart
    rw [dropped]
    refine ⟨?_, ?_, fun k h => ?_, ?_, fun room _ => ?_⟩
    · rw [mapRoll_view, setView_view, if_pos rfl]
    · rw [mapRoll_rollCall_same, setView_rollCall, roll, if_pos rfl]
    · rw [mapRoll_rollCall_other _ h, setView_rollCall, roll]
    · rw [← setView_peer (peerHeard s n seq m)] at fresh
      exact fresh
    · rw [mapRoll_view, setView_view] at room
      rw [mapRoll_full, setView_fv, decide_eq_false (Nat.not_le.mpr room), Bool.and_false]

/-- A part whose codes are the catalog's, or the part of an empty list (08 R155 step 2). -/
def PartGood (listed index : Nat) (entry : Option RollEntry) : Prop :=
  (entry = none ∧ listed = 0) ∨ ∃ e id st, entry = some e ∧ index < listed ∧ alarmIdOf e.id = some id
    ∧ alarmStateOf e.state = some st ∧ e.priority = alarmPriority id

/-- A consistent part opens, ends or goes on with the pass, and leaves VIEW_FULL false in a view that it gave room. -/
theorem takeRoll_good {x : State} {listed index : Nat} {entry : Option RollEntry} (good : PartGood listed index entry)
    (fresh : (x.peer n).fresh = .fresh) : (x.takeRoll n listed index entry).rollCall n = partRoll (x.rollCall n) listed index
      ∧ ((steppedView n (x.rollCall n) index x.fv.view).length < 64 →
        (steppedView n (x.rollCall n) index x.fv.view).length < x.fv.view.length ∨ x.fv.full = false →
        (x.takeRoll n listed index entry).fv.full = false) := by
  have view := rollPass_view (index := index) fresh
  have full := rollPass_full (index := index) fresh
  rw [view] at full
  rcases good with ⟨rfl, rfl⟩ | ⟨e, id, st, rfl, inside, code, state, priority⟩
  · rw [takeRoll_empty]
    exact ⟨partMarked_rollCall (rollPass_rollCall x n index), full⟩
  · rw [takeRoll_entry (rollConsistent_entry inside code state priority)]
    refine ⟨partMarked_rollCall ((takeReport_rollCall n).trans (rollPass_rollCall x n index)), fun room fewer => ?_⟩
    exact takeReport_full (by rw [view]; exact room) (full room fewer)

/-- The entry of a consistent part is judged as a report against the view that the pass step leaves (08 R155). -/
theorem takeRoll_entry_view {x : State} {listed index : Nat} {e : RollEntry} {id : AlarmId} {st : AlarmState}
    {v : List Mirror} (fresh : (x.peer n).fresh = .fresh) (hv : v = steppedView n (x.rollCall n) index x.fv.view)
    (inside : index < listed) (code : alarmIdOf e.id = some id) (state : alarmStateOf e.state = some st)
    (priority : e.priority = alarmPriority id) :
    ((∀ y ∈ v, ¬ (y.origin = n ∧ y.id = id)) →
      (v.length < 64 → (x.takeRoll n listed index (some e)).fv.view = v ++ [⟨n, id, st, e.seq, e.time, true, false⟩])
      ∧ (64 ≤ v.length →
        (∀ (a b : List Mirror) (y : Mirror), v = a ++ y :: b → alarmPriority id < alarmPriority y.id →
          (∀ w ∈ a, alarmPriority w.id ≤ alarmPriority id) →
          (x.takeRoll n listed index (some e)).fv.view = a ++ b ++ [⟨n, id, st, e.seq, e.time, true, false⟩])
        ∧ ((∀ w ∈ v, alarmPriority w.id ≤ alarmPriority id) → (x.takeRoll n listed index (some e)).fv.view = v
          ∧ (x.takeRoll n listed index (some e)).fv.full = true)))
    ∧ ∀ (a b : List Mirror) (y : Mirror), v = a ++ y :: b → y.origin = n → y.id = id →
      (∀ w ∈ a ++ b, ¬ (w.origin = n ∧ w.id = id)) →
      (x.takeRoll n listed index (some e)).fv.view = a ++ reported y st e.seq e.time :: b := by
  have view := (rollPass_view (index := index) fresh).trans hv.symm
  have alive : decide (((x.rollPass n index).peer n).fresh = .expired) = false := by
    rw [rollPass_peer, fresh]
    rfl
  rw [takeRoll_entry (rollConsistent_entry inside code state priority)]
  refine ⟨fun absent => ?_, fun a b y split origin key others => ?_⟩
  · have fresh := takeReport_new (st := st) (seq := e.seq) (time := e.time) (mirror?_absent (by rw [view]; exact absent))
    rw [alive] at fresh
    rw [fresh]
    refine ⟨fun room => ?_, fun full => ⟨fun a b y split lower before => ?_, fun turned => ?_⟩⟩
    · exact (insertMirror_room (by rw [view]; exact room) _).trans (by rw [view])
    · exact (insertMirror_evicts (by rw [view]; exact full) (view.trans split) lower before).1
    · obtain ⟨kept, flagged⟩ := insertMirror_turns (s := x.rollPass n index) (by rw [view]; exact full)
        (m := ⟨n, id, st, e.seq, e.time, true, false⟩) (by rw [view]; exact turned)
      exact ⟨kept.trans view, flagged⟩
  · exact takeReport_view (view.trans split) origin key others

/-- After a restart an empty part leaves no mirror of the origin (08 R158). -/
theorem rolled_dropped (s : State) (restart : (s.peer n).restarted seq m.mode = true) (empty : m.entry = none) :
    ∀ x ∈ (rolled s n seq m).fv.view, x.origin ≠ n := by
  obtain ⟨view, roll, -, fresh, -⟩ := viewHeard_found s n seq m
  rw [restart, if_pos rfl] at view roll
  have kept : (rolled s n seq m).fv.view = (viewHeard s n seq m).fv.view := by
    unfold rolled
    rw [empty]
    by_cases listed : m.listed = 0
    · rw [listed, takeRoll_empty]
      have goes : ¬ wraps ((viewHeard s n seq m).rollCall n) m.index := fun h => by
        rw [roll] at h
        cases h.1
      exact (rollPass_goes goes).1
    · rw [takeRoll_bad (rollConsistent_bad (.inl ⟨rfl, listed⟩))]
  rw [kept, view]
  exact fun x hx => of_decide_eq_true (List.mem_filter.mp hx).2

/-- The view and the roll call of the origin after the roll-call part of a SNAP. -/
theorem rolled_part (s : State) {restart : Bool} {v0 v1 : List Mirror} {r0 : RollCall}
    (anew : restart = (s.peer n).restarted seq m.mode)
    (hv0 : v0 = if restart = true then s.fv.view.filter fun x => decide (x.origin ≠ n) else s.fv.view)
    (hr0 : r0 = if restart = true then { s.rollCall n with opened := false } else s.rollCall n)
    (hv1 : v1 = steppedView n r0 m.index v0) :
    ((m.entry = none ∧ m.listed ≠ 0) ∨ (∃ e, m.entry = some e ∧ (m.listed ≤ m.index
        ∨ ∀ id st, alarmIdOf e.id = some id → alarmStateOf e.state = some st → e.priority ≠ alarmPriority id)) →
      (rolled s n seq m).fv.view = v0 ∧ (rolled s n seq m).rollCall n = r0)
    ∧ (PartGood m.listed m.index m.entry → (rolled s n seq m).rollCall n = partRoll r0 m.listed m.index
      ∧ (v1.length < 64 → v1.length < s.fv.view.length → (rolled s n seq m).fv.full = false))
    ∧ (m.entry = none → m.listed = 0 → (rolled s n seq m).fv.view = v1)
    ∧ ∀ e id st, m.entry = some e → m.index < m.listed → alarmIdOf e.id = some id → alarmStateOf e.state = some st →
      e.priority = alarmPriority id →
      ((∀ x ∈ v1, ¬ (x.origin = n ∧ x.id = id)) →
        (v1.length < 64 → (rolled s n seq m).fv.view = v1 ++ [⟨n, id, st, e.seq, e.time, true, false⟩])
        ∧ (64 ≤ v1.length →
          (∀ (a b : List Mirror) (x : Mirror), v1 = a ++ x :: b → alarmPriority id < alarmPriority x.id →
            (∀ y ∈ a, alarmPriority y.id ≤ alarmPriority id) →
            (rolled s n seq m).fv.view = a ++ b ++ [⟨n, id, st, e.seq, e.time, true, false⟩])
          ∧ ((∀ y ∈ v1, alarmPriority y.id ≤ alarmPriority id) → (rolled s n seq m).fv.view = v1
            ∧ (rolled s n seq m).fv.full = true)))
      ∧ ∀ (a b : List Mirror) (x : Mirror), v1 = a ++ x :: b → x.origin = n → x.id = id →
        (∀ y ∈ a ++ b, ¬ (y.origin = n ∧ y.id = id)) →
        (rolled s n seq m).fv.view = a ++ reported x st e.seq e.time :: b := by
  obtain ⟨view, roll, -, fresh, full⟩ := viewHeard_found s n seq m
  rw [← anew] at view roll
  rw [← hv0] at view
  rw [← hr0] at roll
  rw [view] at full
  have stepped : v1 = steppedView n ((viewHeard s n seq m).rollCall n) m.index (viewHeard s n seq m).fv.view := by
    rw [hv1, view, roll]
  refine ⟨fun bad => ?_, fun good => ?_, fun empty none => ?_, fun e id st entry inside code state priority => ?_⟩
  · rw [rolled, takeRoll_bad (rollConsistent_bad bad)]
    exact ⟨view, roll⟩
  · obtain ⟨rolls, ends⟩ := takeRoll_good (n := n) good fresh
    rw [roll] at rolls
    rw [← stepped, view] at ends
    refine ⟨rolls, fun room fewer => ends room ?_⟩
    rcases Nat.lt_or_ge v1.length v0.length with lt | ge
    · exact .inl lt
    · exact .inr (full (by omega) (by omega))
  · rw [rolled, empty, none, takeRoll_empty, stepped]
    exact rollPass_view fresh
  · unfold rolled
    rw [entry]
    exact takeRoll_entry_view fresh stepped inside code state priority

/-! ### The demands of the blocks (05 R94) -/

/-- An operation for each block of distinct zones: a block's own acts on a state that the others left in its zone. -/
theorem foldl_block {R : State → State → Prop} (refl : ∀ x, R x x) (trans : ∀ x y w, R x y → R y w → R x w)
    {op : State → ZoneBlock → State} {b : ZoneBlock} (apart : ∀ x c, c.zone ≠ b.zone → R x (op x c))
    {l : List ZoneBlock} (distinct : (l.map ZoneBlock.zone).Nodup) (mem : b ∈ l) (s : State) :
    ∃ t, R s t ∧ R (op t b) (l.foldl op s) := by
  have absent : ∀ (l : List ZoneBlock), b.zone ∉ l.map ZoneBlock.zone → ∀ x, R x (l.foldl op x) := by
    intro l
    induction l with
    | nil => exact fun _ x => refl x
    | cons c l ih =>
      intro out x
      obtain ⟨ne, out⟩ := not_or.mp (mt List.mem_cons.mpr out)
      exact trans _ _ _ (apart x c (Ne.symm ne)) (ih out _)
  obtain ⟨before, after, rfl⟩ := List.append_of_mem mem
  rw [List.map_append, List.map_cons] at distinct
  obtain ⟨-, rest, between⟩ := List.nodup_append.mp distinct
  rw [List.foldl_append, List.foldl_cons]
  exact ⟨_, absent before (fun h => between _ h _ (List.mem_cons_self ..) rfl) s,
    absent after (List.nodup_cons.mp rest).1 _⟩

theorem blockDemand_demand_other (x : State) {c : ZoneBlock} {z : Zone} (h : c.zone ≠ z) :
    (x.blockDemand c).demand z = x.demand z := by
  unfold State.blockDemand
  split
  · exact adoptDemand_demand_other _ (Ne.symm h)
  · rfl

theorem blockDemand_known (x : State) (b : ZoneBlock) : ((x.blockDemand b).demand b.zone).known
    = match b.demand with
      | some d => if newerDemand (x.demand b.zone).known d = true then some d else (x.demand b.zone).known
      | none => (x.demand b.zone).known := by
  unfold State.blockDemand
  cases b.demand with
  | none => rfl
  | some d =>
    dsimp only
    split
    next newer => exact (adoptDemand_newer newer).1
    next older => rw [adoptDemand_of, if_neg older]

/-- The demand of a zone after the filing (05 R94). -/
theorem fileSnap_known (s : State) (n : Station) (seq : Byte) {m : SnapMsg} (distinct : (m.zones.map ZoneBlock.zone).Nodup)
    {b : ZoneBlock} (mem : b ∈ m.zones) : ((s.fileSnap n seq m).demand b.zone).known
      = match b.demand with
        | some d => if newerDemand (s.demand b.zone).known d = true then some d else (s.demand b.zone).known
        | none => (s.demand b.zone).known := by
  have learnt : (((rolled s n seq m).mapSr fun r => r.learn m.shift m.timeValid).demand b.zone).known
      = (s.demand b.zone).known := by
    obtain ⟨w, p, view⟩ := viewHeard_form s n seq m
    obtain ⟨w', p', roll⟩ := takeRoll_form (viewHeard s n seq m) n m.listed m.index m.entry
    rw [rolled, roll, view]
    exact (unmarked_fields (demand_of_still (t := peerHeard s n seq m) (s := recordFiled s n seq m)
      (State.still_of_plant (peerHeard_plant s n seq m)) b.zone)).1
  obtain ⟨t, before, after⟩ := foldl_block (R := fun x y => (y.demand b.zone).known = (x.demand b.zone).known)
    (fun _ => rfl) (fun _ _ _ h k => k.trans h) (fun x c h => by rw [blockDemand_demand_other x h]) distinct mem
    ((rolled s n seq m).mapSr fun r => r.learn m.shift m.timeValid)
  rw [(unmarked_fields (demand_of_still (fileSnap_still s n seq m) b.zone)).1, demanded, after, blockDemand_known, before,
    learnt]

/-! ### The zones of the blocks (04 R68 to R70, R80, R83) -/

/-- What a zone block finds: the zone as it was, and the record of its origin filed. -/
structure BlockFound (s : State) (n : Station) (m : SnapMsg) (z : Zone) (t : State) : Prop where
  zone : t.zone z = s.zone z
  decides : t.decides = s.decides
  part : t.participates z = s.participates z
  esd : t.esd = s.esd
  other : ∀ k, k ≠ n → t.peer k = s.peer k
  fresh : (t.peer n).fresh = .fresh
  blocks : (t.peer n).zones = m.zones
  chans : (t.peer n).chans = m.chans

theorem peerHeard_found (s : State) (n : Station) (seq : Byte) (m : SnapMsg) (z : Zone) :
    BlockFound s n m z (peerHeard s n seq m) := by
  have plant := peerHeard_plant s n seq m
  have around : surround (peerHeard s n seq m) = surround (recordFiled s n seq m) := surround_of_plant plant
  refine ⟨zone_of_plant (s := recordFiled s n seq m) plant z, decides_of_surround (s := recordFiled s n seq m) around,
    participates_of_config (s := recordFiled s n seq m) (config_of_plant plant) z, congrArg Surround.esd around,
    fun k h => ?_, ?_, ?_, ?_⟩
  · rw [peerHeard_peer]
    exact State.mapPeer_peer_other _ _ (Ne.symm h)
  · rw [peerHeard_peer, recordFiled_peer_same]
    rfl
  · rw [peerHeard_peer, recordFiled_peer_same]
    rfl
  · rw [peerHeard_peer, recordFiled_peer_same]
    rfl

theorem demanded_found (s : State) (n : Station) (seq : Byte) (m : SnapMsg) (z : Zone) :
    BlockFound s n m z (demanded s n seq m) := by
  obtain ⟨zone, decides, part, esd, other, fresh, blocks, chans⟩ := peerHeard_found s n seq m z
  obtain ⟨fa, sr, sp, form⟩ := demanded_form s n seq m
  rw [form]
  exact ⟨zone, decides, part, esd, other, fresh, blocks, chans⟩

variable {z : Zone}

theorem BlockFound.alike {x : State} (f : BlockFound s n m z x) (a : ZoneAlike z x t) : BlockFound s n m z t := by
  have peer : ∀ k, t.peer k = x.peer k := peer_of_surround a.around
  obtain ⟨zone, decides, part, esd, other, fresh, blocks, chans⟩ := f
  exact ⟨a.zone.trans zone, (decides_of_surround a.around).trans decides, (participates_of_config a.config z).trans part,
    (congrArg Surround.esd a.around).trans esd, fun k h => (peer k).trans (other k h), by rw [peer]; exact fresh,
    by rw [peer]; exact blocks, by rw [peer]; exact chans⟩

/-- A block's zone after the filing: what the block makes of a state that finds the zone as it was. -/
theorem fileSnap_zone (s : State) (n : Station) (seq : Byte) {m : SnapMsg} (distinct : (m.zones.map ZoneBlock.zone).Nodup)
    {b : ZoneBlock} (mem : b ∈ m.zones) : ∃ t, BlockFound s n m b.zone t
      ∧ (s.fileSnap n seq m).zone b.zone = (t.takeBlock n (m.mode == .starting) b).zone b.zone := by
  obtain ⟨t, before, after⟩ := foldl_block (R := ZoneAlike b.zone) (fun _ => .refl) (fun _ _ _ => .trans)
    (fun x c h => (takeBlock_works x n (m.mode == .starting) c).alike h) distinct mem (demanded s n seq m)
  exact ⟨t, (demanded_found s n seq m b.zone).alike before, after.zone⟩

variable {b : ZoneBlock}

/-- The origin's own report counts among the peers'. -/
theorem BlockFound.reports (f : BlockFound s n m b.zone t) (mem : b ∈ m.zones) : t.peerReports b.zone b.state = true := by
  refine List.any_eq_true.mpr ⟨n, mem_allStations n, ?_⟩
  rw [f.fresh, f.blocks, beq_self_eq_true, Bool.true_and]
  exact List.any_eq_true.mpr ⟨b, mem, by simp⟩

/-- No FRESH peer reports LIT where none beside the origin does and the origin reports another state. -/
theorem BlockFound.silent (f : BlockFound s n m b.zone t) (distinct : (m.zones.map ZoneBlock.zone).Nodup)
    (mem : b ∈ m.zones) (own : b.state ≠ .lit) (others : ∀ k, k ≠ n → (s.peer k).fresh = .fresh →
      ∀ x ∈ (s.peer k).zones, x.zone = b.zone → x.state ≠ .lit) : t.peerReports b.zone .lit = false := by
  refine List.any_eq_false.mpr fun k _ h => ?_
  obtain ⟨fresh, reports⟩ := Bool.and_eq_true_iff.mp h
  obtain ⟨x, hx, told⟩ := List.any_eq_true.mp reports
  obtain ⟨zone, lit⟩ := Bool.and_eq_true_iff.mp told
  rw [beq_iff_eq] at fresh zone lit
  by_cases origin : k = n
  · rw [origin, f.blocks] at hx
    exact own (by rw [← List.inj_on_of_nodup_map distinct hx mem zone]; exact lit)
  · rw [f.other k origin] at fresh hx
    exact others k origin fresh x hx zone lit

theorem BlockFound.sees (f : BlockFound s n m b.zone t) (mem : b ∈ m.zones) (scanner : b.scanner = some true) :
    t.flameView b.zone = true := by
  have shows : (t.peer n).showsFlame b.zone = true := by
    unfold PeerRecord.showsFlame
    rw [f.fresh, f.blocks, beq_self_eq_true, Bool.true_and]
    exact List.any_eq_true.mpr ⟨b, mem, by simp [scanner]⟩
  unfold State.flameView
  rw [Bool.or_eq_true]
  exact .inr (List.any_eq_true.mpr ⟨n, mem_allStations n, shows⟩)

theorem BlockFound.runs (f : BlockFound s n m z t) {x : FuelSummary} (mem : Summary.fuel x ∈ m.chans) (zone : x.zone = z)
    (running : x.state = .running ∨ x.state = .limited) : t.zoneRuns z = true := by
  have fires : (t.peer n).runsFuel z = true := by
    unfold PeerRecord.runsFuel
    rw [f.fresh, f.chans, beq_self_eq_true, Bool.true_and]
    refine List.any_eq_true.mpr ⟨_, mem, ?_⟩
    dsimp only
    rw [Bool.and_eq_true, Bool.or_eq_true, beq_iff_eq, beq_iff_eq, beq_iff_eq]
    exact ⟨zone, running⟩
  unfold State.zoneRuns
  rw [Bool.or_eq_true]
  exact .inr (List.any_eq_true.mpr ⟨n, mem_allStations n, fires⟩)

/-- The epoch of a block, in a SNAP that is not in STARTING (04 R80, R83). -/
theorem takeBlock_epoch {e : Word} (part : t.participates b.zone = true) (decides : t.decides = true)
    (epoch : b.epoch = some e) : ((t.zone b.zone).epoch = none → ((t.takeBlock n false b).zone b.zone).epoch = some e)
      ∧ ∀ h, (t.zone b.zone).epoch = some h →
        (serialNewer e h = false → ((t.takeBlock n false b).zone b.zone).epoch = some h)
        ∧ (serialNewer e h = true → ((t.takeBlock n false b).zone b.zone).epoch = some e
          ∧ ((t.zone b.zone).state.trippable = true → ((t.takeBlock n false b).zone b.zone).state = .tripped)
          ∧ ((t.zone b.zone).state = .tripped → ((t.takeBlock n false b).zone b.zone).state = .tripped)) := by
  have made : t.takeBlock n false b = blockTests (t.examineEpoch n b) b := takeBlock_eq part decides false
  rw [made, blockTests_epoch]
  refine ⟨fun unknown => ?_, fun h known => ⟨fun older => ?_, fun newer => ?_⟩⟩
  · rw [examineEpoch_unknown epoch unknown, State.mapZone_zone_same]
  · rw [examineEpoch_older epoch known older, known]
  · obtain ⟨held, trips⟩ := examineEpoch_newer (n := n) epoch known newer
    exact ⟨held, fun live => blockTests_tripped (trips (.inl live)), fun tripped => blockTests_tripped (trips (.inr tripped))⟩

/-- Where a block's epoch trips nothing, the tests behind it find the zone in its state. -/
theorem takeBlock_calm {starting : Bool} (part : t.participates b.zone = true) (decides : t.decides = true)
    (calm : starting = true ∨ ∀ e, b.epoch = some e → ∀ h, (t.zone b.zone).epoch = some h → serialNewer e h = false) :
    ∃ x, t.takeBlock n starting b = blockTests x b ∧ (x.zone b.zone).state = (t.zone b.zone).state
      ∧ x.participates b.zone = true ∧ x.decides = true ∧ x.esd = t.esd ∧ x.flameView b.zone = t.flameView b.zone
      ∧ (∀ st, x.peerReports b.zone st = t.peerReports b.zone st) ∧ x.zoneRuns b.zone = t.zoneRuns b.zone := by
  rw [takeBlock_eq part decides]
  cases starting with
  | true => exact ⟨t, rfl, rfl, part, decides, rfl, rfl, fun _ => rfl, rfl⟩
  | false =>
    obtain ⟨r, examined⟩ := examineEpoch_calm (n := n) (calm.resolve_left Bool.noConfusion)
    refine ⟨t.mapZone b.zone fun x => { x with epoch := r }, by rw [if_neg (by decide), examined], ?_, part, decides, rfl, rfl,
      fun _ => rfl, rfl⟩
    rw [State.mapZone_zone_same]

end

/-- Settles O17: by the record, the view, the demands and the zones, each where its stage leaves it. -/
theorem snapFiled : Obligations.SnapFiled := by
  unfold Obligations.SnapFiled
  intro s f head
  refine ⟨fun bad => ?_, fun m parsed => ?_⟩
  · show Host.Outcome.next _ = _
    rw [rxHead_of_heads head]
    dsimp only
    rw [bad]
    rfl
  have acts : exec .snapTaken s = .next (finish s (s.popRx.fileSnap f.origin f.seq m)) := by
    show Host.Outcome.next _ = _
    rw [rxHead_of_heads head]
    dsimp only
    rw [parsed]
  have distinct := parseSnap_distinct parsed
  have settled := finish_still (b := s) (s := s.popRx.fileSnap f.origin f.seq m)
  have fv := (fv_of_still settled).trans (fileSnap_fv s.popRx f.origin f.seq m)
  have roll : ∀ k, (finish s (s.popRx.fileSnap f.origin f.seq m)).rollCall k = (rolled s.popRx f.origin f.seq m).rollCall k :=
    fun k => by rw [State.rollCall, fv, State.rollCall]
  refine ⟨_, acts, ?rx, ?peers, ?dropped, ?others, ?view, _, rfl, ?blocks⟩
  case rx => exact (rx_of_still settled).trans (fileSnap_rx s.popRx f.origin f.seq m)
  case peers =>
    intro k
    rw [State.peer, peers_of_still settled, fileSnap_peers]
    show (recordFiled s.popRx f.origin f.seq m).peer k = _
    by_cases origin : k = f.origin
    · rw [if_pos origin, origin, recordFiled_peer_same]
      rfl
    · rw [if_neg origin]
      exact State.mapPeer_peer_other _ _ (Ne.symm origin)
  case dropped =>
    intro known anew entry x hx
    rw [fv] at hx
    exact rolled_dropped s.popRx ((restarted_iff (s.peer f.origin) f.seq m.mode).mpr ⟨known, anew⟩) entry x hx
  case others =>
    intro k h
    rw [roll k, rolled, takeRoll_rollCall_other _ h]
    exact (viewHeard_found s.popRx f.origin f.seq m).others k h
  case view =>
    intro restart v0 v1 r0 anew hv0 hr0 hv1
    have same : restart = (s.peer f.origin).restarted f.seq m.mode :=
      Bool.eq_iff_iff.mpr (anew.trans (restarted_iff (s.peer f.origin) f.seq m.mode).symm)
    rw [fv, roll f.origin]
    exact rolled_part s.popRx same hv0 hr0 hv1
  case blocks =>
    intro b mem
    have known := fileSnap_known s.popRx f.origin f.seq distinct mem
    obtain ⟨t, found, zone⟩ := fileSnap_zone s.popRx f.origin f.seq distinct mem
    have held : (t.zone b.zone) = s.zone b.zone := found.zone
    refine ⟨fun d demand => ?_, fun demand => ?_, fun decides part => ⟨fun mode e epoch => ?_, fun calm esd => ?_⟩⟩
    · rw [known, demand]
      refine if_congr ?_ rfl rfl
      exact (newerDemand_iff (s.demand b.zone).known d).trans (by
        cases (s.demand b.zone).known with
        | none => exact ⟨fun _ => rfl, fun _ => trivial⟩
        | some h => simp)
    · rw [known, demand]
      rfl
    · have running : (m.mode == .starting) = false := beq_eq_false_iff_ne.mpr mode
      have acts := takeBlock_epoch (t := t) (n := f.origin) (found.part.trans part) (found.decides.trans decides) epoch
      rw [zone, running]
      rw [held] at acts
      exact acts
    · obtain ⟨x, made, state, xPart, xDecides, xEsd, view, reports, runs⟩ := takeBlock_calm (t := t) (n := f.origin)
        (starting := m.mode == .starting) (found.part.trans part) (found.decides.trans decides)
        (by rw [held, beq_iff_eq]; exact calm)
      rw [held] at state
      have released : x.esd = false := xEsd.trans (found.esd.trans esd)
      rw [zone, made]
      refine ⟨fun purging ready => ?_, fun dark ready others => ?_, fun dark lit scanner => ?_, fun ready scanner fires => ?_⟩
      · exact blockTests_purging xPart xDecides released (state.trans purging) ready
      · refine blockTests_readied xPart xDecides released (state.trans dark) ready ((reports _).trans ?_)
        exact found.silent distinct mem (by rw [ready]; decide) others
      · refine blockTests_lit xPart xDecides released (state.trans dark) lit (view.trans (found.sees mem scanner)) ?_
        rw [reports, ← lit]
        exact found.reports mem
      · obtain ⟨y, summary, fired, running⟩ := fires
        exact blockTests_lights xPart xDecides (state.trans ready) (view.trans (found.sees mem scanner))
          (runs.trans (found.runs summary fired running))

end Sys2Proof.Proofs
end
